-- ==== Sys2Proof/Word.lean ====
section
/-! DEFINITION. The plain words of the model: bytes, ticks, and the four-fold and six-fold groups the FC440 is built of. -/

namespace Sys2Proof

/-- One byte of a link. -/
abbrev Byte := BitVec 8

/-- A reading of the timebase: 48 bits, 10 ns each (R1). -/
abbrev Tick := BitVec 48

/-- The index of a group of four like things: axes, monitors and probes. -/
inductive Quad where
  | q0 | q1 | q2 | q3
  deriving DecidableEq, Repr

/-- The number of a member, 0 to 3. -/
def Quad.toNat : Quad → Nat
  | .q0 => 0
  | .q1 => 1
  | .q2 => 2
  | .q3 => 3

/-- The four members in their order. -/
def Quad.all : List Quad := [.q0, .q1, .q2, .q3]

/-- Axis A0 to A3: sample link, receiver and phase unit of the same number. -/
abbrev Axis := Quad

/-- Monitor 0 to 3. -/
abbrev MonitorId := Quad

/-- Scale temperature probe; `q0` is probe 1 and `q3` probe 4. -/
abbrev ProbeId := Quad

/-- Four like things, one per member of a group. -/
structure Four (α : Type) where
  i0 : α
  i1 : α
  i2 : α
  i3 : α
  deriving DecidableEq, Repr

namespace Four

variable {α β : Type}

/-- The same thing four times. -/
def replicate (x : α) : Four α := ⟨x, x, x, x⟩

/-- The member with the given index. -/
def get (f : Four α) : Quad → α
  | .q0 => f.i0
  | .q1 => f.i1
  | .q2 => f.i2
  | .q3 => f.i3

/-- The group with one member replaced. -/
def set (f : Four α) (i : Quad) (x : α) : Four α :=
  match i with
  | .q0 => { f with i0 := x }
  | .q1 => { f with i1 := x }
  | .q2 => { f with i2 := x }
  | .q3 => { f with i3 := x }

/-- The group with a function of index and member in place of each member. -/
def mapIdx (g : Quad → α → β) (f : Four α) : Four β :=
  ⟨g .q0 f.i0, g .q1 f.i1, g .q2 f.i2, g .q3 f.i3⟩

/-- The members in order. -/
def toList (f : Four α) : List α := [f.i0, f.i1, f.i2, f.i3]

end Four

/-- One of the six sources, always listed in the order A0, A1, A2, A3, M, W. -/
inductive Source where
  /-- A physical axis. -/
  | phys (a : Axis)
  /-- The mean of A0 and A1. -/
  | m
  /-- A0 minus A1. -/
  | w
  deriving DecidableEq, Repr

namespace Source

/-- The number of a source in the fixed order, 0 to 5. -/
def toNat : Source → Nat
  | .phys a => a.toNat
  | .m => 4
  | .w => 5

/-- The six sources in their order. -/
def all : List Source := [.phys .q0, .phys .q1, .phys .q2, .phys .q3, .m, .w]

/-- A source is formed from an axis: it is that axis, or it is M or W and the axis is A0 or A1. -/
def dependsOn (x : Source) (a : Axis) : Bool :=
  match x with
  | .phys b => b == a
  | .m => a == .q0 || a == .q1
  | .w => a == .q0 || a == .q1

end Source

/-- Six like things, one per source. -/
structure Six (α : Type) where
  axes : Four α
  m : α
  w : α
  deriving DecidableEq, Repr

namespace Six

variable {α : Type}

/-- The thing of a source. -/
def get (f : Six α) : Source → α
  | .phys a => f.axes.get a
  | .m => f.m
  | .w => f.w

/-- The group with the thing of one source replaced. -/
def set (f : Six α) (x : Source) (v : α) : Six α :=
  match x with
  | .phys a => { f with axes := f.axes.set a v }
  | .m => { f with m := v }
  | .w => { f with w := v }

end Six

/-- A subset of the six sources, bit 0 for A0 up to bit 5 for W (R175). -/
abbrev SourceSet := BitVec 6

/-- Membership of a source in a set. -/
def SourceSet.has (m : SourceSet) (x : Source) : Bool := m.getLsbD x.toNat

/-- A subset of a group of four, bit 0 for the first member (R175). -/
abbrev QuadSet := BitVec 4

/-- Membership in a subset of a group of four. -/
def QuadSet.has (m : QuadSet) (i : Quad) : Bool := m.getLsbD i.toNat

/-- A trigger input of the Line Capture Unit. -/
inductive TrigInput where
  | t0 | t1
  deriving DecidableEq, Repr

/-- One thing per trigger input. -/
structure Two (α : Type) where
  t0 : α
  t1 : α
  deriving DecidableEq, Repr

namespace Two

variable {α : Type}

/-- The thing of an input. -/
def get (f : Two α) : TrigInput → α
  | .t0 => f.t0
  | .t1 => f.t1

/-- The pair with the thing of one input replaced. -/
def set (f : Two α) (i : TrigInput) (x : α) : Two α :=
  match i with
  | .t0 => { f with t0 := x }
  | .t1 => { f with t1 := x }

end Two

end Sys2Proof
end

