-- ==== Sys2Proof/Syntax.lean ====
section
/-! DEFINITION. The commands of the FC440: one constructor per row of spec/opcode_table.json, with the row's operands.

A command is taken at the tick the timebase shows when it is taken, so no command carries its own tick (DESIGN CHOICE,
log entry 20). A row is one act, and a row that ends a frame carries the whole of it; the bits and characters by which a
frame arrives are no rows but `LineEvent`s, and what they have assembled is state (DESIGN CHOICE, log entry 19). Where a
command reads the level of a pin (the wired level of ALERT, HSEL at a reset), that level is an operand of the command
(DESIGN CHOICE, log entry 6). -/

namespace Sys2Proof

/-- The direction of an edge seen on a trigger input. -/
inductive EdgeDir where
  | rise | fall
  deriving DecidableEq, Repr

/-- One character of the conditions link: its data byte, whether its stop bit was correct, and the tick at which it began
(R72). -/
structure CondChar where
  byte : Byte
  stopOk : Bool
  began : Tick
  deriving DecidableEq, Repr

/-- What makes a character a line error (R143). -/
inductive LineFault where
  | parity
  | stopBit
  /-- A LEN byte outside 1..23. -/
  | badLen (len : Byte)
  deriving DecidableEq, Repr

/-- The commands. A host command carries `body`, the bytes of its frame after the CODE byte: LEN, then the parameters,
then whatever the host clocked beyond them; it is empty where the frame ended after its CODE (R162, R163). -/
inductive Instr where
  /-- SAMPLE_FRAME: a frame of the given bits, first bit first, ends on the axis's sample link. -/
  | sampleFrame (axis : Axis) (bits : List Bool)
  /-- SILENCE_TIMER_EXPIRY. -/
  | silenceTimerExpiry (axis : Axis)
  /-- CONDITIONS_FRAME: a frame of these characters ends on the conditions link. -/
  | conditionsFrame (chars : List CondChar)
  /-- STALENESS_TIMER_EXPIRY. -/
  | stalenessTimerExpiry
  /-- K_COMPUTATION_COMPLETE. -/
  | kComputationComplete
  /-- SYNC_EDGE. -/
  | syncEdge
  /-- SYNC_WATCH_EXPIRY. -/
  | syncWatchExpiry
  /-- FRAME_TIMER_EXPIRY. -/
  | frameTimerExpiry
  /-- SERVO_READ_START: the first clock of a read, with the bit it takes from SDI. -/
  | servoReadStart (sdi : Bool)
  /-- SERVO_READ_COMPLETE: the clock of the last CRC bit; `word` is the command word, first bit most significant. -/
  | servoReadComplete (word : BitVec 8)
  /-- SERVO_ARM: a completion whose command word carries ARM. -/
  | servoArm (word : BitVec 8)
  /-- SERVO_DISARM: a completion whose command word carries DISARM. -/
  | servoDisarm (word : BitVec 8)
  /-- SERVO_DESELECT: SSEL goes high. -/
  | servoDeselect
  /-- TRIGGER_EDGE. -/
  | triggerEdge (input : TrigInput) (edge : EdgeDir)
  /-- DEAD_TIME_END. -/
  | deadTimeEnd (input : TrigInput)
  /-- CAPTURE_TIMEOUT_EXPIRY. -/
  | captureTimeoutExpiry
  /-- MICRO_QUEUE_CONTEXT: a complete message; `params` are the bytes after its CODE. -/
  | microQueueContext (params : List Byte)
  /-- FLUSH_OWN. -/
  | flushOwn (params : List Byte)
  /-- QUERY. -/
  | query (params : List Byte)
  /-- MICRO_UNKNOWN_CODE. -/
  | microUnknownCode (code : Byte) (params : List Byte)
  /-- LINE_ERROR: `began` is the tick at which the character in error began. -/
  | lineError (fault : LineFault) (began : Tick)
  /-- GAP_DISCARD. -/
  | gapDiscard
  /-- SILENCE_WAIT_END. -/
  | silenceWaitEnd
  /-- MESSAGE_SENT. -/
  | messageSent
  /-- PULSE_TIMER_EXPIRY. -/
  | pulseTimerExpiry
  /-- GAP_TIMER_EXPIRY. -/
  | gapTimerExpiry
  /-- MINIMUM_LEVEL_EXPIRY. -/
  | minimumLevelExpiry
  /-- RESPONSE_READY. -/
  | responseReady
  /-- UNKNOWN_COMMAND: a command frame whose CODE names no command. -/
  | unknownCommand (code : Byte) (body : List Byte)
  /-- FETCH: a FETCH frame in which the host clocks `clocked` whole bytes after the CODE byte. -/
  | fetch (clocked : Nat)
  /-- RESET_UNIT: `hselLow` is the level of HSEL when the reset is taken. -/
  | resetUnit (body : List Byte) (hselLow : Bool)
  /-- POWER_ON_RESET: `hselLow` is the level of HSEL when the reset is taken. -/
  | powerOnReset (hselLow : Bool)
  /-- READ_STATUS: `wiredLow` is the level on the ALERT pin when it is sampled. -/
  | readStatus (body : List Byte) (wiredLow : Bool)
  /-- READ_POSITION. -/
  | readPosition (body : List Byte)
  /-- CLEAR_EVENTS. -/
  | clearEvents (body : List Byte)
  /-- SET_EVENT_MASK. -/
  | setEventMask (body : List Byte)
  /-- SET_LINK. -/
  | setLink (body : List Byte)
  /-- READ_LINK_COUNTERS. -/
  | readLinkCounters (body : List Byte)
  /-- SET_CORRECTION. -/
  | setCorrection (body : List Byte)
  /-- SET_AMPLITUDE. -/
  | setAmplitude (body : List Byte)
  /-- SET_DIRECTION. -/
  | setDirection (body : List Byte)
  /-- SET_BRIDGE. -/
  | setBridge (body : List Byte)
  /-- READ_TRACKING. -/
  | readTracking (body : List Byte)
  /-- ENABLE_AXIS. -/
  | enableAxis (body : List Byte)
  /-- DISABLE_AXIS. -/
  | disableAxis (body : List Byte)
  /-- ACK_FAULT. -/
  | ackFault (body : List Byte)
  /-- DATUM_NOW. -/
  | datumNow (body : List Byte)
  /-- SET_DATUM_PRESET. -/
  | setDatumPreset (body : List Byte)
  /-- DATUM_AT_MARK. -/
  | datumAtMark (body : List Byte)
  /-- RELEASE_AXIS. -/
  | releaseAxis (body : List Byte)
  /-- AXIS_RESTART. -/
  | axisRestart (body : List Byte)
  /-- HOLD_OUTPUT: the frame's action is HOLD, or none that is named. -/
  | holdOutput (body : List Byte)
  /-- HOLD_OUTPUT_RELEASE: the same command with the action RELEASE. -/
  | holdOutputRelease (body : List Byte)
  /-- SET_OPTICS. -/
  | setOptics (body : List Byte)
  /-- SET_CONDITIONS. -/
  | setConditions (body : List Byte)
  /-- SET_EXPANSION. -/
  | setExpansion (body : List Byte)
  /-- SET_PLAUSIBILITY. -/
  | setPlausibility (body : List Byte)
  /-- SET_PROBE. -/
  | setProbe (body : List Byte)
  /-- READ_CONDITIONS. -/
  | readConditions (body : List Byte)
  /-- SET_FRAME. -/
  | setFrame (body : List Byte)
  /-- SET_SAMPLE_CHECK. -/
  | setSampleCheck (body : List Byte)
  /-- SET_NOTIFY. -/
  | setNotify (body : List Byte)
  /-- READ_FRAME_STATE. -/
  | readFrameState (body : List Byte)
  /-- SET_LAYOUT. -/
  | setLayout (body : List Byte)
  /-- READ_SERVO_STATE. -/
  | readServoState (body : List Byte)
  /-- SET_TRIGGER. -/
  | setTrigger (body : List Byte)
  /-- QUEUE_CONTEXT. -/
  | queueContext (body : List Byte)
  /-- FLUSH_CONTEXTS. -/
  | flushContexts (body : List Byte)
  /-- SET_CAPTURE. -/
  | setCapture (body : List Byte)
  /-- READ_CAPTURES. -/
  | readCaptures (body : List Byte)
  /-- READ_CAPTURE_STATE. -/
  | readCaptureState (body : List Byte)
  /-- SET_MICRO_LINK. -/
  | setMicroLink (body : List Byte)
  /-- SET_MONITOR. -/
  | setMonitor (body : List Byte)
  /-- CLEAR_MONITOR. -/
  | clearMonitor (body : List Byte)
  /-- SET_ALERT. -/
  | setAlert (body : List Byte)
  /-- READ_ALERT_STATE: `wiredLow` is the level on the ALERT pin when it is sampled. -/
  | readAlertState (body : List Byte) (wiredLow : Bool)
  /-- HSEL_SEEN_HIGH. -/
  | hselSeenHigh
  /-- CHARACTER_WHILE_WAITING_FOR_SILENCE: whether the character carries a line error, and the tick at which it began. -/
  | characterWhileWaitingForSilence (lineError : Bool) (began : Tick)
  deriving DecidableEq, Repr

end Sys2Proof
end

