-- ==== Sys2Proof/Decode.lean ====
section
/-! DEFINITION. From a word of the table's bits to a command. No row of spec/opcode_table.json gives bits: the FC440
takes frames, messages and edges on many links and fetches no instruction word, so no word spells a command. -/

namespace Sys2Proof

/-- The command a word of the table's bits spells: none, since no row of the table has bits. -/
def decodeTableWord (_nbits _w : Nat) : Option Instr := none

end Sys2Proof
end

