-- ==== Sys2Proof/Config.lean ====
section
/-! DEFINITION. What is fixed for the part: the bounds the spec sets on its latencies, the capacities of its queues,
and the one choice the spec leaves open inside a single event. -/

namespace Sys2Proof.Config

/-- The order of snapshot and K activation at one frame event. The spec allows either order (R83, R89) and no rule
chooses, so the order is a free value: `snapshotFirst n` is true when the `n`-th frame event takes the snapshot first.
It has no body, so nothing can be proved of its value (DESIGN CHOICE, log entry 3). -/
opaque snapshotFirst : Nat → Bool

/-- A K computation completes no later than 12 µs after it starts (R80), in ticks; when before that, is the sender's choice
(DESIGN CHOICE, log entry 4). -/
def kLatencyMax : Nat := 1200

/-- A response is ready no later than 50 µs after its frame ended (R164), in ticks. -/
def responseLatencyMax : Nat := 5000

/-- Ticks in a microsecond. -/
def ticksPerMicrosecond : Nat := 100

/-- Ticks in a second. -/
def ticksPerSecond : Nat := 100000000

/-- A conditions frame ends when more than this many ticks have passed since its last character began: 4 character times of
10 bits at 115 200 bits per second (R72). -/
def conditionsGapTicks : Nat := 34722

/-- The largest LEN of a microscope message (R142). -/
def maxMicroLength : Nat := 23

/-- The microscope link's character is 11 bit times (R142). -/
def microCharBits : Nat := 11

/-- Entries of a sample history (R41). -/
def historyCapacity : Nat := 8

/-- Contexts of the context queue (R122). -/
def contextCapacity : Nat := 4

/-- Records of the record queue (R134). -/
def recordCapacity : Nat := 32

/-- Messages of the outgoing queue (R145). -/
def outgoingCapacity : Nat := 4

/-- The largest LEN of a command frame (R163). -/
def maxParamLength : Nat := 60

/-- The most data a response holds (R164). -/
def maxResponseData : Nat := 1020

/-- The largest CODE of a command, READ_ALERT_STATE (R175, host port frames). -/
def lastCommandCode : Nat := 0x2C

end Sys2Proof.Config
end

