-- ==== Sys2Proof/Machine/Arith.lean ====
section
/-! DEFINITION. The arithmetic the chapters share: rounding, clamping and saturating (scope file, Arithmetic), the order
of instants (R1), and the exact phase of a pair (R25). -/

namespace Sys2Proof.Machine

/-- Quotient rounded to the nearest integer, half away from zero (scope file, Arithmetic). -/
def roundDiv (n d : Int) : Int :=
  let q : Nat := (2 * n.natAbs + d.natAbs) / (2 * d.natAbs)
  if decide (n < 0) = decide (d < 0) then (q : Int) else -(q : Int)

/-- A value set to the nearer limit of a range (scope file, Arithmetic). -/
def clampTo (lo hi x : Int) : Int := max lo (min hi x)

/-- A saturating counter after `k` more counts. -/
def satAdd (top count k : Nat) : Nat := min top (count + k)

/-- A value lies in a range, both ends in. -/
def inRange (lo hi x : Int) : Bool := decide (lo ≤ x) && decide (x ≤ hi)

/-! ## Instants (R1) -/

/-- The difference of two instants, read as a signed number in −2^47..2^47 − 1. -/
def elapsed (now start : Tick) : Int := (now - start).toInt

/-- The first instant is later than the second. -/
def later (a b : Tick) : Bool := decide (0 < elapsed a b)

/-- The smaller of two instants. -/
def earlier (a b : Tick) : Tick := if later a b then b else a

/-- At least `period` ticks have passed from `start` to `now`. -/
def passed (now start : Tick) (period : Nat) : Bool := decide ((period : Int) ≤ elapsed now start)

/-- A running timer is due. -/
def timerDue (now : Tick) (timer : Option Tick) (period : Nat) : Bool :=
  match timer with
  | some start => passed now start period
  | none => false

/-- A tick some ticks after another, modulo 2^48. -/
def ticksAfter (t : Tick) (n : Nat) : Tick := t + BitVec.ofNat 48 n

/-- A tick some ticks before another, modulo 2^48. -/
def ticksBefore (t : Tick) (n : Nat) : Tick := t - BitVec.ofNat 48 n

/-! ## Phase (R25) -/

/-- The angle of the point (c, s) lies in the second half turn. -/
def inSecondHalf (c s : Int) : Bool := decide (s < 0) || (decide (s = 0) && decide (c < 0))

/-- The first `k` binary digits of the angle of (c, s) as a fraction of a turn, after the digits already in `acc`.
Squaring c + i·s doubles its angle, so each digit is exact. -/
def turnDigits : Nat → Int → Int → Nat → Nat
  | 0, _, _, acc => acc
  | k + 1, c, s, acc => turnDigits k (c * c - s * s) (2 * c * s) (2 * acc + (if inSecondHalf c s then 1 else 0))

/-- The phase of a corrected pair: 512 × θ / 2π rounded to nearest, a tie upward, modulo 512. The ten digits are
⌊1024 × θ / 2π⌋, and rounding half of that number upward rounds 512 × θ / 2π as R25 states. -/
def phaseOf (s1 c2 : Int) : BitVec 9 := BitVec.ofNat 9 ((turnDigits 10 c2 s1 0 + 1) / 2)

/-! ## Ranges -/

/-- The least count ACC holds (R31). -/
def accMin : Int := -549755813888

/-- The greatest count ACC holds (R31). -/
def accMax : Int := 549755813887

/-- The greatest length of a servo slot, 2^43 − 1 (R87). -/
def slotLengthMax : Int := 8796093022207

/-- The greatest length of a capture entry or READ_POSITION value, 2^47 − 1 (R87). -/
def lengthMax : Int := 140737488355327

/-- The greatest monitor bound, 2^40 − 1 (R147). -/
def boundMax : Int := 1099511627775

end Sys2Proof.Machine
end

