-- ==== Sys2Proof/Machine/State.lean ====
section
/-! DEFINITION. The state of the FC440 as plain data, block by block as the scope file's Block Overview lists them, the
reasons a step can stop, and the state after power-on reset. -/

namespace Sys2Proof.Machine

/-! ## Sample Link Receiver (chapter Sample Links) -/

/-- The lock machine of a receiver, in the order R175's enumeration takes from R15. -/
inductive LinkState where
  | down | acquiring | locked
  deriving DecidableEq, Repr

/-- A receiver SLRn with its settings and link counters (R6 to R17). -/
structure Receiver where
  link : LinkState
  /-- Last sequence number, absent in DOWN. -/
  lastSeq : Option (BitVec 6)
  /-- Good-run count, 0..16; it stands at 16 in LOCKED (DESIGN CHOICE, log entry 18). -/
  goodRun : Nat
  /-- Bad-run count, 0..7. -/
  badRun : Nat
  /-- Silence timer: the arrival tick it runs from, or stopped. -/
  silence : Option Tick
  /-- Good frames, 32 bits, wrapping. -/
  goodFrames : BitVec 32
  /-- CRC errors, 16 bits, saturating. -/
  crcErrors : Nat
  /-- Gaps, 16 bits, saturating. -/
  gaps : Nat
  /-- Out of order and duplicate, 16 bits, saturating. -/
  outOfOrder : Nat
  /-- Lock losses, 8 bits, saturating. -/
  lockLosses : Nat
  /-- BAD_RUN_LIMIT, 1..7. -/
  badRunLimit : Nat
  /-- LINK_TIMEOUT in µs, 1..255. -/
  linkTimeout : Nat
  /-- SAMPLE_DELAY in ticks, 0..1023. -/
  sampleDelay : Nat
  /-- The frame being assembled: the bits taken since its start, first bit first; absent between frames, and after a reset
  until the next frame starts (R2, R17). -/
  frame : Option (List Bool)
  deriving DecidableEq, Repr

/-- A receiver after reset (R17). -/
def Receiver.reset : Receiver where
  link := .down
  lastSeq := none
  goodRun := 0
  badRun := 0
  silence := none
  goodFrames := 0
  crcErrors := 0
  gaps := 0
  outOfOrder := 0
  lockLosses := 0
  badRunLimit := 3
  linkTimeout := 2
  sampleDelay := 0
  frame := none

/-! ## Phase Unit (chapters Phase Measurement and Axis States) -/

/-- The correction record of an axis (R20, R21). -/
structure Correction where
  os : Int
  oc : Int
  gs : Int
  gc : Int
  q : Int
  deriving DecidableEq, Repr

/-- Counting direction DIR (R30). -/
inductive CountDir where
  | plus | minus
  deriving DecidableEq, Repr

/-- How a history entry was made (R40). -/
inductive SampleKind where
  | real | bridged
  deriving DecidableEq, Repr

/-- An entry of the sample history (R40). -/
structure HistEntry where
  instant : Tick
  acc : Int
  kind : SampleKind
  epoch : BitVec 4
  deriving DecidableEq, Repr

/-- Axis states (R45 to R57). -/
inductive AxisState where
  | off | unreferenced | armed | referenced | faulted
  deriving DecidableEq, Repr

/-- Direction requirement of a datum (R55). -/
inductive MarkDir where
  | positive | negative | any
  deriving DecidableEq, Repr

/-- A datum: a count in steps and a direction requirement (R52, R53). -/
structure Datum where
  value : Int
  direction : MarkDir
  deriving DecidableEq, Repr

/-- Causes of integrity loss, in the order of the further-causes bits (R48, R175). -/
inductive Cause where
  | link | dropout | beam | step | range
  deriving DecidableEq, Repr

/-- The fault record of a FAULTED axis (R49); the further causes are a set of five, bit 0 for LINK. -/
structure FaultRecord where
  first : Cause
  further : BitVec 5
  tick : Tick
  deriving DecidableEq, Repr

/-- The counting record of an axis, PHUn. -/
structure PhaseUnit where
  correction : Correction
  ampLow : Nat
  ampHigh : Nat
  dir : CountDir
  /-- BRIDGE_MAX in force, 0..3. -/
  bridgeMax : Nat
  pendingBridgeMax : Option Nat
  /-- Phase reference, 0..511, or absent. -/
  pRef : Option (BitVec 9)
  /-- Last real increment, −192..192. -/
  dLast : Int
  /-- Last real interval in ticks, or absent. -/
  lastInterval : Option Nat
  /-- Real-run count, 0..2. -/
  realRun : Nat
  /-- Consecutive-missing count. -/
  missing : Nat
  /-- The accumulator, a signed 40-bit count of steps. -/
  acc : Int
  /-- Sample history, oldest first, at most 8 entries. -/
  history : List HistEntry
  saturated : Bool
  bridged : Bool
  state : AxisState
  /-- The lock view: true for LOCKED (R45). -/
  lockView : Bool
  epoch : BitVec 4
  preset : Datum
  /-- The armed datum, present only in ARMED. -/
  armed : Option Datum
  /-- The fault record, present only in FAULTED. -/
  fault : Option FaultRecord
  hold : Int
  deriving DecidableEq, Repr

/-- A phase unit after reset (R44, R65). -/
def PhaseUnit.reset : PhaseUnit where
  correction := { os := 0, oc := 0, gs := 16384, gc := 16384, q := 0 }
  ampLow := 4096
  ampHigh := 30000
  dir := .plus
  bridgeMax := 2
  pendingBridgeMax := none
  pRef := none
  dLast := 0
  lastInterval := none
  realRun := 0
  missing := 0
  acc := 0
  history := []
  saturated := false
  bridged := false
  state := .off
  lockView := false
  epoch := 0
  preset := { value := 0, direction := .any }
  armed := none
  fault := none
  hold := 0

/-! ## Compensation Unit (chapter Length Compensation) -/

/-- Optical settings of an axis (R66): wavelength in pm, fold, vacuum flag, thermal flag. -/
structure Optics where
  lambda : Nat
  fold : Nat
  vacuum : Bool
  thermal : Bool
  deriving DecidableEq, Repr

/-- Where a conditions value comes from (R68). -/
inductive CondSource where
  | manual | awaiting | station
  deriving DecidableEq, Repr

/-- Two-point calibration of a probe (R74, R76). -/
structure ProbeCal where
  c1 : Nat
  tc1 : Nat
  c2 : Nat
  tc2 : Nat
  deriving DecidableEq, Repr

/-- The kept result of a probe: T_k in m°C and whether it was included (R74). -/
structure ProbeReading where
  tk : Int
  included : Bool
  deriving DecidableEq, Repr

/-- The inputs of a K computation, taken at its start (R80). -/
structure KInputs where
  n : Nat
  e : Int
  optics : Four Optics
  deriving DecidableEq, Repr

/-- A K computation in progress: its inputs and the tick at which it started. -/
structure KComputation where
  inputs : KInputs
  start : Tick
  deriving DecidableEq, Repr

/-- The four step lengths K0..K3, in 2^-16 pm per step. -/
abbrev KSet := Four Nat

/-- The Compensation Unit (R66 to R88). -/
structure Compensation where
  optics : Four Optics
  /-- Refractivity N in ppb. -/
  n : Nat
  nSource : CondSource
  /-- Scale temperature T_S in m°C. -/
  tS : Int
  tSource : CondSource
  /-- α in ppb per kelvin. -/
  alpha : Int
  /-- The thermal term E in ppt. -/
  e : Int
  nMin : Nat
  nMax : Nat
  tMin : Nat
  tMax : Nat
  /-- COND_TIMEOUT in s. -/
  condTimeout : Nat
  probes : Four ProbeCal
  readings : Four (Option ProbeReading)
  heldN : Bool
  heldT : Bool
  stale : Bool
  /-- Staleness timer: the tick of its last start, or stopped. -/
  staleness : Option Tick
  lastSeq : Option Byte
  /-- Accepted frames, 16 bits, wrapping. -/
  accepted : BitVec 16
  /-- CRC errors, 16 bits, saturating. -/
  crcErrors : Nat
  /-- Duplicates, 16 bits, saturating. -/
  duplicates : Nat
  active : KSet
  compGen : BitVec 8
  /-- The staged K set, present while it is newer than the active set. -/
  staged : Option KSet
  /-- The computation in progress: absent for IDLE, present for COMPUTING. -/
  computing : Option KComputation
  recompute : Bool
  /-- The conditions frame being assembled, first character first (R72). -/
  frame : List CondChar
  deriving DecidableEq, Repr

/-- The Compensation Unit after reset (R88). -/
def Compensation.reset : Compensation where
  optics := Four.replicate { lambda := 632991, fold := 4, vacuum := false, thermal := false }
  n := 0
  nSource := .manual
  tS := 20000
  tSource := .manual
  alpha := 0
  e := 0
  nMin := 150000
  nMax := 350000
  tMin := 10000
  tMax := 30000
  condTimeout := 5
  probes := Four.replicate { c1 := 0, tc1 := 0, c2 := 50000, tc2 := 50000 }
  readings := Four.replicate none
  heldN := false
  heldT := false
  stale := false
  staleness := none
  lastSeq := none
  accepted := 0
  crcErrors := 0
  duplicates := 0
  active := Four.replicate 20255712
  compGen := 0
  staged := none
  computing := none
  recompute := false
  frame := []

/-! ## Frame Unit (chapter Frame Events) -/

/-- Frame mode (R96). -/
inductive FrameMode where
  | externalWithFallback | internalOnly
  deriving DecidableEq, Repr

/-- Frame source (R91 to R95). -/
inductive FrameSource where
  | external | internal
  deriving DecidableEq, Repr

/-- Kind of a frame event (R89). -/
inductive FrameKind where
  | sync | timer
  deriving DecidableEq, Repr

/-- The last interval record of an axis (R98). -/
structure IntervalRecord where
  tally : Nat
  checked : Bool
  failed : Bool
  deriving DecidableEq, Repr

/-- The sample-count check of an axis (R97 to R99). -/
structure SampleCheck where
  /-- Sample tally, saturating at 16 777 215. -/
  tally : Nat
  /-- Lock at last event: true for LOCKED. -/
  lockAtLast : Bool
  expect : Nat
  tol : Nat
  last : IntervalRecord
  deriving DecidableEq, Repr

/-- The Frame Unit (R89 to R103). -/
structure FrameUnit where
  mode : FrameMode
  source : FrameSource
  /-- FRAME_PERIOD in µs. -/
  period : Nat
  /-- SYNC watch timer: the tick of its last start, or stopped. -/
  watch : Option Tick
  /-- Frame timer: the tick of its last start, or stopped. -/
  timer : Option Tick
  frameNo : BitVec 16
  notifyN : Nat
  notifyCount : Nat
  checks : Four SampleCheck
  deriving DecidableEq, Repr

/-- The Frame Unit after reset (R103). -/
def FrameUnit.reset : FrameUnit where
  mode := .externalWithFallback
  source := .external
  period := 250
  watch := some 0
  timer := none
  frameNo := 0
  notifyN := 0
  notifyCount := 0
  checks := Four.replicate
    { tally := 0, lockAtLast := false, expect := 0, tol := 0, last := { tally := 0, checked := false, failed := false } }

/-! ## Servo Port (chapter Servo Port) -/

/-- Unit of a slot or of READ_POSITION. -/
inductive LengthUnit where
  | pm | steps
  deriving DecidableEq, Repr

/-- A slot description of a layout (R105). -/
structure SlotDesc where
  source : Source
  unit : LengthUnit
  deriving DecidableEq, Repr

/-- The six items of a snapshot header that are taken at the frame event (R111); REPEAT is fixed by each read. -/
structure Header where
  frameNo : BitVec 12
  compGen : BitVec 4
  layoutGen : BitVec 4
  internal : Bool
  condHeld : Bool
  alertOwn : Bool
  deriving DecidableEq, Repr

/-- A slot of a snapshot (R108, R110). -/
structure Slot where
  value : Int
  valid : Bool
  held : Bool
  fault : Bool
  armed : Bool
  bridged : Bool
  saturated : Bool
  locked : Bool
  monitor : Bool
  epoch : BitVec 4
  deriving DecidableEq, Repr

/-- A snapshot (R107). -/
structure Snapshot where
  header : Header
  slots : List Slot
  deriving DecidableEq, Repr

/-- A read in progress (R104, R112, R113). -/
structure ServoRead where
  /-- The frame it shifts out, fixed at its first clock. -/
  content : List Bool
  /-- The number of clocks it has taken. -/
  clocks : Nat
  /-- The bits of the command word taken so far, at most 8, first bit first. -/
  word : List Bool
  deriving DecidableEq, Repr

/-- Where the port stands in the present selection (R104, R112 to R116). -/
inductive ReadPhase where
  /-- No clock has been taken in this selection, or SSEL is high. -/
  | idle
  /-- A read is in progress. -/
  | reading (r : ServoRead)
  /-- A read has completed, or was abandoned, or was ended by a reset, and SSEL is still low: SDO carries ones (DEDUCED,
  log entry 10). -/
  | spent
  deriving DecidableEq, Repr

/-- An entry of the output-hold table (R64). -/
structure HoldEntry where
  steps : Int
  pm : Int
  epoch : BitVec 4
  deriving DecidableEq, Repr

/-- The Servo Port (R104 to R118). -/
structure ServoPort where
  layout : List SlotDesc
  staged : Option (List SlotDesc)
  layoutGen : BitVec 4
  snapshot : Option Snapshot
  delivered : Bool
  read : ReadPhase
  holds : Six (Option HoldEntry)
  deriving DecidableEq, Repr

/-- The Servo Port after reset (R118). -/
def ServoPort.reset : ServoPort where
  layout := [{ source := .phys .q0, unit := .pm }]
  staged := none
  layoutGen := 0
  snapshot := none
  delivered := false
  read := .idle
  holds := { axes := Four.replicate none, m := none, w := none }

/-! ## Line Capture Unit (chapter Line Capture) -/

/-- Settings and dead time of a trigger input (R119, R120). -/
structure Trigger where
  /-- TRIG_DELAY in ticks, 0..1023. -/
  delay : Nat
  /-- TRIG_DEAD in ticks, 0..65535. -/
  dead : Nat
  /-- The start tick of a running dead time, or not running. -/
  deadFrom : Option Tick
  deriving DecidableEq, Repr

/-- Edge a context accepts (R124). -/
inductive EdgeSelect where
  | rise | fall | both
  deriving DecidableEq, Repr

/-- Link on which a context arrived (R121). -/
inductive Origin where
  | host | microscope
  deriving DecidableEq, Repr

/-- A capture context (R121, R122). -/
structure Context where
  sources : SourceSet
  input : TrigInput
  edge : EdgeSelect
  tag : BitVec 16
  count : Nat
  remaining : Nat
  standing : Bool
  echo : Bool
  origin : Origin
  deriving DecidableEq, Repr

/-- Status of a settled capture entry, in the order of the record's coding (Formats). -/
inductive Status where
  | ok | bridged | notValid | tooOld | lost | datum | timeout
  deriving DecidableEq, Repr

/-- Progress of an entry: waiting with its before entry if bound, or settled (R127 to R129). -/
inductive EntryProgress where
  | waiting (before : Option HistEntry)
  /-- Status, interpolated count in sixteenths of a step, and position in pm. -/
  | settled (status : Status) (x16 : Int) (position : Int)
  deriving DecidableEq, Repr

/-- The entry or constituent of a physical axis in the capture in flight (R127). -/
structure PhysEntry where
  /-- Epoch of the axis at the opening. -/
  epoch : BitVec 4
  progress : EntryProgress
  deriving DecidableEq, Repr

/-- The capture in flight (R125). -/
structure Capture where
  tag : BitVec 16
  origin : Origin
  echo : Bool
  sources : SourceSet
  index : Nat
  input : TrigInput
  edge : EdgeDir
  edgeTick : Tick
  tTrig : Tick
  kset : KSet
  compGen : BitVec 8
  /-- The entry or constituent of each axis the capture follows. -/
  phys : Four (Option PhysEntry)
  /-- Epoch of M at the opening (R132). -/
  mEpoch : BitVec 4
  deriving DecidableEq, Repr

/-- An entry of a capture record (R133). -/
structure RecordEntry where
  source : Source
  status : Status
  epoch : BitVec 4
  position : Int
  deriving DecidableEq, Repr

/-- A capture record (R133). -/
structure Record where
  number : BitVec 16
  tag : BitVec 16
  origin : Origin
  index : Nat
  input : TrigInput
  edge : EdgeDir
  tTrig : Tick
  missed : Nat
  compGen : BitVec 8
  entries : List RecordEntry
  deriving DecidableEq, Repr

/-- Queue policy (R134). -/
inductive QueuePolicy where
  | keepOldest | keepNewest
  deriving DecidableEq, Repr

/-- The Line Capture Unit (R119 to R140). -/
structure LineCapture where
  triggers : Two Trigger
  contexts : List Context
  /-- The capture in flight: absent for IDLE, present for PENDING. -/
  capture : Option Capture
  missed : Nat
  records : List Record
  recordNo : BitVec 16
  policy : QueuePolicy
  readyLevel : Nat
  /-- CAPTURE_TIMEOUT in µs. -/
  timeout : Nat
  deriving DecidableEq, Repr

/-- The Line Capture Unit after reset (R140). -/
def LineCapture.reset : LineCapture where
  triggers := { t0 := { delay := 0, dead := 1000, deadFrom := none }, t1 := { delay := 0, dead := 1000, deadFrom := none } }
  contexts := []
  capture := none
  missed := 0
  records := []
  recordNo := 0
  policy := .keepOldest
  readyLevel := 1
  timeout := 100

/-! ## Microscope Link (R141 to R146) -/

/-- The receiver of the microscope link (R142, R143). -/
inductive RxState where
  | idle
  /-- Assembling a message: its characters so far, the LEN byte first, and the tick at which the last character began. -/
  | assembling (chars : List Byte) (lastBegan : Tick)
  /-- Waiting for silence, measured from the tick at which the last character began. -/
  | waiting (lastBegan : Tick)
  deriving DecidableEq, Repr

/-- The transmitter (R141, R145). -/
inductive TxState where
  /-- Nothing is being sent. -/
  | quiet
  /-- The head message is being sent since this tick. -/
  | sending (start : Tick)
  /-- The head message is cut: its last character ends at this tick. -/
  | cutting (finish : Tick)
  deriving DecidableEq, Repr

/-- The Microscope Link. -/
structure MicroLink where
  /-- Rate in bits per second. -/
  rate : Nat
  rx : RxState
  /-- The character under way on the line: the tick at which it began, or absent (R142). -/
  underWay : Option Tick
  /-- Outgoing queue, head first, each message as its bytes, LEN first. -/
  out : List (List Byte)
  tx : TxState
  /-- Message counter, 16 bits, wrapping. -/
  messages : BitVec 16
  /-- Line errors, 16 bits, saturating. -/
  lineErrors : Nat
  /-- Gap discards, 16 bits, saturating. -/
  gapDiscards : Nat
  /-- Outgoing discards, 16 bits, saturating. -/
  outDiscards : Nat
  deriving DecidableEq, Repr

/-- The Microscope Link after reset (R146). The silence is measured from the reset (DEDUCED, log entry 7). -/
def MicroLink.reset : MicroLink where
  rate := 115200
  rx := .waiting 0
  underWay := none
  out := []
  tx := .quiet
  messages := 0
  lineErrors := 0
  gapDiscards := 0
  outDiscards := 0

/-! ## Monitor Unit and Alert Controller (chapter Position Monitors) -/

/-- Monitor mode (R149). -/
inductive MonitorMode where
  | tripOutside | tripInside
  deriving DecidableEq, Repr

/-- Monitor action (R150). -/
inductive MonitorAction where
  | event | alert
  deriving DecidableEq, Repr

/-- A window monitor with its tripped mark (R147 to R151). -/
structure Monitor where
  source : Source
  low : Int
  high : Int
  mode : MonitorMode
  action : MonitorAction
  enabled : Bool
  tripped : Bool
  deriving DecidableEq, Repr

/-- A monitor after reset (R161). -/
def Monitor.reset : Monitor where
  source := .phys .q0
  low := 0
  high := 0
  mode := .tripOutside
  action := .event
  enabled := false
  tripped := false

/-- The state machine of the Alert Controller with the start of its running timer (R154 to R157). -/
inductive AlertState where
  | released
  /-- The pulse timer runs from the start of the pulse. -/
  | pulse (start : Tick)
  /-- The gap timer runs from the end of the pulse or level. -/
  | gap (start : Tick)
  /-- The minimum-level timer runs from the moment the line went low, or has expired. -/
  | level (minimumOver : Bool)
  deriving DecidableEq, Repr

/-- The Alert Controller (R152 to R161). -/
structure Alert where
  state : AlertState
  /-- The tick at which the line last went low. -/
  wentLow : Tick
  guard : QuadSet
  pulseOnBridge : Bool
  pulseOnMiss : Bool
  /-- ALERT_PULSE in µs. -/
  pulseTime : Nat
  /-- LEVEL_MIN in µs. -/
  levelMin : Nat
  /-- Coalesced count, 16 bits, saturating. -/
  coalesced : Nat
  deriving DecidableEq, Repr

/-- The Alert Controller after reset (R161). -/
def Alert.reset : Alert where
  state := .released
  wentLow := 0
  guard := 0
  pulseOnBridge := false
  pulseOnMiss := false
  pulseTime := 2
  levelMin := 20
  coalesced := 0

/-! ## Host Port (chapter Host Port) -/

/-- Refusal codes of a host response (Formats). -/
inductive RefusalCode where
  | badLength | badValue | state | noLock | queueFull | unknown
  deriving DecidableEq, Repr

/-- A response: OK, or refused with its code; the echoed CODE; and its data (R164). -/
structure Response where
  refusal : Option RefusalCode
  code : Byte
  data : List Byte
  deriving DecidableEq, Repr

/-- The pending response (R164). -/
inductive PendingResponse where
  | none
  /-- In preparation since the tick at which its frame ended. -/
  | preparing (r : Response) (since : Tick)
  | ready (r : Response)
  deriving DecidableEq, Repr

/-- What a FETCH frame returns, decided when its CODE byte has been taken (R165). -/
structure Fetched where
  /-- The bytes of the response it shifts out, before the ones that follow. -/
  bytes : List Byte
  /-- The pending response was ready, so a frame that carries the last byte takes it. -/
  ready : Bool
  deriving DecidableEq, Repr

/-- The frame assembly of the present selection (R162). -/
inductive HostFrame where
  | idle
  /-- The bits taken on HDI so far, first bit first. -/
  | receiving (bits : List Bool)
  /-- A FETCH response is being sent: what was decided, and the clocks taken since the CODE byte. -/
  | sending (f : Fetched) (clocks : Nat)
  deriving DecidableEq, Repr

/-- The Host Port (R162 to R173). -/
structure HostPort where
  /-- After a reset taken with HSEL low the port takes no frame until HSEL has gone high (R172). -/
  waitHsel : Bool
  frame : HostFrame
  response : PendingResponse
  /-- The lost mark (R166). -/
  lost : Bool
  /-- The 27 event flags, bit 0 for RECORDS_READY (R167, R175). -/
  flags : BitVec 27
  /-- The event mask (R169). -/
  mask : BitVec 27
  /-- The ATTN output: true for asserted (R169). -/
  attn : Bool
  /-- The bytes HDO carried after the CODE byte in the last FETCH frame; empty after a command frame, in which HDO carries
  ones throughout (R162). The model's record of that output (DESIGN CHOICE, log entry 16). -/
  hdo : List Byte
  deriving DecidableEq, Repr

/-- The Host Port after power-on reset (R173). -/
def HostPort.reset : HostPort where
  waitHsel := true
  frame := .idle
  response := .none
  lost := false
  flags := 0
  mask := 0
  attn := false
  hdo := []

/-! ## The lines -/

/-- What reaches the part on a line between two rows of the table: the characters, clocks and bits by which frames and
messages arrive. The table has no row for one, so they wait in a queue of their own (DESIGN CHOICE, log entry 19). -/
inductive LineEvent where
  /-- A frame starts on the sample link of an axis (R2). -/
  | sampleStart (axis : Axis)
  /-- A bit on the sample link of an axis (R2). -/
  | sampleBit (axis : Axis) (bit : Bool)
  /-- A frame ends on the sample link of an axis (R2). -/
  | sampleEnd (axis : Axis)
  /-- A character begins on the conditions link; it will be found to have this byte and stop bit (R72). -/
  | conditionsCharacter (byte : Byte) (stopOk : Bool)
  /-- A character begins on the microscope link (R142). -/
  | microBegins
  /-- The character under way on the microscope link has been received: its byte, and whether parity and stop bit were
  correct (R142, R143). -/
  | microEnds (byte : Byte) (parityOk stopOk : Bool)
  /-- A clock on SCLK while SSEL is low, with the bit on SDI (R104). -/
  | servoClock (sdi : Bool)
  /-- A clock on HCLK while HSEL is low, with the bit on HDI (R162). -/
  | hostClock (hdi : Bool)
  /-- HSEL goes high; `wiredLow` is the level on the ALERT pin then, which a command that ends here may sample (R159). -/
  | hostDeselect (wiredLow : Bool)
  deriving DecidableEq, Repr

/-! ## The whole part -/

/-- The state of the FC440 with the commands that wait to be taken. -/
structure State where
  /-- The tick count of the timebase (R1). -/
  tick : Tick
  slr : Four Receiver
  phu : Four PhaseUnit
  /-- The epoch of source M, held by the Derived Source Logic (R62). -/
  mEpoch : BitVec 4
  cmu : Compensation
  fru : FrameUnit
  svp : ServoPort
  lcu : LineCapture
  msl : MicroLink
  mnu : Four Monitor
  alc : Alert
  hpt : HostPort
  /-- The model's own count of the choices the spec leaves open, read by `Config.snapshotFirst` (DESIGN
  CHOICE, log entry 3). -/
  choices : Nat
  /-- The commands that wait, first in, first out (DESIGN CHOICE, log entry 1). -/
  pending : List Instr
  /-- The line events that wait, first in, first out; an idle part takes them (DESIGN CHOICE, log entry 19). -/
  lines : List LineEvent
  deriving DecidableEq, Repr

/-- The part right after power-on reset with no command waiting (R1, R17, R44, R65, R88, R103, R118, R140, R146, R161,
R173). -/
def State.reset : State where
  tick := 0
  slr := Four.replicate Receiver.reset
  phu := Four.replicate PhaseUnit.reset
  mEpoch := 0
  cmu := Compensation.reset
  fru := FrameUnit.reset
  svp := ServoPort.reset
  lcu := LineCapture.reset
  msl := MicroLink.reset
  mnu := Four.replicate Monitor.reset
  alc := Alert.reset
  hpt := HostPort.reset
  choices := 0
  pending := []
  lines := []

/-- Reasons for the machine to stop. The spec describes none: every refusal of the part is an answer on a link, after
which the part goes on. No meaning raises one (DESIGN CHOICE, log entry 21). -/
inductive Fault where
  deriving DecidableEq, Repr

/-- Reasons for the model to give no step. -/
inductive Refusal where
  /-- Raised by an arm of `exec` whose command has no meaning yet, and by nothing else. Safe: it claims nothing. -/
  | notModelled (mnemonic : String)
  deriving DecidableEq, Repr

/-- The outcome of a command. -/
abbrev Result := Host.Outcome State Fault Refusal

end Sys2Proof.Machine
end

