-- ==== Sys2Proof/Machine/Codec.lean ====
section
/-! DEFINITION. The layouts of chapter Formats: the CRC-8 (R174), sample and conditions frames, servo frames, the byte
coding of parameters and response data (R175), capture records and microscope link messages. -/

namespace Sys2Proof.Machine

/-! ## The CRC (R174) -/

/-- One bit taken into the CRC register. -/
def crcBit (r : BitVec 8) (b : Bool) : BitVec 8 :=
  let shifted := r <<< (1 : Nat)
  if r.msb == b then shifted else shifted ^^^ 0x07

/-- The CRC-8 of bits in the order they are sent. -/
def crc8 (bits : List Bool) : BitVec 8 := bits.foldl crcBit 0

/-! ## Bits, most significant first -/

/-- The unsigned number that bits spell. -/
def bitsToNat (bits : List Bool) : Nat := bits.foldl (fun n b => 2 * n + b.toNat) 0

/-- The signed number that `w` bits spell in two's complement. -/
def bitsToInt (w : Nat) (bits : List Bool) : Int := (BitVec.ofNat w (bitsToNat bits)).toInt

/-- The `w` low bits of a number, most significant first. -/
def natBits : Nat → Nat → List Bool
  | 0, _ => []
  | w + 1, v => v.testBit w :: natBits w v

/-- A signed number in `w` bits of two's complement. -/
def intBits (w : Nat) (v : Int) : List Bool := natBits w (BitVec.ofInt w v).toNat

/-- The bits of bytes in the order they are sent. -/
def bytesToBits (bytes : List Byte) : List Bool := bytes.flatMap (fun b => natBits 8 b.toNat)

/-! ## Sample frame -/

/-- The fields of a good sample frame. -/
structure SampleFields where
  sin : Int
  cos : Int
  seq : BitVec 6
  mark : Bool
  clip : Bool
  deriving DecidableEq, Repr

/-- The fields of a frame, or none for a bad frame: one that is malformed or fails its CRC (R2, R3). -/
def parseSample (bits : List Bool) : Option SampleFields :=
  if bits.length = 48 ∧ (crc8 (bits.take 40)).toNat = bitsToNat (bits.drop 40) then
    some {
      sin := bitsToInt 16 (bits.take 16)
      cos := bitsToInt 16 ((bits.drop 16).take 16)
      seq := BitVec.ofNat 6 (bitsToNat ((bits.drop 32).take 6))
      mark := (bits.drop 38).headD false
      clip := (bits.drop 39).headD false }
  else none

/-- The 40 bits a receiver sends before the CRC. -/
def samplePayload (f : SampleFields) : List Bool :=
  intBits 16 f.sin ++ intBits 16 f.cos ++ natBits 6 f.seq.toNat ++ [f.mark, f.clip]

/-- The 48 bits of the frame that carries the fields. -/
def sampleBits (f : SampleFields) : List Bool :=
  samplePayload f ++ natBits 8 (crc8 (samplePayload f)).toNat

/-! ## Bytes, most significant first -/

/-- The unsigned number that bytes spell. -/
def bytesToNat (bytes : List Byte) : Nat := bytes.foldl (fun n b => 256 * n + b.toNat) 0

/-- The signed number that bytes spell in two's complement. -/
def bytesToInt (bytes : List Byte) : Int := (BitVec.ofNat (8 * bytes.length) (bytesToNat bytes)).toInt

/-- A number in `n` bytes. -/
def natBytes : Nat → Nat → List Byte
  | 0, _ => []
  | n + 1, v => BitVec.ofNat 8 (v / 256 ^ n) :: natBytes n v

/-- A signed number in `n` bytes. -/
def intBytes (n : Nat) (v : Int) : List Byte := natBytes n (BitVec.ofInt (8 * n) v).toNat

/-- A flag or an option with two values in one byte. -/
def flagByte (b : Bool) : Byte := if b then 1 else 0

/-- One byte holding a number. -/
def byteOf (v : Nat) : Byte := BitVec.ofNat 8 v

/-- An item that may be absent: a presence byte, then the item or zeros of its full width. -/
def optBytes {α : Type} (width : Nat) (enc : α → List Byte) : Option α → List Byte
  | some x => 1 :: enc x
  | none => 0 :: List.replicate width 0

/-- A list of varying length: a count byte, then its items. -/
def listBytes {α : Type} (enc : α → List Byte) (xs : List α) : List Byte := byteOf xs.length :: xs.flatMap enc

/-! ## Enumerated values, in the order their rules name them (R175) -/

/-- DOWN, ACQUIRING, LOCKED. -/
def LinkState.code : LinkState → Byte
  | .down => 0
  | .acquiring => 1
  | .locked => 2

/-- LOCKED, NOT_LOCKED (R45): the coding of a lock view and of a lock at last event (DEDUCED, log entry 9). -/
def lockCode (locked : Bool) : Byte := if locked then 0 else 1

/-- OFF, UNREFERENCED, ARMED, REFERENCED, FAULTED. -/
def AxisState.code : AxisState → Byte
  | .off => 0
  | .unreferenced => 1
  | .armed => 2
  | .referenced => 3
  | .faulted => 4

/-- REAL, BRIDGED. -/
def SampleKind.code : SampleKind → Byte
  | .real => 0
  | .bridged => 1

/-- POSITIVE, NEGATIVE, ANY. -/
def MarkDir.code : MarkDir → Byte
  | .positive => 0
  | .negative => 1
  | .any => 2

/-- The number of a cause: LINK, DROPOUT, BEAM, STEP, RANGE. -/
def Cause.index : Cause → Nat
  | .link => 0
  | .dropout => 1
  | .beam => 2
  | .step => 3
  | .range => 4

/-- A cause as a member of a further-causes set (R49, R175). -/
def Cause.bit (c : Cause) : BitVec 5 := BitVec.ofNat 5 (2 ^ c.index)

/-- DIR: 01H for +1, FFH for −1. -/
def CountDir.code : CountDir → Byte
  | .plus => 0x01
  | .minus => 0xFF

/-- MANUAL, AWAITING, STATION (DEDUCED, log entry 9). -/
def CondSource.code : CondSource → Byte
  | .manual => 0
  | .awaiting => 1
  | .station => 2

/-- External-with-Fallback, Internal-Only. -/
def FrameMode.code : FrameMode → Byte
  | .externalWithFallback => 0
  | .internalOnly => 1

/-- EXTERNAL, INTERNAL. -/
def FrameSource.code : FrameSource → Byte
  | .external => 0
  | .internal => 1

/-- PM, STEPS. -/
def LengthUnit.code : LengthUnit → Byte
  | .pm => 0
  | .steps => 1

/-- A0 to W are 0 to 5. -/
def srcCode (x : Source) : Byte := byteOf x.toNat

/-- T0, T1. -/
def inputCode : TrigInput → Byte
  | .t0 => 0
  | .t1 => 1

/-- RISE, FALL of an edge seen. -/
def edgeCode : EdgeDir → Byte
  | .rise => 0
  | .fall => 1

/-- RISE, FALL, BOTH. -/
def EdgeSelect.code : EdgeSelect → Byte
  | .rise => 0
  | .fall => 1
  | .both => 2

/-- HOST, MICROSCOPE. -/
def Origin.code : Origin → Byte
  | .host => 0
  | .microscope => 1

/-- OK, BRIDGED, NOT_VALID, TOO_OLD, LOST, DATUM, TIMEOUT. -/
def Status.code : Status → Byte
  | .ok => 0
  | .bridged => 1
  | .notValid => 2
  | .tooOld => 3
  | .lost => 4
  | .datum => 5
  | .timeout => 6

/-- Keep-Oldest, Keep-Newest. -/
def QueuePolicy.code : QueuePolicy → Byte
  | .keepOldest => 0
  | .keepNewest => 1

/-- Trip-Outside, Trip-Inside. -/
def MonitorMode.code : MonitorMode → Byte
  | .tripOutside => 0
  | .tripInside => 1

/-- EVENT, ALERT. -/
def MonitorAction.code : MonitorAction → Byte
  | .event => 0
  | .alert => 1

/-- RELEASED, PULSE, GAP, LEVEL. -/
def AlertState.code : AlertState → Byte
  | .released => 0
  | .pulse _ => 1
  | .gap _ => 2
  | .level _ => 3

/-- Refusal codes of the STATUS byte (Formats, Host port frames). -/
def RefusalCode.code : RefusalCode → Nat
  | .badLength => 1
  | .badValue => 2
  | .state => 3
  | .noLock => 4
  | .queueFull => 5
  | .unknown => 6

/-! ## Host response (Formats, Host port frames) -/

/-- Bit 7 of the STATUS byte, RESP_LOST. -/
def lostBit (lost : Bool) : Nat := if lost then 128 else 0

/-- The STATUS byte of an OK or REFUSED response. -/
def Response.status (r : Response) (lost : Bool) : Byte :=
  match r.refusal with
  | none => byteOf (lostBit lost)
  | some c => byteOf (3 + 4 * c.code + lostBit lost)

/-- The bytes of an OK or REFUSED response. -/
def Response.bytes (r : Response) (lost : Bool) : List Byte :=
  r.status lost :: r.code :: natBytes 2 r.data.length ++ r.data

/-- The bytes of a BUSY response. -/
def busyBytes (code : Byte) (lost : Bool) : List Byte := [byteOf (1 + lostBit lost), code, 0, 0]

/-- The bytes of a NONE response, which echoes the CODE of FETCH. -/
def noneBytes (lost : Bool) : List Byte := [byteOf (2 + lostBit lost), 0, 0, 0]

/-! ## Servo frame (Formats) -/

/-- The 24 bits of a header with the REPEAT flag of a read. -/
def headerBits (h : Header) (rep : Bool) : List Bool :=
  natBits 12 h.frameNo.toNat ++ natBits 4 h.compGen.toNat ++ natBits 4 h.layoutGen.toNat ++
    [rep, h.internal, h.condHeld, h.alertOwn]

/-- The 56 bits of a slot. -/
def slotBits (x : Slot) : List Bool :=
  intBits 44 x.value ++
    [x.valid, x.held, x.fault, x.armed, x.bridged, x.saturated, x.locked, x.monitor] ++ natBits 4 x.epoch.toNat

/-- A frame from its header and slots: the CRC covers both (R174). -/
def withCrc (bits : List Bool) : List Bool := bits ++ natBits 8 (crc8 bits).toNat

/-- The frame of a snapshot with the REPEAT flag of a read (R112). -/
def servoFrame (x : Snapshot) (rep : Bool) : List Bool := withCrc (headerBits x.header rep ++ x.slots.flatMap slotBits)

/-- The frame of zeros for a number of slots (R116). -/
def zeroFrame (slots : Nat) : List Bool := withCrc (List.replicate (24 + 56 * slots) false)

/-! ## Capture record (Formats) -/

/-- The source and status byte of a record entry and of an ECHO. -/
def sourceStatusByte (x : Source) (st : Status) : Byte := byteOf (16 * x.toNat + st.code.toNat)

/-- The 8 bytes of an entry. -/
def RecordEntry.bytes (e : RecordEntry) : List Byte :=
  sourceStatusByte e.source e.status :: byteOf e.epoch.toNat :: intBytes 6 e.position

/-- Header byte 6: origin, trigger input and edge seen. -/
def Record.originByte (r : Record) : Byte :=
  byteOf (r.origin.code.toNat + 2 * (inputCode r.input).toNat + 4 * (edgeCode r.edge).toNat)

/-- The length of a record in bytes. -/
def Record.size (r : Record) : Nat := 16 + 8 * r.entries.length

/-- The bytes of a record. -/
def Record.bytes (r : Record) : List Byte :=
  natBytes 2 r.number.toNat ++ natBytes 2 r.tag.toNat ++
    [byteOf r.index, r.originByte, byteOf r.missed, byteOf r.entries.length] ++
    natBytes 6 r.tTrig.toNat ++ [r.compGen, byteOf r.size] ++ r.entries.flatMap RecordEntry.bytes

/-! ## Microscope link messages (Formats) -/

/-- A message: LEN counts the bytes after it. -/
def message (code : Byte) (params : List Byte) : List Byte := byteOf (params.length + 1) :: code :: params

/-- ACCEPTED with the depth of the context queue. -/
def acceptedMessage (depth : Nat) : List Byte := message 0xA1 [byteOf depth]

/-- Refusals of the microscope link. -/
inductive MicroRefusal where
  | queueFull | badValue | line | unknown
  deriving DecidableEq, Repr

/-- QUEUE_FULL, BAD_VALUE, LINE, UNKNOWN are 1 to 4. -/
def MicroRefusal.code : MicroRefusal → Byte
  | .queueFull => 1
  | .badValue => 2
  | .line => 3
  | .unknown => 4

/-- REFUSED with its code. -/
def refusedMessage (r : MicroRefusal) : List Byte := message 0xA2 [r.code]

/-- ECHO of a record with its first entry (R138). -/
def echoMessage (r : Record) (e : RecordEntry) : List Byte :=
  message 0xA3 (natBytes 2 r.number.toNat ++ natBytes 2 r.tag.toNat ++
    [byteOf r.index, sourceStatusByte e.source e.status] ++ intBytes 6 e.position)

end Sys2Proof.Machine
end

