-- ==== Sys2Proof/Machine/Flags.lean ====
section
/-! DEFINITION. The 27 event flags of the host port, the event mask and the ATTN output (R167 to R169), and the flag
RECORDS_READY, which follows a condition (R135). -/

namespace Sys2Proof.Machine

/-- The event flags, in the order of the table of chapter Host Port. -/
inductive Flag where
  | recordsReady
  | captureOverflow
  | contextRefused
  | axisFault (a : Axis)
  | armCancelled (a : Axis)
  | monitorTrip (m : MonitorId)
  | frameTick
  | syncLost
  | syncRestored
  | condStale
  | condHeld
  | condApplied
  | sampleCount (a : Axis)
  | servoOverrun
  | microLineError
  deriving DecidableEq, Repr

/-- The bit of a flag in a flag mask (R168, R175). -/
def Flag.index : Flag → Nat
  | .recordsReady => 0
  | .captureOverflow => 1
  | .contextRefused => 2
  | .axisFault a => 3 + a.toNat
  | .armCancelled a => 7 + a.toNat
  | .monitorTrip m => 11 + m.toNat
  | .frameTick => 15
  | .syncLost => 16
  | .syncRestored => 17
  | .condStale => 18
  | .condHeld => 19
  | .condApplied => 20
  | .sampleCount a => 21 + a.toNat
  | .servoOverrun => 25
  | .microLineError => 26

/-- The flag as a mask of one bit. -/
def Flag.bit (f : Flag) : BitVec 27 := BitVec.ofNat 27 (2 ^ f.index)

/-- A flag is set. -/
def State.flagSet (s : State) (f : Flag) : Bool := s.hpt.flags.getLsbD f.index

/-- ATTN judged from flags and mask: asserted while a flag is set whose enable is set (R169). -/
def attnOf (flags mask : BitVec 27) : Bool := flags &&& mask != 0

/-- The event flags replaced and ATTN judged anew (R169). -/
def State.withFlags (s : State) (flags : BitVec 27) : State :=
  { s with hpt := { s.hpt with flags := flags, attn := attnOf flags s.hpt.mask } }

/-- The event mask replaced and ATTN judged anew (R169). -/
def State.withMask (s : State) (mask : BitVec 27) : State :=
  { s with hpt := { s.hpt with mask := mask, attn := attnOf s.hpt.flags mask } }

/-- A flag is raised; one already set stays set (R167). -/
def State.raise (s : State) (f : Flag) : State := s.withFlags (s.hpt.flags ||| f.bit)

/-- A flag is raised if a condition holds. -/
def State.raiseIf (s : State) (b : Bool) (f : Flag) : State := if b then s.raise f else s

/-- RECORDS_READY is set while the record queue holds READY_LEVEL records or more (R135). -/
def State.judgeReady (s : State) : State :=
  let others := s.hpt.flags &&& ~~~ Flag.recordsReady.bit
  s.withFlags (if s.lcu.readyLevel ≤ s.lcu.records.length then others ||| Flag.recordsReady.bit else others)

end Sys2Proof.Machine
end

