-- ==== Sys2Proof/Machine/Position.lean ====
section
/-! DEFINITION. What the part reports as a position: the reported count of an axis and of M and W (R60, R61, R63), and
the conversion of counts to lengths (R84 to R87). -/

namespace Sys2Proof.Machine

/-! ## Counts and validity -/

/-- The count an axis reports: 0 when OFF, the hold value when FAULTED, the live count otherwise (R60, R61). -/
def PhaseUnit.reported (p : PhaseUnit) : Int :=
  match p.state with
  | .off => 0
  | .faulted => p.hold
  | .unreferenced => p.acc
  | .armed => p.acc
  | .referenced => p.acc

/-- A position of the axis is VALID: REFERENCED with the lock view LOCKED (R60). -/
def PhaseUnit.valid (p : PhaseUnit) : Bool := p.state == .referenced && p.lockView

/-- The value of a source in steps, formed from the counts of the four axes (R61). -/
def sourceSteps (x : Source) (count : Axis → Int) : Int :=
  match x with
  | .phys a => count a
  | .m => roundDiv (count .q0 + count .q1) 2
  | .w => count .q0 - count .q1

/-- A source is VALID: its axis is, or for M and W both A0 and A1 are (R60, R63). -/
def sourceValid (x : Source) (valid : Axis → Bool) : Bool :=
  match x with
  | .phys a => valid a
  | .m => valid .q0 && valid .q1
  | .w => valid .q0 && valid .q1

/-- The count an axis of the part reports. -/
def State.reported (s : State) (a : Axis) : Int := (s.phu.get a).reported

/-- The value of a source in steps as the part stands. -/
def State.stepsOf (s : State) (x : Source) : Int := sourceSteps x s.reported

/-- A source is VALID as the part stands. -/
def State.validOf (s : State) (x : Source) : Bool := sourceValid x (fun a => (s.phu.get a).valid)

/-- The epoch of a source: of its axis, or of M for M and W (R62). -/
def State.epochOf (s : State) (x : Source) : BitVec 4 :=
  match x with
  | .phys a => (s.phu.get a).epoch
  | .m => s.mEpoch
  | .w => s.mEpoch

/-! ## Lengths -/

/-- The exact length of a source from the counts of the axes, rounded once: whole counts for `unit` 65 536, counts in
sixteenths of a step for `unit` 1 048 576 (R85, R86). -/
def sourceLength (unit : Int) (x : Source) (k : KSet) (count : Axis → Int) : Int :=
  match x with
  | .phys a => roundDiv (count a * k.get a) unit
  | .m => roundDiv (count .q0 * k.get .q0 + count .q1 * k.get .q1) (2 * unit)
  | .w => roundDiv (count .q0 * k.get .q0 - count .q1 * k.get .q1) unit

/-- The length of whole counts (R85, R86). -/
def lengthOf (x : Source) (k : KSet) (count : Axis → Int) : Int := sourceLength 65536 x k count

/-- The length of counts in sixteenths of a step (R85, R86). -/
def length16Of (x : Source) (k : KSet) (count : Axis → Int) : Int := sourceLength 1048576 x k count

/-- The length of a source as the part stands, with the active K set, not yet clamped (R84). -/
def State.pmOf (s : State) (x : Source) : Int := lengthOf x s.cmu.active s.reported

/-- A length set to the nearer limit of its field (R87). -/
def clampLength (limit len : Int) : Int := clampTo (-limit) limit len

/-- A length lies beyond its field (R87). -/
def overflows (limit len : Int) : Bool := !inRange (-limit) limit len

end Sys2Proof.Machine
end

