-- ==== Sys2Proof/Machine/Ops.lean ====
section
/-! DEFINITION. The operations the commands share: updates of one block, the Alert Controller's judgements (R153 to
R158), the microscope link's outgoing queue (R145), the settling and completion of a capture (R129 to R135), the axis
state machine (R48, R49, R58, R59), the tracking restart (R19), the K update (R80) and the host port's answer (R163 to
R166). -/

namespace Sys2Proof.Machine

/-! ## Updates of one block -/

/-- One phase unit changed. -/
def State.modPhu (s : State) (a : Axis) (f : PhaseUnit → PhaseUnit) : State :=
  { s with phu := s.phu.set a (f (s.phu.get a)) }

/-- One receiver changed. -/
def State.modSlr (s : State) (a : Axis) (f : Receiver → Receiver) : State :=
  { s with slr := s.slr.set a (f (s.slr.get a)) }

/-- The Compensation Unit changed. -/
def State.modCmu (s : State) (f : Compensation → Compensation) : State := { s with cmu := f s.cmu }

/-- The Frame Unit changed. -/
def State.modFru (s : State) (f : FrameUnit → FrameUnit) : State := { s with fru := f s.fru }

/-- The Servo Port changed. -/
def State.modSvp (s : State) (f : ServoPort → ServoPort) : State := { s with svp := f s.svp }

/-- The Line Capture Unit changed. -/
def State.modLcu (s : State) (f : LineCapture → LineCapture) : State := { s with lcu := f s.lcu }

/-- The Microscope Link changed. -/
def State.modMsl (s : State) (f : MicroLink → MicroLink) : State := { s with msl := f s.msl }

/-- One monitor changed. -/
def State.modMonitor (s : State) (m : MonitorId) (f : Monitor → Monitor) : State :=
  { s with mnu := s.mnu.set m (f (s.mnu.get m)) }

/-- The Alert Controller changed. -/
def State.modAlc (s : State) (f : Alert → Alert) : State := { s with alc := f s.alc }

/-- The Host Port changed. -/
def State.modHpt (s : State) (f : HostPort → HostPort) : State := { s with hpt := f s.hpt }

/-! ## Alert Controller -/

/-- The part drives ALERT low (R159). -/
def Alert.drive (x : Alert) : Bool :=
  match x.state with
  | .released => false
  | .pulse _ => true
  | .gap _ => false
  | .level _ => true

/-- The axes of the guard mask that are FAULTED (R155). -/
def State.guardedFaults (s : State) : List Axis :=
  Quad.all.filter (fun a => s.alc.guard.has a && (s.phu.get a).state == .faulted)

/-- The tripped monitors whose action is ALERT (R155). -/
def State.trippedAlerts (s : State) : List MonitorId :=
  Quad.all.filter (fun m => (s.mnu.get m).tripped && (s.mnu.get m).action == .alert)

/-- The level condition (R155). -/
def State.levelCondition (s : State) : Bool := !s.guardedFaults.isEmpty || !s.trippedAlerts.isEmpty

/-- The level ends and the gap timer starts (R157). -/
def State.endLevel (s : State) : State := s.modAlc (fun x => { x with state := .gap s.tick })

/-- The state LEVEL entered as R156's table gives for the state it is entered from. -/
def State.enterLevel (s : State) : State :=
  s.modAlc (fun x =>
    match x.state with
    | .released => { x with state := .level false, wentLow := s.tick }
    | .pulse _ => { x with state := .level false }
    | .gap _ => { x with state := .level false, wentLow := s.tick }
    | .level _ => x)

/-- The level condition judged anew (R155 to R157): true enters LEVEL, false ends a level whose minimum is over. -/
def State.judgeLevel (s : State) : State :=
  if s.levelCondition then s.enterLevel
  else
    match s.alc.state with
    | .level true => s.endLevel
    | _ => s

/-- A pulse request taken by the state machine: it starts a pulse in RELEASED and is absorbed and counted in every other
state (R154, R158). -/
def State.pulseRequest (s : State) : State :=
  s.modAlc (fun x =>
    match x.state with
    | .released => { x with state := .pulse s.tick, wentLow := s.tick }
    | .pulse _ => { x with coalesced := satAdd 65535 x.coalesced 1 }
    | .gap _ => { x with coalesced := satAdd 65535 x.coalesced 1 }
    | .level _ => { x with coalesced := satAdd 65535 x.coalesced 1 })

/-- A bridge request of an axis, accepted by the guard mask and pulse-on-bridge (R34, R153). -/
def State.bridgeRequest (s : State) (a : Axis) : State :=
  if s.alc.guard.has a && s.alc.pulseOnBridge then s.pulseRequest else s

/-- A miss request, accepted by pulse-on-miss alone (R126, R153). -/
def State.missRequest (s : State) : State := if s.alc.pulseOnMiss then s.pulseRequest else s

/-! ## Microscope link: the outgoing queue -/

/-- A message offered to the outgoing queue: discarded and counted when the queue holds 4, else appended, and begun at
once when it is alone (R145). -/
def State.offerMessage (s : State) (m : List Byte) : State :=
  s.modMsl (fun x =>
    if Config.outgoingCapacity ≤ x.out.length then { x with outDiscards := satAdd 65535 x.outDiscards 1 }
    else { x with out := x.out ++ [m], tx := if x.out.isEmpty then .sending s.tick else x.tx })

/-! ## Line Capture Unit: settling and completing -/

/-- The entry has been settled OK or BRIDGED. -/
def Status.good : Status → Bool
  | .ok => true
  | .bridged => true
  | .notValid => false
  | .tooOld => false
  | .lost => false
  | .datum => false
  | .timeout => false

/-- An entry settled with a status that carries no position. -/
def settledBad (st : Status) : EntryProgress := .settled st 0 0

/-- The count at the trigger instant in sixteenths of a step, interpolated between two history entries (R129). -/
def interpolate16 (t : Tick) (b a : HistEntry) : Int :=
  16 * b.acc + roundDiv (16 * (a.acc - b.acc) * elapsed t b.instant) (elapsed a.instant b.instant)

/-- An entry with its before and after entries is settled (R129). `axisState` is the state of the axis then. -/
def settleEntry (c : Capture) (a : Axis) (axisState : AxisState) (epoch : BitVec 4) (before after : HistEntry) :
    EntryProgress :=
  if before.epoch ≠ epoch ∨ after.epoch ≠ epoch then settledBad .datum
  else if axisState ≠ .referenced then settledBad .notValid
  else
    let x16 := interpolate16 c.tTrig before after
    let len := length16Of (.phys a) c.kset (fun _ => x16)
    if overflows lengthMax len then settledBad .notValid
    else if before.kind = .bridged ∨ (after.kind = .bridged ∧ later c.tTrig before.instant = true) then
      .settled .bridged x16 len
    else .settled .ok x16 len

/-- The entry of an axis still waits. -/
def PhysEntry.waits (e : PhysEntry) : Bool :=
  match e.progress with
  | .waiting _ => true
  | .settled _ _ _ => false

/-- Every entry and constituent of the capture is settled (R133). -/
def Capture.isSettled (c : Capture) : Bool :=
  c.phys.toList.all (fun e => match e with | some x => !x.waits | none => true)

/-- The settled status and count of an axis the capture follows; absent while it waits. -/
def Capture.outcome (c : Capture) (a : Axis) : Option (Status × Int × Int) :=
  match c.phys.get a with
  | some e => (match e.progress with
    | .settled st x16 pos => some (st, x16, pos)
    | .waiting _ => none)
  | none => none

/-- The status and position of an entry of M or W from its settled constituents (R132). -/
def derivedOutcome (c : Capture) (x : Source) (s0 s1 : Status) (x0 x1 : Int) : Status × Int :=
  if s0.good && s1.good then
    let len := length16Of x c.kset (fun a => if a = .q0 then x0 else x1)
    if overflows lengthMax len then (.notValid, 0)
    else if s0 = .bridged ∨ s1 = .bridged then (.bridged, len)
    else (.ok, len)
  else if s0.good then (s1, 0) else (s0, 0)

/-- The status and position of a source of the capture; absent while it waits (R129, R132). -/
def Capture.sourceOutcome (c : Capture) (x : Source) : Option (Status × Int) :=
  match x with
  | .phys a => (c.outcome a).map (fun o => (o.1, o.2.2))
  | .m => (match c.outcome .q0, c.outcome .q1 with
    | some o0, some o1 => some (derivedOutcome c .m o0.1 o1.1 o0.2.1 o1.2.1)
    | _, _ => none)
  | .w => (match c.outcome .q0, c.outcome .q1 with
    | some o0, some o1 => some (derivedOutcome c .w o0.1 o1.1 o0.2.1 o1.2.1)
    | _, _ => none)

/-- The epoch an entry carries: of its axis at the opening, or of M (R127, R132). -/
def Capture.epochOf (c : Capture) (x : Source) : BitVec 4 :=
  match x with
  | .phys a => (match c.phys.get a with
    | some e => e.epoch
    | none => 0)
  | .m => c.mEpoch
  | .w => c.mEpoch

/-- The sources of a set in the order A0, A1, A2, A3, M, W. -/
def SourceSet.members (m : SourceSet) : List Source := Source.all.filter (fun x => m.has x)

/-- The entries of the record of a capture (R133). -/
def Capture.entries (c : Capture) : List RecordEntry :=
  (SourceSet.members c.sources).filterMap (fun x =>
    (c.sourceOutcome x).map (fun o =>
      { source := x, status := o.1, epoch := c.epochOf x, position := o.2 }))

/-- The record of a completed capture (R133). -/
def recordOf (c : Capture) (number : BitVec 16) (missed : Nat) : Record where
  number := number
  tag := c.tag
  origin := c.origin
  index := c.index
  input := c.input
  edge := c.edge
  tTrig := c.tTrig
  missed := missed
  compGen := c.compGen
  entries := c.entries

/-- The record queue after a record is handed to it (R134). -/
def enqueueRecord (policy : QueuePolicy) (queue : List Record) (r : Record) : List Record :=
  if queue.length < Config.recordCapacity then queue ++ [r]
  else
    match policy with
    | .keepOldest => queue
    | .keepNewest => queue.drop 1 ++ [r]

/-- A capture completes: the record is built, queued and echoed, and the state returns to IDLE (R133 to R135, R138). -/
def State.completeCapture (s : State) (c : Capture) : State :=
  let r := recordOf c s.lcu.recordNo s.lcu.missed
  let full := decide (Config.recordCapacity ≤ s.lcu.records.length)
  let s := s.modLcu (fun x =>
    { x with
      capture := none
      missed := 0
      recordNo := x.recordNo + 1
      records := enqueueRecord x.policy x.records r })
  let s := (s.raiseIf full .captureOverflow).judgeReady
  match c.echo, r.entries with
  | true, e :: _ => s.offerMessage (echoMessage r e)
  | _, _ => s

/-- The capture in flight completes if nothing in it waits. -/
def State.completeIfSettled (s : State) : State :=
  match s.lcu.capture with
  | some c => if c.isSettled then s.completeCapture c else s
  | none => s

/-- The waiting entry of an axis takes new progress, and the capture completes if that settles it. -/
def State.progressEntry (s : State) (a : Axis) (f : Capture → PhysEntry → Option HistEntry → EntryProgress) : State :=
  match s.lcu.capture with
  | none => s
  | some c =>
    match c.phys.get a with
    | none => s
    | some e =>
      match e.progress with
      | .settled _ _ _ => s
      | .waiting b =>
        (s.modLcu (fun x =>
          { x with capture := some { c with phys := c.phys.set a (some { e with progress := f c e b }) } })).completeIfSettled

/-- The reports of the axis state machine (R59). -/
inductive AxisReport where
  | fault | restart | disable | epochChange
  deriving DecidableEq, Repr

/-- The status a report settles a waiting entry with (R130). -/
def AxisReport.status : AxisReport → Status
  | .fault => .lost
  | .restart => .lost
  | .disable => .lost
  | .epochChange => .datum

/-- A report reaches the waiting entry of its axis (R130). -/
def State.reportToCapture (s : State) (a : Axis) (r : AxisReport) : State :=
  s.progressEntry a (fun _ _ _ => settledBad r.status)

/-- A new history entry is offered to the waiting entry of its axis (R128). -/
def State.offerToCapture (s : State) (a : Axis) (h : HistEntry) : State :=
  s.progressEntry a (fun c e b =>
    if later h.instant c.tTrig then
      match b with
      | some before => settleEntry c a (s.phu.get a).state e.epoch before h
      | none => settledBad .tooOld
    else .waiting (some h))

/-! ## Axis state machine -/

/-- The consecutive-missing count becomes 0, which brings a pending BRIDGE_MAX into force (R37). -/
def PhaseUnit.clearMissing (p : PhaseUnit) : PhaseUnit :=
  { p with missing := 0, bridgeMax := p.pendingBridgeMax.getD p.bridgeMax, pendingBridgeMax := none }

/-- A tracking restart (R19). -/
def PhaseUnit.trackingRestart (p : PhaseUnit) : PhaseUnit :=
  { p.clearMissing with pRef := none, dLast := 0, lastInterval := none, realRun := 0, history := [] }

/-- The epoch of an axis advances, and with A0 or A1 the epoch of M (R58, R62). -/
def State.advanceEpoch (s : State) (a : Axis) : State :=
  let s := s.modPhu a (fun p => { p with epoch := p.epoch + 1 })
  if Source.m.dependsOn a then { s with mEpoch := s.mEpoch + 1 } else s

/-- A datum: ACC takes the value, the axis is REFERENCED, the armed datum is gone and the epoch advances (R51, R55). -/
def State.loadDatum (s : State) (a : Axis) (value : Int) : State :=
  (s.modPhu a (fun p => { p with acc := value, state := .referenced, armed := none })).advanceEpoch a

/-- A cause joins the further causes of a fault record (R49). -/
def FaultRecord.addCause (f : FaultRecord) (c : Cause) : FaultRecord := { f with further := f.further ||| c.bit }

/-- An integrity loss acts by the axis state (R48, R49). `holdAcc` is ACC as it stood before the update that caused the
loss, `tick` the tick its hand-off carries. -/
def State.integrityLoss (s : State) (a : Axis) (cause : Cause) (tick : Tick) (holdAcc : Int) : State :=
  match (s.phu.get a).state with
  | .off => s
  | .unreferenced => s
  | .armed => (s.modPhu a (fun p => { p with state := .unreferenced, armed := none })).raise (.armCancelled a)
  | .referenced =>
    let s := s.modPhu a (fun p =>
      { p with state := .faulted, fault := some { first := cause, further := 0, tick := tick }, hold := holdAcc })
    ((s.raise (.axisFault a)).reportToCapture a .fault).judgeLevel
  | .faulted => s.modPhu a (fun p => { p with fault := p.fault.map (fun f => f.addCause cause) })

/-! ## K computation -/

/-- The inputs a K computation takes as the Compensation Unit stands (R80). -/
def Compensation.inputs (x : Compensation) : KInputs := { n := x.n, e := x.e, optics := x.optics }

/-- An update of the K computation: it starts one when IDLE and marks a recomputation pending when COMPUTING (R80). -/
def State.kUpdate (s : State) : State :=
  s.modCmu (fun x =>
    match x.computing with
    | none => { x with computing := some { inputs := x.inputs, start := s.tick } }
    | some _ => { x with recompute := true })

/-- An update if a condition holds. -/
def State.kUpdateIf (s : State) (b : Bool) : State := if b then s.kUpdate else s

/-! ## Host port -/

/-- What the owning block answers to a command. -/
inductive Reply where
  | ok (data : List Byte)
  | refused (r : RefusalCode)
  deriving DecidableEq, Repr

/-- The response that a reply makes. -/
def Reply.response (r : Reply) (code : Byte) : Response :=
  match r with
  | .ok data => { refusal := none, code := code, data := data }
  | .refused c => { refusal := some c, code := code, data := [] }

/-- A response is pending, unfetched. -/
def PendingResponse.isPending : PendingResponse → Bool
  | .none => false
  | .preparing _ _ => true
  | .ready _ => true

/-- The port takes no frame by a row of the table: it waits for HSEL (R172), or a selection is under way on its lines, and
frames never overlap (R162). -/
def HostPort.closed (x : HostPort) : Bool := x.waitHsel || x.frame != .idle

/-- A new pending response replaces the one held, and the lost mark is set if there was one (R164, R166). HDO carried ones
during the command frame (R162). -/
def State.respond (s : State) (p : PendingResponse) : State :=
  s.modHpt (fun x => { x with response := p, lost := x.lost || x.response.isPending, hdo := [] })

/-- A refused command makes a response that is ready at once; an accepted one makes a response in preparation (R164). -/
def State.answer (s : State) (code : Byte) (reply : Reply) : State :=
  match reply with
  | .ok _ => s.respond (.preparing (reply.response code) s.tick)
  | .refused _ => s.respond (.ready (reply.response code))

/-- The length check of R163 for a command whose layout requires `required` parameter bytes: the parameters, or none
where the check fails. Bytes beyond the LEN parameter bytes are ignored (R162). -/
def paramsOf (required : Nat) (body : List Byte) : Option (List Byte) :=
  match body with
  | [] => none
  | len :: rest =>
    if len.toNat ≤ Config.maxParamLength ∧ len.toNat ≤ rest.length ∧ len.toNat = required then
      some (rest.take len.toNat)
    else none

/-- A command frame is taken: the length check, then the owning block's checks and effect, then the pending response
(R162 to R164, R166). -/
def State.hostCommand (s : State) (code : Byte) (required : Nat) (body : List Byte)
    (block : State → List Byte → Reply × State) : State :=
  if s.hpt.closed then s
  else
    match paramsOf required body with
    | none => s.answer code (.refused .badLength)
    | some ps => (block s ps).2.answer code (block s ps).1

/-- The reply of a block that refuses and changes nothing. -/
def State.refuse (s : State) (r : RefusalCode) : Reply × State := (.refused r, s)

/-- The reply of a block that accepts and returns no data. -/
def State.accept (s : State) : Reply × State := (.ok [], s)

/-- The reply of a block that returns data and changes nothing. -/
def State.report (s : State) (data : List Byte) : Reply × State := (.ok data, s)

end Sys2Proof.Machine
end

