-- ==== Sys2Proof/Machine/Operands.lean ====
section
/-! DEFINITION. The parameter kinds of host commands and of the microscope's context body, read from bytes with the
ranges their rules give (R175, R176). A value that names nothing reads as none and is refused BAD_VALUE. -/

namespace Sys2Proof.Machine

/-- An axis or monitor, 0..3. -/
def quadOf (b : Byte) : Option Quad :=
  match b.toNat with
  | 0 => some .q0
  | 1 => some .q1
  | 2 => some .q2
  | 3 => some .q3
  | _ => none

/-- A probe, 1..4. -/
def probeOf (b : Byte) : Option ProbeId :=
  match b.toNat with
  | 1 => some .q0
  | 2 => some .q1
  | 3 => some .q2
  | 4 => some .q3
  | _ => none

/-- A source, A0..W as 0..5. -/
def sourceOf (b : Byte) : Option Source :=
  match b.toNat with
  | 0 => some (.phys .q0)
  | 1 => some (.phys .q1)
  | 2 => some (.phys .q2)
  | 3 => some (.phys .q3)
  | 4 => some .m
  | 5 => some .w
  | _ => none

/-- A flag or an option with two values, 0 or 1. -/
def boolOf (b : Byte) : Option Bool :=
  match b.toNat with
  | 0 => some false
  | 1 => some true
  | _ => none

/-- PM or STEPS. -/
def unitOf (b : Byte) : Option LengthUnit := (boolOf b).map (fun x => if x then .steps else .pm)

/-- DIR: 01H for +1, FFH for −1. -/
def dirOf (b : Byte) : Option CountDir :=
  if b = 0x01 then some .plus else if b = 0xFF then some .minus else none

/-- POSITIVE, NEGATIVE or ANY. -/
def markDirOf (b : Byte) : Option MarkDir :=
  match b.toNat with
  | 0 => some .positive
  | 1 => some .negative
  | 2 => some .any
  | _ => none

/-- A fold: 1, 2, 4 or 8 (R66). -/
def foldOf (b : Byte) : Option Nat :=
  match b.toNat with
  | 1 => some 1
  | 2 => some 2
  | 4 => some 4
  | 8 => some 8
  | _ => none

/-- External-with-Fallback or Internal-Only. -/
def frameModeOf (b : Byte) : Option FrameMode :=
  (boolOf b).map (fun x => if x then .internalOnly else .externalWithFallback)

/-- T0 or T1. -/
def inputOf (b : Byte) : Option TrigInput := (boolOf b).map (fun x => if x then .t1 else .t0)

/-- RISE, FALL or BOTH. -/
def edgeOf (b : Byte) : Option EdgeSelect :=
  match b.toNat with
  | 0 => some .rise
  | 1 => some .fall
  | 2 => some .both
  | _ => none

/-- Keep-Oldest or Keep-Newest. -/
def policyOf (b : Byte) : Option QueuePolicy := (boolOf b).map (fun x => if x then .keepNewest else .keepOldest)

/-- Trip-Outside or Trip-Inside. -/
def monitorModeOf (b : Byte) : Option MonitorMode := (boolOf b).map (fun x => if x then .tripInside else .tripOutside)

/-- EVENT or ALERT. -/
def monitorActionOf (b : Byte) : Option MonitorAction := (boolOf b).map (fun x => if x then .alert else .event)

/-- ALL, HOST or MICROSCOPE (R123): the origin a flush removes, or absent for all. -/
def flushOf (b : Byte) : Option (Option Origin) :=
  match b.toNat with
  | 0 => some none
  | 1 => some (some .host)
  | 2 => some (some .microscope)
  | _ => none

/-- An axis mask or monitor mask with no bit above the last item (R176). -/
def quadSetOf (b : Byte) : Option QuadSet := if b.toNat < 16 then some (BitVec.ofNat 4 b.toNat) else none

/-- A source mask with no bit above the last source (R176). -/
def sourceSetOf (b : Byte) : Option SourceSet := if b.toNat < 64 then some (BitVec.ofNat 6 b.toNat) else none

/-- A mask as above that selects something. -/
def nonEmptyQuads (b : Byte) : Option QuadSet := if b = 0 then none else quadSetOf b

/-- A source mask as above that selects something. -/
def nonEmptySources (b : Byte) : Option SourceSet := if b = 0 then none else sourceSetOf b

/-- An unsigned number of several bytes within a range. -/
def natIn (lo hi : Nat) (bytes : List Byte) : Option Nat :=
  let v := bytesToNat bytes
  if lo ≤ v ∧ v ≤ hi then some v else none

/-- A signed number of several bytes within a range. -/
def intIn (lo hi : Int) (bytes : List Byte) : Option Int :=
  let v := bytesToInt bytes
  if lo ≤ v ∧ v ≤ hi then some v else none

/-- A count in steps in the range of ACC (R51 to R53). -/
def accIn (bytes : List Byte) : Option Int := intIn accMin accMax bytes

/-- A flag mask or enable mask of 4 bytes; bits 27 to 31 are ignored (R176). -/
def flagMaskOf (bytes : List Byte) : BitVec 27 := BitVec.ofNat 27 (bytesToNat bytes)

/-- The masks a command frame of the host selects axes with, in order. -/
def QuadSet.members (m : QuadSet) : List Quad := Quad.all.filter (fun i => QuadSet.has m i)

/-- A block whose only parameter is an axis (R46 to R57). -/
def axisCommand (act : State → Axis → Reply × State) (s : State) (ps : List Byte) : Reply × State :=
  match ps with
  | [a] => (match quadOf a with
    | some ax => act s ax
    | none => s.refuse .badValue)
  | _ => s.refuse .badLength

/-- A block whose only parameter is the clear option NO_CLEAR or CLEAR. -/
def clearCommand (act : State → Bool → Reply × State) (s : State) (ps : List Byte) : Reply × State :=
  match ps with
  | [c] => (match boolOf c with
    | some clear => act s clear
    | none => s.refuse .badValue)
  | _ => s.refuse .badLength

end Sys2Proof.Machine
end

