-- ==== Sys2Proof/Machine/Conditions.lean ====
section
/-! DEFINITION. The Compensation Unit: conditions frames, the staleness timer, the K computation, and its host commands
(R66 to R83). -/

namespace Sys2Proof.Machine

/-! ## Step lengths -/

/-- The vacuum step length Lv of an axis (R67). -/
def Optics.vacuumStep (o : Optics) : Nat := o.lambda * 128 / o.fold

/-- The step length K of an axis from the inputs of a computation (R81). -/
def KInputs.stepLength (x : KInputs) (o : Optics) : Nat :=
  let n : Int := if o.vacuum then 0 else x.n
  let e : Int := if o.thermal then x.e else 0
  (roundDiv ((o.vacuumStep : Int) * 10 ^ 21) ((10 ^ 9 + n) * (10 ^ 12 + e))).toNat

/-- The K set a computation stages (R81, R82). -/
def KInputs.result (x : KInputs) : KSet := x.optics.mapIdx (fun _ o => x.stepLength o)

/-! ## Conditions values -/

/-- E = α × (T_S − 20 000) (R68). -/
def thermalTerm (alpha tS : Int) : Int := alpha * (tS - 20000)

/-- E formed anew (R68). -/
def Compensation.formE (x : Compensation) : Compensation := { x with e := thermalTerm x.alpha x.tS }

/-- The combined hold (R77). -/
def Compensation.combinedHold (x : Compensation) : Bool := x.heldN || x.heldT || x.stale

/-- The station is the source of at least one quantity (R78). -/
def Compensation.usesStation (x : Compensation) : Bool := x.nSource != .manual || x.tSource != .manual

/-- COND_HELD is raised where HELD_N or HELD_T has gone from clear to set since `before` (R77). -/
def State.raiseHeld (s : State) (before : Compensation) : State :=
  s.raiseIf ((!before.heldN && s.cmu.heldN) || (!before.heldT && s.cmu.heldT)) .condHeld

/-! ## Conditions frame -/

/-- The fields of a good conditions frame (Formats). -/
structure CondFields where
  seq : Byte
  nOk : Bool
  present : QuadSet
  n : Nat
  raw : Four Nat
  deriving DecidableEq, Repr

/-- The fields of a frame, or none for one that is malformed or fails its CRC (R72). -/
def parseConditions (chars : List CondChar) : Option CondFields :=
  if chars.all (fun c => c.stopOk) then
    match chars.map (fun c => c.byte) with
    | [b1, b2, b3, b4, b5, b6, b7, b8, b9, b10, b11, b12, b13, crc] =>
      if crc8 (bytesToBits [b1, b2, b3, b4, b5, b6, b7, b8, b9, b10, b11, b12, b13]) = crc then
        some {
          seq := b1
          nOk := b2.getLsbD 7
          present := BitVec.ofNat 4 b2.toNat
          n := bytesToNat [b3, b4, b5]
          raw := ⟨bytesToNat [b6, b7], bytesToNat [b8, b9], bytesToNat [b10, b11], bytesToNat [b12, b13]⟩ }
      else none
    | _ => none
  else none

/-- T_k of a raw reading (R74). -/
def ProbeCal.convert (c : ProbeCal) (raw : Nat) : Int :=
  let num : Int := (c.tc2 - c.tc1 : Int) * (raw - c.c1 : Int)
  let den : Int := (c.c2 : Int) - c.c1
  roundDiv (c.tc1 * den + num) den

/-- The probe readings a frame makes (R74). -/
def Compensation.convertProbes (x : Compensation) (f : CondFields) : Four (Option ProbeReading) :=
  x.probes.mapIdx (fun k c =>
    if QuadSet.has f.present k then
      let t := c.convert (f.raw.get k)
      some { tk := t, included := inRange x.tMin x.tMax t }
    else none)

/-- The T_k that are included. -/
def includedReadings (r : Four (Option ProbeReading)) : List Int :=
  r.toList.filterMap (fun o => match o with | some p => if p.included then some p.tk else none | none => none)

/-- The temperature of a frame: the mean of the included T_k, absent where none is included (R75). -/
def frameTemperature (r : Four (Option ProbeReading)) : Option Int :=
  match includedReadings r with
  | [] => none
  | ts => some (roundDiv ts.sum ts.length)

/-- The refractivity of a frame, if it is plausible (R73). -/
def Compensation.plausibleN (x : Compensation) (f : CondFields) : Option Nat :=
  if f.nOk = true ∧ x.nMin ≤ f.n ∧ f.n ≤ x.nMax then some f.n else none

/-- The refractivity taken by the source of N (R73). -/
def Compensation.takeN (x : Compensation) (n : Option Nat) : Compensation :=
  match x.nSource, n with
  | .manual, _ => x
  | .awaiting, some v => { x with n := v, nSource := .station, heldN := false }
  | .awaiting, none => x
  | .station, some v => { x with n := v, heldN := false }
  | .station, none => { x with heldN := true }

/-- The scale temperature taken by the source of T_S, and E formed anew (R68, R75). -/
def Compensation.takeT (x : Compensation) (t : Option Int) : Compensation :=
  match x.tSource, t with
  | .manual, _ => x
  | .awaiting, some v => ({ x with tS := v, tSource := .station, heldT := false }).formE
  | .awaiting, none => x
  | .station, some v => ({ x with tS := v, heldT := false }).formE
  | .station, none => { x with heldT := true }

/-- The staleness timer restarted by an accepted frame (R73, R78). -/
def Compensation.refresh (x : Compensation) (tick : Tick) : Compensation :=
  if x.usesStation then { x with staleness := some tick, stale := false } else x

/-- An accepted frame processed as one whole (R72 to R75). -/
def Compensation.takeAccepted (x : Compensation) (f : CondFields) (tick : Tick) : Compensation :=
  let readings := x.convertProbes f
  let y := (({ x with accepted := x.accepted + 1, lastSeq := some f.seq }).refresh tick).takeN (x.plausibleN f)
  ({ y with readings := readings }).takeT (frameTemperature readings)

/-- An accepted frame with its events and its one update (R73, R77, R80). -/
def State.acceptConditions (s : State) (f : CondFields) : State :=
  let t := s.modCmu (fun x => x.takeAccepted f s.tick)
  (t.raiseHeld s.cmu).kUpdateIf (t.cmu.n != s.cmu.n || t.cmu.e != s.cmu.e)

/-- A conditions frame is judged and taken (R72). -/
def State.takeConditions (s : State) (chars : List CondChar) : State :=
  match parseConditions chars with
  | none => s.modCmu (fun x => { x with crcErrors := satAdd 65535 x.crcErrors 1 })
  | some f =>
    if s.cmu.lastSeq = some f.seq then s.modCmu (fun x => { x with duplicates := satAdd 65535 x.duplicates 1 })
    else s.acceptConditions f

/-- No two characters that follow each other began more than 4 character times apart (R72). -/
def unbroken : List CondChar → Bool
  | [] => true
  | [_] => true
  | a :: b :: rest => decide (elapsed b.began a.began ≤ Config.conditionsGapTicks) && unbroken (b :: rest)

/-- Characters make a frame that has ended: no gap within it, and more than 4 character times since its last character
began (R72). -/
def frameEnded (tick : Tick) (chars : List CondChar) : Bool :=
  match chars.getLast? with
  | some c => unbroken chars && decide ((Config.conditionsGapTicks : Int) < elapsed tick c.began)
  | none => false

/-- CONDITIONS_FRAME (R72 to R75): the frame assembled has ended and is taken. A row sent whole stands for a frame of which
nothing had been assembled (DESIGN CHOICE, log entry 19). -/
def execConditionsFrame (chars : List CondChar) (s : State) : Result :=
  .next (if frameEnded s.tick chars && (s.cmu.frame.isEmpty || s.cmu.frame == chars) then
      (s.modCmu (fun x => { x with frame := [] })).takeConditions chars
    else s)

/-- The frame assembled has ended (R72). -/
def State.frameDue (s : State) : Bool := frameEnded s.tick s.cmu.frame

/-! ## Staleness -/

/-- COND_TIMEOUT in ticks (R78). -/
def Compensation.timeoutTicks (x : Compensation) : Nat := x.condTimeout * Config.ticksPerSecond

/-- The staleness timer is due (R78). -/
def State.staleDue (s : State) : Bool := timerDue s.tick s.cmu.staleness s.cmu.timeoutTicks

/-- The staleness timer expires (R77, R78). -/
def State.goStale (s : State) : State :=
  (s.modCmu (fun x => { x with stale := true, staleness := none })).raiseIf (!s.cmu.stale) .condStale

/-- STALENESS_TIMER_EXPIRY (R78). -/
def execStalenessTimerExpiry (s : State) : Result := .next (if s.staleDue then s.goStale else s)

/-! ## K computation -/

/-- A computation completes: its result is staged as newer, and a pending recomputation starts at once (R80, R82). -/
def Compensation.complete (x : Compensation) (c : KComputation) (tick : Tick) : Compensation :=
  { x with
    staged := some c.inputs.result
    computing := if x.recompute then some { inputs := x.inputs, start := tick } else none
    recompute := false }

/-- K_COMPUTATION_COMPLETE (R82). It may be taken at any moment of a computation (DESIGN CHOICE, log entry 4). -/
def execKComputationComplete (s : State) : Result :=
  .next (match s.cmu.computing with
    | some c => s.modCmu (fun x => x.complete c s.tick)
    | none => s)

/-- A staged set is activated at a frame event (R83). -/
def State.activateK (s : State) : State :=
  match s.cmu.staged with
  | some k => (s.modCmu (fun x => { x with active := k, compGen := x.compGen + 1, staged := none })).raise .condApplied
  | none => s

/-! ## Host commands -/

/-- The block's part of SET_OPTICS (R66). -/
def setOpticsBlock (s : State) (ps : List Byte) : Reply × State :=
  match ps with
  | [a, l2, l1, l0, f, v, t] =>
    (match quadOf a, natIn 400000 1700000 [l2, l1, l0], foldOf f, boolOf v, boolOf t with
    | some ax, some lam, some fold, some vac, some thermal =>
      let o : Optics := { lambda := lam, fold := fold, vacuum := vac, thermal := thermal }
      let changed := s.cmu.optics.get ax != o
      ((s.modCmu (fun x => { x with optics := x.optics.set ax o })).kUpdateIf changed).accept
    | _, _, _, _, _ => s.refuse .badValue)
  | _ => s.refuse .badLength

/-- SET_OPTICS (R66). -/
def execSetOptics (body : List Byte) (s : State) : Result := .next (s.hostCommand 0x16 7 body setOpticsBlock)

/-- The effect of SET_CONDITIONS on N (R69); `station` is the source requested. -/
def Compensation.setN (x : Compensation) (station : Bool) (value : Nat) : Compensation :=
  match station, x.nSource with
  | false, _ => { x with nSource := .manual, n := value, heldN := false }
  | true, .manual => { x with nSource := .awaiting, heldN := true }
  | true, .awaiting => x
  | true, .station => x

/-- The effect of SET_CONDITIONS on T_S, with E formed anew (R68, R69). -/
def Compensation.setT (x : Compensation) (station : Bool) (value : Nat) : Compensation :=
  match station, x.tSource with
  | false, _ => ({ x with tSource := .manual, tS := value, heldT := false }).formE
  | true, .manual => { x with tSource := .awaiting, heldT := true }
  | true, .awaiting => x
  | true, .station => x

/-- The effect of SET_CONDITIONS on the staleness timer; `before` says whether the station had a source (R69, R78). Where it had
one already, a second one leaves the timer as it stands, running or stopped after an expiry (DEDUCED, log entry 26). -/
def Compensation.setStaleness (x : Compensation) (before : Bool) (tick : Tick) : Compensation :=
  if x.usesStation then (if before then x else { x with staleness := some tick })
  else { x with staleness := none, stale := false }

/-- The settings of SET_CONDITIONS applied, with one update for a change of N and one for a change of E (R69), both made
after the settings (DEDUCED, log entry 14). -/
def State.applyConditions (s : State) (nStation : Bool) (n : Nat) (tStation : Bool) (t : Nat) : State :=
  let u := s.modCmu (fun x => ((x.setN nStation n).setT tStation t).setStaleness x.usesStation s.tick)
  ((u.raiseHeld s.cmu).kUpdateIf (u.cmu.n != s.cmu.n)).kUpdateIf (u.cmu.e != s.cmu.e)

/-- The block's part of SET_CONDITIONS (R69); MANUAL is 0 and STATION 1. -/
def setConditionsBlock (s : State) (ps : List Byte) : Reply × State :=
  match ps with
  | [ns, n2, n1, n0, ts, t1, t0] =>
    (match boolOf ns, natIn 0 999999 [n2, n1, n0], boolOf ts, natIn 0 50000 [t1, t0] with
    | some nStation, some n, some tStation, some t => (s.applyConditions nStation n tStation t).accept
    | _, _, _, _ => s.refuse .badValue)
  | _ => s.refuse .badLength

/-- SET_CONDITIONS (R69). -/
def execSetConditions (body : List Byte) (s : State) : Result := .next (s.hostCommand 0x17 7 body setConditionsBlock)

/-- The block's part of SET_EXPANSION (R70). -/
def setExpansionBlock (s : State) (ps : List Byte) : Reply × State :=
  match intIn (-50000) 50000 ps with
  | some alpha =>
    let t := s.modCmu (fun x => ({ x with alpha := alpha }).formE)
    (t.kUpdateIf (t.cmu.e != s.cmu.e)).accept
  | none => s.refuse .badValue

/-- SET_EXPANSION (R70). -/
def execSetExpansion (body : List Byte) (s : State) : Result := .next (s.hostCommand 0x18 3 body setExpansionBlock)

/-- A window would exclude a value in use while its source is STATION (R71). -/
def Compensation.windowExcludes (x : Compensation) (nMin nMax tMin tMax : Nat) : Bool :=
  (x.nSource == .station && !inRange nMin nMax x.n) || (x.tSource == .station && !inRange tMin tMax x.tS)

/-- The five settings of SET_PLAUSIBILITY written, with an expiry the new timeout brings about (R71). -/
def State.writePlausibility (s : State) (nMin nMax tMin tMax timeout : Nat) : State :=
  let t := s.modCmu (fun x =>
    { x with nMin := nMin, nMax := nMax, tMin := tMin, tMax := tMax, condTimeout := timeout })
  if t.staleDue then t.goStale else t

/-- The block's part of SET_PLAUSIBILITY (R71). -/
def setPlausibilityBlock (s : State) (ps : List Byte) : Reply × State :=
  match ps with
  | [a2, a1, a0, b2, b1, b0, c1, c0, d1, d0, tmo] =>
    (match natIn 0 999999 [a2, a1, a0], natIn 0 999999 [b2, b1, b0], natIn 0 50000 [c1, c0], natIn 0 50000 [d1, d0],
        natIn 1 60 [tmo] with
    | some nMin, some nMax, some tMin, some tMax, some timeout =>
      if nMax < nMin ∨ tMax < tMin then s.refuse .badValue
      else if s.cmu.windowExcludes nMin nMax tMin tMax then s.refuse .state
      else (s.writePlausibility nMin nMax tMin tMax timeout).accept
    | _, _, _, _, _ => s.refuse .badValue)
  | _ => s.refuse .badLength

/-- SET_PLAUSIBILITY (R71). -/
def execSetPlausibility (body : List Byte) (s : State) : Result :=
  .next (s.hostCommand 0x19 11 body setPlausibilityBlock)

/-- The block's part of SET_PROBE (R76). -/
def setProbeBlock (s : State) (ps : List Byte) : Reply × State :=
  match ps with
  | [p, c11, c10, c21, c20, t11, t10, t21, t20] =>
    (match probeOf p, natIn 0 65535 [c11, c10], natIn 0 65535 [c21, c20], natIn 0 50000 [t11, t10],
        natIn 0 50000 [t21, t20] with
    | some k, some c1, some c2, some tc1, some tc2 =>
      if c1 = c2 then s.refuse .badValue
      else
        (s.modCmu (fun x =>
          { x with probes := x.probes.set k { c1 := c1, tc1 := tc1, c2 := c2, tc2 := tc2 } })).accept
    | _, _, _, _, _ => s.refuse .badValue)
  | _ => s.refuse .badLength

/-- SET_PROBE (R76). -/
def execSetProbe (body : List Byte) (s : State) : Result := .next (s.hostCommand 0x1A 9 body setProbeBlock)

/-- A K set in response data. -/
def kSetBytes (k : KSet) : List Byte := k.toList.flatMap (natBytes 4)

/-- A probe reading in response data: T_k and its included flag, one item under one presence byte (DESIGN CHOICE, log
entry 9). -/
def ProbeReading.bytes (r : ProbeReading) : List Byte := intBytes 6 r.tk ++ [flagByte r.included]

/-- The data of READ_CONDITIONS, in R79's order. What is one item under one presence byte is the model's choice for the probe
readings and the staged K set (DESIGN CHOICE, log entry 9). -/
def Compensation.bytes (x : Compensation) : List Byte :=
  natBytes 3 x.n ++ [x.nSource.code] ++ natBytes 2 x.tS.toNat ++ [x.tSource.code] ++ intBytes 3 x.alpha ++
    intBytes 6 x.e ++ [flagByte x.heldN, flagByte x.heldT, flagByte x.stale, flagByte x.staleness.isSome] ++
    optBytes 1 (fun b => [b]) x.lastSeq ++ natBytes 2 x.accepted.toNat ++ natBytes 2 x.crcErrors ++
    natBytes 2 x.duplicates ++ x.readings.toList.flatMap (optBytes 7 ProbeReading.bytes) ++ kSetBytes x.active ++
    [x.compGen] ++ optBytes 16 kSetBytes x.staged ++ [flagByte x.computing.isSome, flagByte x.recompute]

/-- The conditions link with its three frame counters 0 (R79). -/
def Compensation.clearCounters (x : Compensation) : Compensation := { x with accepted := 0, crcErrors := 0, duplicates := 0 }

/-- The block's part of READ_CONDITIONS (R79). -/
def readConditionsBlock (s : State) (clear : Bool) : Reply × State :=
  (.ok s.cmu.bytes, if clear then s.modCmu Compensation.clearCounters else s)

/-- READ_CONDITIONS (R79). -/
def execReadConditions (body : List Byte) (s : State) : Result :=
  .next (s.hostCommand 0x1B 1 body (clearCommand readConditionsBlock))

end Sys2Proof.Machine
end

