-- ==== Sys2Proof/Machine/Counting.lean ====
section
/-! DEFINITION. What a phase unit does with the hand-offs of its receiver (R18 to R42, R45, R55), with the Monitor Unit's
evaluation of each update (R148 to R150). -/

namespace Sys2Proof.Machine

/-! ## Stage 1: sample correction -/

/-- The corrected pair and whether a step of the correction was clamped (R20). -/
structure Corrected where
  s1 : Int
  c2 : Int
  clamped : Bool
  deriving DecidableEq, Repr

/-- A corrected value set into −32768..32767. -/
def clamp16 (x : Int) : Int := clampTo (-32768) 32767 x

/-- The correction of a raw pair (R20). -/
def correctPair (k : Correction) (sin cos : Int) : Corrected :=
  let sRaw := roundDiv ((sin - k.os) * k.gs) 16384
  let s1 := clamp16 sRaw
  let cRaw := roundDiv ((cos - k.oc) * k.gc) 16384
  let c1 := clamp16 cRaw
  let qRaw := roundDiv (c1 * 16384 + s1 * k.q) 16384
  { s1 := s1, c2 := clamp16 qRaw, clamped := s1 != sRaw || c1 != cRaw || clamp16 qRaw != qRaw }

/-! ## Stage 2: amplitude window -/

/-- The squared amplitude r2 (R22). -/
def Corrected.r2 (x : Corrected) : Int := x.s1 * x.s1 + x.c2 * x.c2

/-- The sample is LOW (R22). -/
def PhaseUnit.isLow (p : PhaseUnit) (x : Corrected) : Bool :=
  x.r2 == 0 || decide (x.r2 < (p.ampLow : Int) * p.ampLow)

/-- The sample is above the window (R22). -/
def PhaseUnit.isHigh (p : PhaseUnit) (x : Corrected) : Bool := decide ((p.ampHigh : Int) * p.ampHigh < x.r2)

/-! ## Monitor Unit -/

/-- The count of the monitor's source lies in its window; M is compared by the exact sum (R149). -/
def Monitor.inWindow (m : Monitor) (acc : Axis → Int) : Bool :=
  match m.source with
  | .phys a => inRange m.low m.high (acc a)
  | .m => inRange (2 * m.low) (2 * m.high) (acc .q0 + acc .q1)
  | .w => inRange m.low m.high (acc .q0 - acc .q1)

/-- The mode and window call for a trip (R149). -/
def Monitor.callsForTrip (m : Monitor) (acc : Axis → Int) : Bool :=
  match m.mode with
  | .tripOutside => !m.inWindow acc
  | .tripInside => m.inWindow acc

/-- The five conditions of R148 hold for a monitor at an update of an axis. -/
def State.monitorTrips (s : State) (a : Axis) (i : MonitorId) : Bool :=
  let m := s.mnu.get i
  m.enabled && m.source.dependsOn a && !m.tripped && s.validOf m.source && m.callsForTrip (fun b => (s.phu.get b).acc)

/-- A monitor trips: mark, flag, and for action ALERT the level condition judged anew (R150). -/
def State.tripMonitor (s : State) (i : MonitorId) : State :=
  let s := (s.modMonitor i (fun m => { m with tripped := true })).raise (.monitorTrip i)
  if (s.mnu.get i).action = .alert then s.judgeLevel else s

/-- One monitor evaluated at an update of an axis. -/
def State.evaluateMonitor (s : State) (a : Axis) (i : MonitorId) : State :=
  if s.monitorTrips a i then s.tripMonitor i else s

/-- The four monitors evaluated at an update of an axis (R148). -/
def State.evaluateMonitors (s : State) (a : Axis) : State :=
  (((s.evaluateMonitor a .q0).evaluateMonitor a .q1).evaluateMonitor a .q2).evaluateMonitor a .q3

/-! ## Sample history -/

/-- The history after an entry enters it, keeping the last 8 (R41). -/
def enterHistory (h : List HistEntry) (e : HistEntry) : List HistEntry :=
  if h.length < Config.historyCapacity then h ++ [e] else h.drop 1 ++ [e]

/-- An entry enters the history of an axis. -/
def State.pushHistory (s : State) (a : Axis) (e : HistEntry) : State :=
  s.modPhu a (fun p => { p with history := enterHistory p.history e })

/-- A new entry is offered to the Line Capture Unit and the Monitor Unit (R42). -/
def State.offerUpdate (s : State) (a : Axis) (e : HistEntry) : State := (s.offerToCapture a e).evaluateMonitors a

/-- The history entry of a sample just processed (R40). -/
def PhaseUnit.entryAt (p : PhaseUnit) (t : Tick) (kind : SampleKind) : HistEntry :=
  { instant := t, acc := p.acc, kind := kind, epoch := p.epoch }

/-- A processed sample enters the history and is offered (R41, R42). -/
def State.enterSample (s : State) (a : Axis) (t : Tick) (kind : SampleKind) : State :=
  let e := (s.phu.get a).entryAt t kind
  (s.pushHistory a e).offerUpdate a e

/-! ## Stages 4 and 5 -/

/-- DIR as a sign (R30). -/
def CountDir.sign : CountDir → Int
  | .plus => 1
  | .minus => -1

/-- ACC moved by a change and set to the nearer limit of its range (R31). -/
def movedAcc (acc change : Int) : Int := clampTo accMin accMax (acc + change)

/-- The change would carry ACC outside its range (R31). -/
def leavesRange (acc change : Int) : Bool := movedAcc acc change != acc + change

/-- A RANGE loss if a change would carry ACC outside its range, taken with ACC as it stood (R31). -/
def State.rangeLoss (s : State) (a : Axis) (change : Int) (t : Tick) : State :=
  if leavesRange (s.phu.get a).acc change then s.integrityLoss a .range t (s.phu.get a).acc else s

/-- The last real interval after a real sample at an instant that is not an anchor (R28). -/
def PhaseUnit.intervalAt (p : PhaseUnit) (t : Tick) : Option Nat :=
  match p.history.getLast? with
  | some e => if e.kind = .real ∧ 1 ≤ p.realRun then some (t - e.instant).toNat else p.lastInterval
  | none => p.lastInterval

/-- An anchoring sample (R26). -/
def State.anchorSample (s : State) (a : Axis) (p : BitVec 9) (t : Tick) : State :=
  (s.modPhu a (fun u => { u.clearMissing with pRef := some p, realRun := 1 })).enterSample a t .real

/-- A step violation (R29). -/
def State.stepViolation (s : State) (a : Axis) (p : BitVec 9) (t : Tick) : State :=
  ((s.integrityLoss a .step t (s.phu.get a).acc).modPhu a (fun u =>
    { u.clearMissing with pRef := some p, dLast := 0, realRun := 1, lastInterval := u.intervalAt t })).enterSample a t .real

/-- The direction requirement of a datum is met by a change of ACC (R55). -/
def MarkDir.met (r : MarkDir) (change : Int) : Bool :=
  match r with
  | .positive => decide (0 < change)
  | .negative => decide (change < 0)
  | .any => true

/-- The value a mark loads into ACC: that of the armed datum of an ARMED axis whose requirement is met (R55). -/
def PhaseUnit.markDatum (p : PhaseUnit) (change : Int) : Option Int :=
  match p.state, p.armed with
  | .armed, some d => if d.direction.met change then some d.value else none
  | _, _ => none

/-- The phase unit after a counting sample, before any datum on its mark (R28, R31). -/
def PhaseUnit.counted (u : PhaseUnit) (p : BitVec 9) (d : Int) (t : Tick) : PhaseUnit :=
  { u.clearMissing with
    acc := movedAcc u.acc (u.dir.sign * d)
    pRef := some p
    dLast := if u.realRun = 0 then u.dLast else d
    realRun := min 2 (u.realRun + 1)
    lastInterval := u.intervalAt t }

/-- A counting sample with its mark offered to the axis state machine (R28, R31, R32, R55, R59). -/
def State.countSample (s : State) (a : Axis) (mark : Bool) (p : BitVec 9) (d : Int) (t : Tick) : State :=
  let change := (s.phu.get a).dir.sign * d
  let offered := mark && !leavesRange (s.phu.get a).acc change
  let s := (s.rangeLoss a change t).modPhu a (fun u => u.counted p d t)
  match offered, (s.phu.get a).markDatum change with
  | true, some v =>
    let s := s.loadDatum a v
    let e := (s.phu.get a).entryAt t .real
    ((s.pushHistory a e).reportToCapture a .epochChange).offerUpdate a e
  | _, _ => s.enterSample a t .real

/-- Why samples are missing (R33). -/
inductive MissingReason where
  | bad | gap | low
  deriving DecidableEq, Repr

/-- The instant of the k-th bridged sample of a notice of count g, k from 1 (R35). -/
def bridgeInstant (reason : MissingReason) (prev : Tick) (interval : Nat) (g : Nat) (tn : Tick) (k : Nat) : Tick :=
  match reason with
  | .gap => earlier (ticksAfter prev (k * interval)) (ticksBefore tn (g - k + 1))
  | .bad => earlier (ticksAfter prev interval) tn
  | .low => earlier (ticksAfter prev interval) tn

/-- One bridged sample; `tn` is the instant its notice carries (R34, R31). A RANGE loss inside a bridge of several samples
holds ACC as it stood before that sample's update (DEDUCED, log entry 11). -/
def State.bridgeSample (s : State) (a : Axis) (tn t : Tick) : State :=
  let change := (s.phu.get a).dir.sign * (s.phu.get a).dLast
  ((s.rangeLoss a change tn).modPhu a (fun u =>
    { u with
      acc := movedAcc u.acc change
      pRef := u.pRef.map (fun p => p + BitVec.ofInt 9 u.dLast)
      missing := u.missing + 1 })).enterSample a t .bridged

/-- The bridged samples of a notice one after another. -/
def State.bridgeSamples (s : State) (a : Axis) (tn : Tick) : List Tick → State
  | [] => s
  | t :: ts => (s.bridgeSample a tn t).bridgeSamples a tn ts

/-- The cause of a failed bridge (R36). -/
def MissingReason.cause : MissingReason → Cause
  | .bad => .dropout
  | .gap => .dropout
  | .low => .beam

/-- A failed bridge (R36). -/
def State.failBridge (s : State) (a : Axis) (reason : MissingReason) (tn : Tick) : State :=
  (s.modPhu a (fun u => { u.clearMissing with realRun := 0, dLast := 0 })).integrityLoss a reason.cause tn (s.phu.get a).acc

/-- The instants of the bridged samples of a notice, if all the conditions for a bridge hold (R33, R35). -/
def PhaseUnit.bridgePlan (u : PhaseUnit) (reason : MissingReason) (g : Nat) (tn : Tick) : Option (List Tick) :=
  match u.history.getLast?, u.lastInterval with
  | some e, some interval =>
    if u.realRun = 2 ∧ u.missing + g ≤ u.bridgeMax ∧
        later (bridgeInstant reason e.instant interval g tn 1) e.instant = true then
      some ((List.range g).map (fun k => bridgeInstant reason e.instant interval g tn (k + 1)))
    else none
  | _, _ => none

/-- A missing notice of count g, bridged as a whole or not at all (R33 to R36). The bridge request is taken where it is made,
after any change of the level condition that the bridged samples have brought about (DESIGN CHOICE, log entry 27). -/
def State.takeNotice (s : State) (a : Axis) (reason : MissingReason) (g : Nat) (tn : Tick) : State :=
  match (s.phu.get a).bridgePlan reason g tn with
  | some instants =>
    ((s.bridgeSamples a tn instants).modPhu a (fun u => { u with bridged := true })).bridgeRequest a
  | none => s.failBridge a reason tn

/-- A sample that is not LOW, of a given phase: anchoring, counting or a step violation (R26, R27). -/
def State.takePhase (s : State) (a : Axis) (mark : Bool) (p : BitVec 9) (t : Tick) : State :=
  match (s.phu.get a).pRef with
  | none => s.anchorSample a p t
  | some ref =>
    let d := (p - ref).toInt
    if d.natAbs ≤ 192 then s.countSample a mark p d t else s.stepViolation a p t

/-- A sample taken through stages 1 to 5 (R20 to R24, R38). -/
def State.takeSample (s : State) (a : Axis) (f : SampleFields) (t : Tick) : State :=
  let u := s.phu.get a
  let x := correctPair u.correction f.sin f.cos
  if u.isLow x then s.takeNotice a .low 1 t
  else
    let degraded := x.clamped || u.isHigh x || f.clip
    (s.modPhu a (fun u => { u with saturated := u.saturated || degraded })).takePhase a f.mark (phaseOf x.s1 x.c2) t

/-! ## Hand-offs (R5, R18): an axis in OFF discards every one -/

/-- The axis is OFF. -/
def State.isOff (s : State) (a : Axis) : Bool := (s.phu.get a).state == .off

/-- Lock gained (R19, R45). -/
def State.lockGained (s : State) (a : Axis) : State :=
  if s.isOff a then s else s.modPhu a (fun p => { p.trackingRestart with lockView := true })

/-- Lock lost: the loss first, then the tracking restart (R19, R45). -/
def State.lockLost (s : State) (a : Axis) (tick : Tick) : State :=
  if s.isOff a then s
  else (s.integrityLoss a .link tick (s.phu.get a).acc).modPhu a (fun p => { p.trackingRestart with lockView := false })

/-- A sample handed over. -/
def State.handSample (s : State) (a : Axis) (f : SampleFields) (t : Tick) : State :=
  if s.isOff a then s else s.takeSample a f t

/-- A missing notice handed over. -/
def State.handNotice (s : State) (a : Axis) (reason : MissingReason) (g : Nat) (t : Tick) : State :=
  if s.isOff a then s else s.takeNotice a reason g t

end Sys2Proof.Machine
end

