-- ==== Sys2Proof/Machine/Axes.lean ====
section
/-! DEFINITION. The host commands of the phase units and the axis state machine: SET_CORRECTION to READ_TRACKING (R21 to
R43) and ENABLE_AXIS to AXIS_RESTART (R46 to R57). -/

namespace Sys2Proof.Machine

/-! ## Settings of the counting record -/

/-- The block's part of SET_CORRECTION (R21). -/
def setCorrectionBlock (s : State) (ps : List Byte) : Reply × State :=
  match ps with
  | [a, os1, os0, oc1, oc0, gs1, gs0, gc1, gc0, q1, q0] =>
    (match quadOf a, intIn (-4096) 4095 [os1, os0], intIn (-4096) 4095 [oc1, oc0], natIn 8192 24575 [gs1, gs0],
        natIn 8192 24575 [gc1, gc0], intIn (-2048) 2047 [q1, q0] with
    | some ax, some os, some oc, some gs, some gc, some q =>
      (s.modPhu ax (fun p => { p with correction := { os := os, oc := oc, gs := gs, gc := gc, q := q } })).accept
    | _, _, _, _, _, _ => s.refuse .badValue)
  | _ => s.refuse .badLength

/-- SET_CORRECTION (R21). -/
def execSetCorrection (body : List Byte) (s : State) : Result := .next (s.hostCommand 0x08 11 body setCorrectionBlock)

/-- The block's part of SET_AMPLITUDE (R23). -/
def setAmplitudeBlock (s : State) (ps : List Byte) : Reply × State :=
  match ps with
  | [a, l1, l0, h1, h0] =>
    (match quadOf a, natIn 0 32767 [l1, l0], natIn 0 32767 [h1, h0] with
    | some ax, some low, some high =>
      if low < high then (s.modPhu ax (fun p => { p with ampLow := low, ampHigh := high })).accept
      else s.refuse .badValue
    | _, _, _ => s.refuse .badValue)
  | _ => s.refuse .badLength

/-- SET_AMPLITUDE (R23). -/
def execSetAmplitude (body : List Byte) (s : State) : Result := .next (s.hostCommand 0x09 5 body setAmplitudeBlock)

/-- The block's part of SET_DIRECTION (R30). -/
def setDirectionBlock (s : State) (ps : List Byte) : Reply × State :=
  match ps with
  | [a, d] =>
    (match quadOf a, dirOf d with
    | some ax, some dir =>
      (match (s.phu.get ax).state with
      | .off => (s.modPhu ax (fun p => { p with dir := dir })).accept
      | .unreferenced => (s.modPhu ax (fun p => { p with dir := dir })).accept
      | .armed => s.refuse .state
      | .referenced => s.refuse .state
      | .faulted => s.refuse .state)
    | _, _ => s.refuse .badValue)
  | _ => s.refuse .badLength

/-- SET_DIRECTION (R30). -/
def execSetDirection (body : List Byte) (s : State) : Result := .next (s.hostCommand 0x0A 2 body setDirectionBlock)

/-- A new bridge budget, in force at once or pending (R37). -/
def PhaseUnit.setBridge (p : PhaseUnit) (n : Nat) : PhaseUnit :=
  if p.missing = 0 then { p with bridgeMax := n, pendingBridgeMax := none } else { p with pendingBridgeMax := some n }

/-- The block's part of SET_BRIDGE (R37). -/
def setBridgeBlock (s : State) (ps : List Byte) : Reply × State :=
  match ps with
  | [a, n] =>
    (match quadOf a, natIn 0 3 [n] with
    | some ax, some k => (s.modPhu ax (fun p => p.setBridge k)).accept
    | _, _ => s.refuse .badValue)
  | _ => s.refuse .badLength

/-- SET_BRIDGE (R37). -/
def execSetBridge (body : List Byte) (s : State) : Result := .next (s.hostCommand 0x0B 2 body setBridgeBlock)

/-- A history entry in response data: its four fields (R40, R175). -/
def HistEntry.bytes (e : HistEntry) : List Byte :=
  natBytes 6 e.instant.toNat ++ intBytes 6 e.acc ++ [e.kind.code, byteOf e.epoch.toNat]

/-- The data of READ_TRACKING (R43). -/
def PhaseUnit.trackingBytes (p : PhaseUnit) : List Byte :=
  intBytes 6 p.acc ++ optBytes 2 (fun r : BitVec 9 => natBytes 2 r.toNat) p.pRef ++ intBytes 2 p.dLast ++
    optBytes 6 (natBytes 6) p.lastInterval ++ [byteOf p.realRun, byteOf p.missing, byteOf p.bridgeMax] ++
    optBytes 1 (natBytes 1) p.pendingBridgeMax ++ [p.dir.code, flagByte p.saturated, flagByte p.bridged] ++
    listBytes HistEntry.bytes p.history

/-- READ_TRACKING (R43). -/
def execReadTracking (body : List Byte) (s : State) : Result :=
  .next (s.hostCommand 0x0C 1 body (axisCommand (fun s a => s.report (s.phu.get a).trackingBytes)))

/-! ## Enabling and disabling -/

/-- ENABLE_AXIS taken by the phase unit (R45, R46). -/
def enableAxisBlock (s : State) (a : Axis) : Reply × State :=
  if s.isOff a then
    (s.modPhu a (fun p =>
      { p.trackingRestart with state := .unreferenced, lockView := (s.slr.get a).link == .locked })).accept
  else s.refuse .state

/-- ENABLE_AXIS (R46). -/
def execEnableAxis (body : List Byte) (s : State) : Result :=
  .next (s.hostCommand 0x0D 1 body (axisCommand enableAxisBlock))

/-- The record of an axis as DISABLE_AXIS clears it, its epoch apart (R47). -/
def PhaseUnit.disable (p : PhaseUnit) : PhaseUnit :=
  { p.trackingRestart with
    state := .off, acc := 0, fault := none, hold := 0, armed := none, saturated := false, bridged := false, lockView := false }

/-- DISABLE_AXIS taken by the phase unit (R47, R59, R62). -/
def disableAxisBlock (s : State) (a : Axis) : Reply × State :=
  if s.isOff a then s.accept
  else ((((s.modPhu a PhaseUnit.disable).advanceEpoch a).reportToCapture a .disable).judgeLevel).accept

/-- DISABLE_AXIS (R47). -/
def execDisableAxis (body : List Byte) (s : State) : Result :=
  .next (s.hostCommand 0x0E 1 body (axisCommand disableAxisBlock))

/-! ## Faults and datums -/

/-- ACK_FAULT taken by the phase unit (R50). -/
def ackFaultBlock (s : State) (a : Axis) : Reply × State :=
  match (s.phu.get a).state with
  | .faulted => ((s.modPhu a (fun p => { p with state := .unreferenced, fault := none, hold := 0 })).judgeLevel).accept
  | .off => s.refuse .state
  | .unreferenced => s.refuse .state
  | .armed => s.refuse .state
  | .referenced => s.refuse .state

/-- ACK_FAULT (R50). -/
def execAckFault (body : List Byte) (s : State) : Result := .next (s.hostCommand 0x0F 1 body (axisCommand ackFaultBlock))

/-- DATUM_NOW taken by the phase unit (R51, R59). -/
def datumNowAt (s : State) (a : Axis) (value : Int) : Reply × State :=
  let load := ((s.loadDatum a value).reportToCapture a .epochChange).accept
  match (s.phu.get a).state with
  | .off => s.refuse .state
  | .faulted => s.refuse .state
  | .unreferenced => if (s.phu.get a).lockView then load else s.refuse .noLock
  | .armed => if (s.phu.get a).lockView then load else s.refuse .noLock
  | .referenced => if (s.phu.get a).lockView then load else s.refuse .noLock

/-- The block's part of DATUM_NOW (R51). -/
def datumNowBlock (s : State) (ps : List Byte) : Reply × State :=
  match ps with
  | [a, v5, v4, v3, v2, v1, v0] =>
    (match quadOf a, accIn [v5, v4, v3, v2, v1, v0] with
    | some ax, some v => datumNowAt s ax v
    | _, _ => s.refuse .badValue)
  | _ => s.refuse .badLength

/-- DATUM_NOW (R51). -/
def execDatumNow (body : List Byte) (s : State) : Result := .next (s.hostCommand 0x10 7 body datumNowBlock)

/-- A block whose parameters are an axis, a value in the range of ACC and a direction requirement (R52, R53). -/
def datumCommand (act : State → Axis → Datum → Reply × State) (s : State) (ps : List Byte) : Reply × State :=
  match ps with
  | [a, v5, v4, v3, v2, v1, v0, d] =>
    (match quadOf a, accIn [v5, v4, v3, v2, v1, v0], markDirOf d with
    | some ax, some v, some dir => act s ax { value := v, direction := dir }
    | _, _, _ => s.refuse .badValue)
  | _ => s.refuse .badLength

/-- SET_DATUM_PRESET (R52). -/
def execSetDatumPreset (body : List Byte) (s : State) : Result :=
  .next (s.hostCommand 0x11 8 body (datumCommand (fun s a d => (s.modPhu a (fun p => { p with preset := d })).accept)))

/-- An UNREFERENCED axis becomes ARMED with a datum (R53, R54). -/
def PhaseUnit.arm (p : PhaseUnit) (d : Datum) : PhaseUnit := { p with state := .armed, armed := some d }

/-- DATUM_AT_MARK taken by the phase unit (R53). -/
def datumAtMarkAt (s : State) (a : Axis) (d : Datum) : Reply × State :=
  match (s.phu.get a).state with
  | .unreferenced => (s.modPhu a (fun p => p.arm d)).accept
  | .off => s.refuse .state
  | .armed => s.refuse .state
  | .referenced => s.refuse .state
  | .faulted => s.refuse .state

/-- DATUM_AT_MARK (R53). -/
def execDatumAtMark (body : List Byte) (s : State) : Result :=
  .next (s.hostCommand 0x12 8 body (datumCommand datumAtMarkAt))

/-- RELEASE_AXIS taken by the phase unit (R56). -/
def releaseAxisBlock (s : State) (a : Axis) : Reply × State :=
  match (s.phu.get a).state with
  | .armed => (s.modPhu a (fun p => { p with state := .unreferenced, armed := none })).accept
  | .referenced => (s.modPhu a (fun p => { p with state := .unreferenced })).accept
  | .off => s.refuse .state
  | .unreferenced => s.refuse .state
  | .faulted => s.refuse .state

/-- RELEASE_AXIS (R56). -/
def execReleaseAxis (body : List Byte) (s : State) : Result :=
  .next (s.hostCommand 0x13 1 body (axisCommand releaseAxisBlock))

/-- The record of an axis as AXIS_RESTART leaves it, its epoch apart (R57). -/
def PhaseUnit.restart (p : PhaseUnit) : PhaseUnit :=
  { p.trackingRestart with acc := 0, fault := none, hold := 0, armed := none, state := .unreferenced }

/-- AXIS_RESTART taken by the phase unit (R57, R59, R62). -/
def axisRestartBlock (s : State) (a : Axis) : Reply × State :=
  if s.isOff a then s.accept
  else ((((s.modPhu a PhaseUnit.restart).advanceEpoch a).reportToCapture a .restart).judgeLevel).accept

/-- AXIS_RESTART (R57). -/
def execAxisRestart (body : List Byte) (s : State) : Result :=
  .next (s.hostCommand 0x14 1 body (axisCommand axisRestartBlock))

end Sys2Proof.Machine
end

