-- ==== Sys2Proof/WellFormed.lean ====
section
/-! DEFINITION. When a term of `Instr` spells an event that its row of the table describes.

A command frame or a message may hold any bytes, and the part answers all of them, so most operands need no check.
The checks below are those without which the term would belong to another row, or to no event at all. `exec` answers the
other terms too: an event that does not arise changes nothing (DESIGN CHOICE, log entry 5). -/

namespace Sys2Proof

/-- A LEN byte that starts a message, 1..23 (R142). -/
def isMessageLength (len : Byte) : Bool := decide (1 ≤ len.toNat) && decide (len.toNat ≤ Config.maxMicroLength)

/-- The action byte of a HOLD_OUTPUT frame with both its parameters, 1 for RELEASE (R64, R175). -/
def isReleaseBody (body : List Byte) : Bool :=
  match body with
  | _ :: _ :: act :: _ => act == 1
  | _ => false

/-- The CODE of a message names one of the three inward messages of the microscope link (Formats). -/
def isMicroCode (code : Byte) : Bool := code == 0x21 || code == 0x22 || code == 0x23

/-- The parameters of a complete message: LEN counts them and the CODE, and is at most 23 (R142). -/
def microParamsWf (params : List Byte) : Bool := decide (params.length ≤ 22)

/-- The ACTION of a servo command word, its first two bits (Formats). -/
def servoAction (word : BitVec 8) : BitVec 2 := word.extractLsb' 6 2

/-- The term spells an event of its own row. -/
def Instr.wf : Instr → Bool
  | .conditionsFrame chars => !chars.isEmpty
  | .servoReadComplete word => servoAction word == 0 || servoAction word == 3
  | .servoArm word => servoAction word == 1
  | .servoDisarm word => servoAction word == 2
  | .microQueueContext params => microParamsWf params
  | .flushOwn params => microParamsWf params
  | .query params => microParamsWf params
  | .microUnknownCode code params => !isMicroCode code && microParamsWf params
  | .lineError (.badLen len) _ => !isMessageLength len
  | .unknownCommand code _ => decide (Config.lastCommandCode < code.toNat)
  | .holdOutput body => !isReleaseBody body
  | .holdOutputRelease body => isReleaseBody body
  | .sampleFrame _ _ | .silenceTimerExpiry _ | .stalenessTimerExpiry | .kComputationComplete | .syncEdge => true
  | .syncWatchExpiry | .frameTimerExpiry | .servoReadStart _ | .servoDeselect | .triggerEdge _ _ => true
  | .deadTimeEnd _ | .captureTimeoutExpiry | .lineError .parity _ | .lineError .stopBit _ => true
  | .gapDiscard | .silenceWaitEnd | .messageSent | .pulseTimerExpiry | .gapTimerExpiry | .minimumLevelExpiry => true
  | .responseReady | .fetch _ | .resetUnit _ _ | .powerOnReset _ | .readStatus _ _ | .readPosition _ => true
  | .clearEvents _ | .setEventMask _ | .setLink _ | .readLinkCounters _ | .setCorrection _ => true
  | .setAmplitude _ | .setDirection _ | .setBridge _ | .readTracking _ | .enableAxis _ | .disableAxis _ => true
  | .ackFault _ | .datumNow _ | .setDatumPreset _ | .datumAtMark _ | .releaseAxis _ | .axisRestart _ => true
  | .setOptics _ | .setConditions _ | .setExpansion _ | .setPlausibility _ | .setProbe _ => true
  | .readConditions _ | .setFrame _ | .setSampleCheck _ | .setNotify _ | .readFrameState _ | .setLayout _ => true
  | .setTrigger _ | .queueContext _ | .flushContexts _ | .setCapture _ | .readCaptures _ => true
  | .readServoState _ | .readCaptureState _ | .setMicroLink _ | .setMonitor _ | .clearMonitor _ | .setAlert _ => true
  | .readAlertState _ _ | .hselSeenHigh | .characterWhileWaitingForSilence _ _ => true

end Sys2Proof
end

