-- ==== Sys2Proof/Machine/Servo.lean ====
section
/-! DEFINITION. The Servo Port: layouts, snapshots, reads and command words, the output hold, and its host commands
(R54, R64, R104 to R117). -/

namespace Sys2Proof.Machine

/-! ## Slots (R108 to R110) -/

/-- The tripped mark is set on a monitor that watches the source (R108, R110). -/
def State.watchTripped (s : State) (x : Source) : Bool :=
  Quad.all.any (fun m => (s.mnu.get m).tripped && (s.mnu.get m).source == x)

/-- The status of a physical axis's slot by its live condition (R108); `steps` and `pm` are left to the caller. -/
def PhaseUnit.liveSlot (p : PhaseUnit) (monitor : Bool) : Slot :=
  match p.state with
  | .off =>
    { value := 0, valid := false, held := false, fault := false, armed := false, bridged := false, saturated := false,
      locked := false, monitor := false, epoch := 0 }
  | _ =>
    { value := p.reported, valid := p.valid, held := false, fault := p.state == .faulted, armed := p.state == .armed,
      bridged := p.bridged, saturated := p.saturated, locked := p.lockView, monitor := monitor, epoch := p.epoch }

/-- The status of a slot of M or W from its two constituents (R110). -/
def pairSlot (p0 p1 : PhaseUnit) (value : Int) (epoch : BitVec 4) (monitor : Bool) : Slot :=
  { value := value
    valid := p0.valid && p1.valid
    held := false
    fault := p0.state == .faulted || p1.state == .faulted
    armed := p0.state == .armed || p1.state == .armed
    bridged := p0.bridged || p1.bridged
    saturated := p0.saturated || p1.saturated
    locked := p0.lockView && p1.lockView
    monitor := monitor
    epoch := epoch }

/-- A slot with every field 0 and every flag clear (R110, R116). -/
def Slot.zero : Slot :=
  { value := 0, valid := false, held := false, fault := false, armed := false, bridged := false, saturated := false,
    locked := false, monitor := false, epoch := 0 }

/-- Both A0 and A1 are OFF (R110). -/
def State.bothOff (s : State) : Bool := (s.phu.get .q0).state == .off && (s.phu.get .q1).state == .off

/-- The slot of a source before the output hold and the conversion, with its value in steps (R108, R110). -/
def State.stepSlot (s : State) (x : Source) : Slot :=
  match x with
  | .phys a => (s.phu.get a).liveSlot (s.watchTripped x)
  | .m => pairSlot (s.phu.get .q0) (s.phu.get .q1) (s.stepsOf x) s.mEpoch (s.watchTripped x)
  | .w => pairSlot (s.phu.get .q0) (s.phu.get .q1) (s.stepsOf x) s.mEpoch (s.watchTripped x)

/-- A slot of M or W with both constituents OFF carries nothing, unless it is held (R110). -/
def State.baseSlot (s : State) (x : Source) : Slot :=
  match x with
  | .phys _ => s.stepSlot x
  | .m => if s.bothOff then Slot.zero else s.stepSlot x
  | .w => if s.bothOff then Slot.zero else s.stepSlot x

/-- A slot that is not held, in its unit (R109). -/
def State.liveSlot (s : State) (d : SlotDesc) : Slot :=
  let base := s.baseSlot d.source
  match d.unit with
  | .steps => base
  | .pm =>
    let len := s.pmOf d.source
    { base with value := clampLength slotLengthMax len, valid := base.valid && !overflows slotLengthMax len }

/-- A held slot: the entry's value and epoch, HELD set and VALID clear, the other flags live (R108 to R110). A held source
whose axes are OFF keeps them as they stand (DEDUCED, log entry 15). -/
def State.heldSlot (s : State) (d : SlotDesc) (h : HoldEntry) : Slot :=
  { s.stepSlot d.source with
    value := (match d.unit with
      | .steps => h.steps
      | .pm => clampLength slotLengthMax h.pm)
    valid := false
    held := true
    epoch := h.epoch }

/-- A slot of the snapshot. -/
def State.slotOf (s : State) (d : SlotDesc) : Slot :=
  match s.svp.holds.get d.source with
  | some h => s.heldSlot d h
  | none => s.liveSlot d

/-! ## The snapshot -/

/-- The header of a snapshot (R111). -/
def State.headerOf (s : State) (kind : FrameKind) : Header where
  frameNo := BitVec.ofNat 12 s.fru.frameNo.toNat
  compGen := BitVec.ofNat 4 s.cmu.compGen.toNat
  layoutGen := s.svp.layoutGen
  internal := kind == .timer
  condHeld := s.cmu.combinedHold
  alertOwn := s.alc.drive

/-- A slot of the layout depends on an axis (R107). -/
def layoutReads (l : List SlotDesc) (a : Axis) : Bool := l.any (fun d => d.source.dependsOn a)

/-- The marks of the phase units the snapshot reads are cleared (R38, R39, R107). -/
def State.clearReadMarks (s : State) : State :=
  { s with
    phu := s.phu.mapIdx (fun a p =>
      if layoutReads s.svp.layout a then { p with saturated := false, bridged := false } else p) }

/-- A read in progress at a frame event is abandoned (R114). -/
def State.abandonRead (s : State) : State :=
  match s.svp.read with
  | .reading _ => (s.modSvp (fun x => { x with read := .spent })).raise .servoOverrun
  | .idle => s
  | .spent => s

/-- A staged layout becomes active (R106). -/
def ServoPort.activateLayout (x : ServoPort) : ServoPort :=
  match x.staged with
  | some l => { x with layout := l, layoutGen := x.layoutGen + 1, staged := none }
  | none => x

/-- The snapshot taken with the active layout (R107). -/
def State.takeSnapshot (s : State) (kind : FrameKind) : State :=
  (s.modSvp (fun x =>
    { x with
      snapshot := some { header := s.headerOf kind, slots := x.layout.map s.slotOf }
      delivered := false })).clearReadMarks

/-- The Servo Port takes a frame event (R106, R107, R114). -/
def State.servoFrameEvent (s : State) (kind : FrameKind) : State :=
  ((s.abandonRead).modSvp ServoPort.activateLayout).takeSnapshot kind

/-! ## Reads -/

/-- The frame a read that begins now shifts out (R112, R116). -/
def ServoPort.content (x : ServoPort) : List Bool :=
  match x.snapshot with
  | some snap => servoFrame snap x.delivered
  | none => zeroFrame x.layout.length

/-- The read that a first clock begins (R104, R112, R113). -/
def ServoPort.firstClock (x : ServoPort) (sdi : Bool) : ServoRead := { content := x.content, clocks := 1, word := [sdi] }

/-- SERVO_READ_START (R104, R112): a clock in a selection whose read is past its first clock begins no read (R115). -/
def execServoReadStart (sdi : Bool) (s : State) : Result :=
  .next (match s.svp.read with
    | .idle => s.modSvp (fun x => { x with read := .reading (x.firstClock sdi) })
    | .reading _ => s
    | .spent => s)

/-- A further clock of a read: the first 8 clocks assemble the command word, and later bits on SDI are ignored (R113). -/
def ServoRead.clock (r : ServoRead) (sdi : Bool) : ServoRead :=
  { r with clocks := r.clocks + 1, word := if r.word.length < 8 then r.word ++ [sdi] else r.word }

/-- The bit that a clock taken now shifts out on SDO: of the frame of the read, and a one where there is none (R104, R114 to
R116). -/
def ServoPort.clockOut (x : ServoPort) : Bool :=
  match x.read with
  | .idle => x.content.headD true
  | .reading r => r.content.getD r.clocks true
  | .spent => true

/-- The axes a command word selects: bit 3 of the word for A0 to bit 6 for A3, counted from the first bit (Formats). -/
def wordSelects (word : BitVec 8) (a : Axis) : Bool := word.getLsbD (5 - a.toNat)

/-- ARM taken by a phase unit (R54). -/
def PhaseUnit.takeArm (p : PhaseUnit) : PhaseUnit :=
  match p.state with
  | .unreferenced => p.arm p.preset
  | .off => p
  | .armed => p
  | .referenced => p
  | .faulted => p

/-- DISARM taken by a phase unit (R54). -/
def PhaseUnit.takeDisarm (p : PhaseUnit) : PhaseUnit :=
  match p.state with
  | .armed => { p with state := .unreferenced, armed := none }
  | .off => p
  | .unreferenced => p
  | .referenced => p
  | .faulted => p

/-- A command word handed to the phase units it selects; NONE and the fourth value go to no unit (R54, R113). -/
def State.takeWord (s : State) (word : BitVec 8) : State :=
  let act : PhaseUnit → PhaseUnit :=
    if servoAction word = 1 then PhaseUnit.takeArm else if servoAction word = 2 then PhaseUnit.takeDisarm else id
  { s with phu := s.phu.mapIdx (fun a p => if wordSelects word a then act p else p) }

/-- A read in progress completes (R113). The word is the one whose first bits the read has taken; a row sent before the last
clock stands for the clocks that remain (DESIGN CHOICE, log entry 19). -/
def State.completeRead (s : State) (word : BitVec 8) : State :=
  match s.svp.read with
  | .reading r =>
    if r.word.isPrefixOf (natBits 8 word.toNat) then
      (s.modSvp (fun x => { x with read := .spent, delivered := true })).takeWord word
    else s
  | .idle => s
  | .spent => s

/-- SERVO_READ_COMPLETE (R113). -/
def execServoReadComplete (word : BitVec 8) (s : State) : Result := .next (s.completeRead word)

/-- SERVO_ARM (R54, R113). -/
def execServoArm (word : BitVec 8) (s : State) : Result := .next (s.completeRead word)

/-- SERVO_DISARM (R54, R113). -/
def execServoDisarm (word : BitVec 8) (s : State) : Result := .next (s.completeRead word)

/-- SERVO_DESELECT: the read ends, and the command word of an incomplete one is discarded (R104, R115). -/
def execServoDeselect (s : State) : Result := .next (s.modSvp (fun x => { x with read := .idle }))

/-! ## Output hold (R64) -/

/-- The entry a source gets when it is held now. Its picometre value stands in the table as it was converted, and each
report clamps it to its own field (R64, R87; DESIGN CHOICE, log entry 23). -/
def State.holdEntryOf (s : State) (x : Source) : HoldEntry :=
  { steps := s.stepsOf x, pm := s.pmOf x, epoch := s.epochOf x }

/-- The hold table with the entries of the sources of a mask replaced. -/
def holdsWith (h : Six (Option HoldEntry)) (mask : SourceSet) (e : Source → Option HoldEntry) : Six (Option HoldEntry) where
  axes := h.axes.mapIdx (fun a old => if mask.has (.phys a) then e (.phys a) else old)
  m := if mask.has .m then e .m else h.m
  w := if mask.has .w then e .w else h.w

/-- The block's part of HOLD_OUTPUT; HOLD is 0 and RELEASE 1 (R64). -/
def holdOutputBlock (s : State) (ps : List Byte) : Reply × State :=
  match ps with
  | [m, act] =>
    (match nonEmptySources m, boolOf act with
    | some mask, some release =>
      (s.modSvp (fun x =>
        { x with holds := holdsWith x.holds mask (fun y => if release then none else some (s.holdEntryOf y)) })).accept
    | _, _ => s.refuse .badValue)
  | _ => s.refuse .badLength

/-- HOLD_OUTPUT (R64). -/
def execHoldOutput (body : List Byte) (s : State) : Result := .next (s.hostCommand 0x15 2 body holdOutputBlock)

/-- HOLD_OUTPUT with action RELEASE (R64). -/
def execHoldOutputRelease (body : List Byte) (s : State) : Result := .next (s.hostCommand 0x15 2 body holdOutputBlock)

/-! ## Host commands -/

/-- Slot descriptions from their bytes, a source and a unit each. -/
def slotDescsOf : List Byte → Option (List SlotDesc)
  | [] => some []
  | [_] => none
  | x :: u :: rest =>
    match sourceOf x, unitOf u, slotDescsOf rest with
    | some source, some unit, some more => some ({ source := source, unit := unit } :: more)
    | _, _, _ => none

/-- The sources stand in strictly increasing order (R105). -/
def strictlyOrdered : List SlotDesc → Bool
  | [] => true
  | [_] => true
  | x :: y :: rest => decide (x.source.toNat < y.source.toNat) && strictlyOrdered (y :: rest)

/-- The block's part of SET_LAYOUT (R105). -/
def setLayoutBlock (s : State) (ps : List Byte) : Reply × State :=
  match slotDescsOf (ps.drop 1) with
  | some l => if strictlyOrdered l then (s.modSvp (fun x => { x with staged := some l })).accept else s.refuse .badValue
  | none => s.refuse .badValue

/-- SET_LAYOUT (R105). The required length depends on the slot count where it lies in 1..4; a count outside its range is
refused BAD_VALUE whatever LEN is (R163; for a LEN of 0 DEDUCED, log entry 8). -/
def execSetLayout (body : List Byte) (s : State) : Result :=
  .next (match body with
    | len :: n :: _ =>
      if s.hpt.closed then s
      else if 1 ≤ len.toNat ∧ ¬ (1 ≤ n.toNat ∧ n.toNat ≤ 4) then s.answer 0x20 (.refused .badValue)
      else s.hostCommand 0x20 (1 + 2 * n.toNat) body setLayoutBlock
    | _ => s.hostCommand 0x20 3 body setLayoutBlock)

/-- A slot description in response data. -/
def SlotDesc.bytes (d : SlotDesc) : List Byte := [srcCode d.source, d.unit.code]

/-- An output-hold entry in response data: the count, the length clamped to its 6 bytes, the epoch (R87, R117, R175). -/
def HoldEntry.bytes (h : HoldEntry) : List Byte :=
  intBytes 6 h.steps ++ intBytes 6 (clampLength lengthMax h.pm) ++ [byteOf h.epoch.toNat]

/-- The header in response data, each item by its kind in R111's order: FRAME_NO as the 12 bits it carries, COMP_GEN,
LAYOUT_GEN, INTERNAL, COND_HELD, ALERT_OWN, and REPEAT shown clear (R111, R117, R175). -/
def Header.bytes (h : Header) : List Byte :=
  natBytes 2 h.frameNo.toNat ++ [byteOf h.compGen.toNat, byteOf h.layoutGen.toNat, flagByte h.internal,
    flagByte h.condHeld, flagByte h.alertOwn, flagByte false]

/-- A staged layout or its absence: a presence byte, then the list, which is empty when absent. -/
def stagedBytes (l : Option (List SlotDesc)) : List Byte :=
  flagByte l.isSome :: listBytes SlotDesc.bytes (l.getD [])

/-- Whether a read is in progress, and the number of clocks it has taken as an item that may be absent (R117, R175). -/
def ReadPhase.bytes (r : ReadPhase) : List Byte :=
  match r with
  | .reading r => 1 :: natBytes 2 r.clocks
  | .idle => [0, 0, 0]
  | .spent => [0, 0, 0]

/-- The data of READ_SERVO_STATE, in R117's order. Whether a snapshot exists is the presence byte of its header, with no byte of
its own (DESIGN CHOICE, log entry 9). -/
def ServoPort.bytes (x : ServoPort) : List Byte :=
  listBytes SlotDesc.bytes x.layout ++ [byteOf x.layoutGen.toNat] ++ stagedBytes x.staged ++
    optBytes 8 (fun snap : Snapshot => snap.header.bytes) x.snapshot ++ [flagByte x.delivered] ++ x.read.bytes ++
    Source.all.flatMap (fun y => optBytes 13 HoldEntry.bytes (x.holds.get y))

/-- READ_SERVO_STATE (R117). -/
def execReadServoState (body : List Byte) (s : State) : Result :=
  .next (s.hostCommand 0x21 0 body (fun s _ => s.report s.svp.bytes))

end Sys2Proof.Machine
end

