-- ==== Sys2Proof/Machine/Frames.lean ====
section
/-! DEFINITION. The Frame Unit: frame events and their sources, the sample-count check, the notify event, and its host
commands (R89 to R102). -/

namespace Sys2Proof.Machine

/-! ## The frame event -/

/-- The check of an axis fails (R98). -/
def SampleCheck.failsNow (k : SampleCheck) (locked : Bool) : Bool :=
  (k.expect != 0 && k.lockAtLast && locked) && decide (k.tol < ((k.tally : Int) - k.expect).natAbs)

/-- The check of an axis after a frame event at which its link is LOCKED or not (R97, R98). -/
def SampleCheck.atEvent (k : SampleCheck) (locked : Bool) : SampleCheck :=
  { k with
    tally := 0
    lockAtLast := locked
    last := { tally := k.tally, checked := k.expect != 0 && k.lockAtLast && locked, failed := k.failsNow locked } }

/-- The sample-count check of one axis at a frame event (R98). -/
def State.checkAxis (s : State) (a : Axis) : State :=
  let locked := (s.slr.get a).link == .locked
  let failed := (s.fru.checks.get a).failsNow locked
  (s.modFru (fun x => { x with checks := x.checks.set a ((x.checks.get a).atEvent locked) })).raiseIf failed (.sampleCount a)

/-- The sample-count check of the four axes. -/
def State.checkSamples (s : State) : State := (((s.checkAxis .q0).checkAxis .q1).checkAxis .q2).checkAxis .q3

/-- The notify counter at a frame event (R100). -/
def State.notify (s : State) : State :=
  if s.fru.notifyN = 0 then s
  else if s.fru.notifyN ≤ s.fru.notifyCount + 1 then
    (s.modFru (fun x => { x with notifyCount := 0 })).raise .frameTick
  else s.modFru (fun x => { x with notifyCount := x.notifyCount + 1 })

/-- The Compensation Unit and the Servo Port take the frame event in either order (R83, R89). Where no staged set is
newer the order makes no difference and is not consulted. -/
def State.activateAndSnapshot (s : State) (kind : FrameKind) : State :=
  if s.cmu.staged.isSome && Config.snapshotFirst s.choices then (s.servoFrameEvent kind).activateK
  else (s.activateK).servoFrameEvent kind

/-- A frame event (R89, R90). -/
def State.frameEvent (s : State) (kind : FrameKind) : State :=
  let s := (s.modFru (fun x => { x with frameNo := x.frameNo + 1 })).activateAndSnapshot kind
  (({ s with choices := s.choices + 1 }).checkSamples).notify

/-! ## Frame sources -/

/-- FRAME_PERIOD in ticks (R93). -/
def FrameUnit.periodTicks (x : FrameUnit) : Nat := x.period * Config.ticksPerMicrosecond

/-- The SYNC watch timer is due (R92). -/
def State.watchDue (s : State) : Bool := timerDue s.tick s.fru.watch (2 * s.fru.periodTicks)

/-- The frame timer is due (R93). -/
def State.frameTimerDue (s : State) : Bool := timerDue s.tick s.fru.timer s.fru.periodTicks

/-- The SYNC watch timer expires (R92). -/
def State.loseSync (s : State) : State :=
  (s.modFru (fun x => { x with source := .internal, watch := none, timer := some s.tick })).raise .syncLost

/-- The frame timer expires (R93). -/
def State.timerEvent (s : State) : State := (s.modFru (fun x => { x with timer := some s.tick })).frameEvent .timer

/-- A rising edge of SYNC (R91, R94, R95). -/
def State.syncRise (s : State) : State :=
  match s.fru.mode, s.fru.source with
  | .internalOnly, _ => s
  | .externalWithFallback, .external => (s.modFru (fun x => { x with watch := some s.tick })).frameEvent .sync
  | .externalWithFallback, .internal =>
    ((s.modFru (fun x => { x with source := .external, timer := none, watch := some s.tick })).raise
      .syncRestored).frameEvent .sync

/-- SYNC_EDGE (R91, R94, R95). -/
def execSyncEdge (s : State) : Result := .next s.syncRise

/-- SYNC_WATCH_EXPIRY (R92). -/
def execSyncWatchExpiry (s : State) : Result := .next (if s.watchDue then s.loseSync else s)

/-- FRAME_TIMER_EXPIRY (R93). -/
def execFrameTimerExpiry (s : State) : Result := .next (if s.frameTimerDue then s.timerEvent else s)

/-! ## Host commands -/

/-- The running timer judged anew if FRAME_PERIOD changed: one whose new period has passed expires now (R96; DEDUCED, log
entry 22). -/
def State.judgeFrameTimers (s : State) (changed : Bool) : State :=
  if changed && s.watchDue then s.loseSync else if changed && s.frameTimerDue then s.timerEvent else s

/-- SET_FRAME's effect, by the mode before and after and the source (R96). -/
def State.applyFrame (s : State) (mode : FrameMode) (period : Nat) : State :=
  let changed := s.fru.period != period
  match s.fru.source, mode with
  | .external, .internalOnly =>
    s.modFru (fun x =>
      { x with mode := mode, period := period, source := .internal, watch := none, timer := some s.tick })
  | .external, .externalWithFallback =>
    (s.modFru (fun x => { x with mode := mode, period := period })).judgeFrameTimers changed
  | .internal, _ => (s.modFru (fun x => { x with mode := mode, period := period })).judgeFrameTimers changed

/-- The block's part of SET_FRAME (R96). -/
def setFrameBlock (s : State) (ps : List Byte) : Reply × State :=
  match ps with
  | [m, p1, p0] =>
    (match frameModeOf m, natIn 20 10000 [p1, p0] with
    | some mode, some period => (s.applyFrame mode period).accept
    | _, _ => s.refuse .badValue)
  | _ => s.refuse .badLength

/-- SET_FRAME (R96). -/
def execSetFrame (body : List Byte) (s : State) : Result := .next (s.hostCommand 0x1C 3 body setFrameBlock)

/-- The block's part of SET_SAMPLE_CHECK (R99). -/
def setSampleCheckBlock (s : State) (ps : List Byte) : Reply × State :=
  match ps with
  | [a, e1, e0, t] =>
    (match quadOf a with
    | some ax =>
      (s.modFru (fun x =>
        { x with
          checks := x.checks.set ax { x.checks.get ax with expect := bytesToNat [e1, e0], tol := t.toNat } })).accept
    | none => s.refuse .badValue)
  | _ => s.refuse .badLength

/-- SET_SAMPLE_CHECK (R99). -/
def execSetSampleCheck (body : List Byte) (s : State) : Result := .next (s.hostCommand 0x1D 4 body setSampleCheckBlock)

/-- The block's part of SET_NOTIFY (R101). -/
def setNotifyBlock (s : State) (ps : List Byte) : Reply × State :=
  match ps with
  | [n] => (s.modFru (fun x => { x with notifyN := n.toNat, notifyCount := 0 })).accept
  | _ => s.refuse .badLength

/-- SET_NOTIFY (R101). -/
def execSetNotify (body : List Byte) (s : State) : Result := .next (s.hostCommand 0x1E 1 body setNotifyBlock)

/-- The check of an axis in response data. -/
def SampleCheck.bytes (k : SampleCheck) : List Byte :=
  natBytes 2 k.expect ++ [byteOf k.tol] ++ natBytes 3 k.tally ++ [lockCode k.lockAtLast] ++ natBytes 3 k.last.tally ++
    [flagByte k.last.checked, flagByte k.last.failed]

/-- The data of READ_FRAME_STATE, in R102's order. -/
def FrameUnit.bytes (x : FrameUnit) : List Byte :=
  [x.mode.code, x.source.code] ++ natBytes 2 x.period ++ [flagByte x.watch.isSome, flagByte x.timer.isSome] ++
    natBytes 2 x.frameNo.toNat ++ [byteOf x.notifyN, byteOf x.notifyCount] ++ x.checks.toList.flatMap SampleCheck.bytes

/-- READ_FRAME_STATE (R102). -/
def execReadFrameState (body : List Byte) (s : State) : Result :=
  .next (s.hostCommand 0x1F 0 body (fun s _ => s.report s.fru.bytes))

end Sys2Proof.Machine
end

