-- ==== Sys2Proof/Machine/Alerts.lean ====
section
/-! DEFINITION. The host commands of the Monitor Unit and the Alert Controller, and the Alert Controller's timers (R147,
R151, R152, R154, R157, R160). -/

namespace Sys2Proof.Machine

/-! ## Timers -/

/-- ALERT_PULSE in ticks (R154). -/
def Alert.pulseTicks (x : Alert) : Nat := x.pulseTime * Config.ticksPerMicrosecond

/-- LEVEL_MIN in ticks (R157). -/
def Alert.levelTicks (x : Alert) : Nat := x.levelMin * Config.ticksPerMicrosecond

/-- The pulse timer is due (R154). -/
def State.pulseDue (s : State) : Bool :=
  match s.alc.state with
  | .pulse start => passed s.tick start s.alc.pulseTicks
  | .released => false
  | .gap _ => false
  | .level _ => false

/-- The gap timer is due (R154). -/
def State.gapDue (s : State) : Bool :=
  match s.alc.state with
  | .gap start => passed s.tick start s.alc.pulseTicks
  | .released => false
  | .pulse _ => false
  | .level _ => false

/-- The minimum-level timer is due (R157). -/
def State.minimumDue (s : State) : Bool :=
  match s.alc.state with
  | .level false => passed s.tick s.alc.wentLow s.alc.levelTicks
  | .level true => false
  | .released => false
  | .pulse _ => false
  | .gap _ => false

/-- The pulse ends and the gap timer starts (R154). -/
def State.endPulse (s : State) : State := s.modAlc (fun x => { x with state := .gap s.tick })

/-- The gap ends (R154). -/
def State.endGap (s : State) : State := s.modAlc (fun x => { x with state := .released })

/-- The minimum-level timer expires: the level ends if the condition is false, and goes on if it is true (R157). -/
def State.endMinimum (s : State) : State := (s.modAlc (fun x => { x with state := .level true })).judgeLevel

/-- PULSE_TIMER_EXPIRY (R154). -/
def execPulseTimerExpiry (s : State) : Result := .next (if s.pulseDue then s.endPulse else s)

/-- GAP_TIMER_EXPIRY (R154). -/
def execGapTimerExpiry (s : State) : Result := .next (if s.gapDue then s.endGap else s)

/-- MINIMUM_LEVEL_EXPIRY (R157). -/
def execMinimumLevelExpiry (s : State) : Result := .next (if s.minimumDue then s.endMinimum else s)

/-! ## Monitors -/

/-- The block's part of SET_MONITOR (R147). -/
def setMonitorBlock (s : State) (ps : List Byte) : Reply × State :=
  match ps with
  | [m, src, l5, l4, l3, l2, l1, l0, h5, h4, h3, h2, h1, h0, mode, act, en] =>
    (match quadOf m, sourceOf src, intIn (-boundMax) boundMax [l5, l4, l3, l2, l1, l0],
        intIn (-boundMax) boundMax [h5, h4, h3, h2, h1, h0], monitorModeOf mode, monitorActionOf act, boolOf en with
    | some i, some source, some low, some high, some md, some action, some enable =>
      if high < low then s.refuse .badValue
      else
        ((s.modMonitor i (fun _ =>
          { source := source, low := low, high := high, mode := md, action := action, enabled := enable,
            tripped := false })).judgeLevel).accept
    | _, _, _, _, _, _, _ => s.refuse .badValue)
  | _ => s.refuse .badLength

/-- SET_MONITOR (R147). -/
def execSetMonitor (body : List Byte) (s : State) : Result := .next (s.hostCommand 0x29 17 body setMonitorBlock)

/-- The tripped marks of the monitors of a mask cleared (R151). -/
def State.clearMarks (s : State) (mask : QuadSet) : State :=
  { s with mnu := s.mnu.mapIdx (fun i m => if QuadSet.has mask i then { m with tripped := false } else m) }

/-- The block's part of CLEAR_MONITOR (R151). -/
def clearMonitorBlock (s : State) (ps : List Byte) : Reply × State :=
  match ps with
  | [m] =>
    (match nonEmptyQuads m with
    | some mask => ((s.clearMarks mask).judgeLevel).accept
    | none => s.refuse .badValue)
  | _ => s.refuse .badLength

/-- CLEAR_MONITOR (R151). -/
def execClearMonitor (body : List Byte) (s : State) : Result := .next (s.hostCommand 0x2A 1 body clearMonitorBlock)

/-! ## Alert Controller -/

/-- The five settings of SET_ALERT at work at once: a minimum level already over is over, the level condition is judged,
and a pulse or gap whose new period has passed ends (R152), in this order (DESIGN CHOICE, log entry 12). -/
def State.applyAlert (s : State) (guard : QuadSet) (onBridge onMiss : Bool) (pulse level : Nat) : State :=
  let s := s.modAlc (fun x =>
    { x with guard := guard, pulseOnBridge := onBridge, pulseOnMiss := onMiss, pulseTime := pulse, levelMin := level })
  let s := (if s.minimumDue then s.modAlc (fun x => { x with state := .level true }) else s).judgeLevel
  if s.pulseDue then s.endPulse else if s.gapDue then s.endGap else s

/-- The block's part of SET_ALERT (R152). -/
def setAlertBlock (s : State) (ps : List Byte) : Reply × State :=
  match ps with
  | [g, b, m, p, l] =>
    (match quadSetOf g, boolOf b, boolOf m, natIn 1 10 [p], natIn 4 255 [l] with
    | some guard, some onBridge, some onMiss, some pulse, some level =>
      if level < 4 * pulse then s.refuse .badValue else (s.applyAlert guard onBridge onMiss pulse level).accept
    | _, _, _, _, _ => s.refuse .badValue)
  | _ => s.refuse .badLength

/-- SET_ALERT (R152). -/
def execSetAlert (body : List Byte) (s : State) : Result := .next (s.hostCommand 0x2B 5 body setAlertBlock)

/-- A monitor with its mark in response data. -/
def Monitor.bytes (m : Monitor) : List Byte :=
  [srcCode m.source] ++ intBytes 6 m.low ++ intBytes 6 m.high ++
    [m.mode.code, m.action.code, flagByte m.enabled, flagByte m.tripped]

/-- A set of axes or monitors in response data, bit 0 for the first. -/
def membersByte (l : List Quad) : Byte := byteOf ((l.map (fun i => 2 ^ i.toNat)).sum)

/-- The wired level of the line, low or high, in R159's order. -/
def wiredCode (wiredLow : Bool) : Byte := if wiredLow then 0 else 1

/-- The data of READ_ALERT_STATE, in R160's order. The level condition is coded as a flag, 1 for true (DESIGN CHOICE, log
entry 9). -/
def State.alertBytes (s : State) (wiredLow : Bool) : List Byte :=
  s.mnu.toList.flatMap Monitor.bytes ++ [s.alc.state.code] ++ natBytes 6 s.alc.wentLow.toNat ++
    [flagByte s.levelCondition, membersByte s.guardedFaults, membersByte s.trippedAlerts, byteOf s.alc.guard.toNat,
      flagByte s.alc.pulseOnBridge, flagByte s.alc.pulseOnMiss, byteOf s.alc.pulseTime, byteOf s.alc.levelMin,
      flagByte s.alc.drive, wiredCode wiredLow] ++ natBytes 2 s.alc.coalesced

/-- The block's part of READ_ALERT_STATE (R158, R160). -/
def readAlertStateBlock (wiredLow : Bool) (s : State) (clear : Bool) : Reply × State :=
  (.ok (s.alertBytes wiredLow), if clear then s.modAlc (fun x => { x with coalesced := 0 }) else s)

/-- READ_ALERT_STATE (R160). -/
def execReadAlertState (body : List Byte) (wiredLow : Bool) (s : State) : Result :=
  .next (s.hostCommand 0x2C 1 body (clearCommand (readAlertStateBlock wiredLow)))

end Sys2Proof.Machine
end

