-- ==== Sys2Proof/Machine/HostPort.lean ====
section
/-! DEFINITION. The Host Port: responses, FETCH, event flags, status and positions, and the two resets (R162 to R173). -/

namespace Sys2Proof.Machine

/-! ## The pending response -/

/-- The response in preparation is due (R164). -/
def State.responseDue (s : State) : Bool :=
  match s.hpt.response with
  | .preparing _ since => passed s.tick since Config.responseLatencyMax
  | .none => false
  | .ready _ => false

/-- RESPONSE_READY (R164). It may be taken at any moment of the preparation (DESIGN CHOICE, log entry 4). -/
def execResponseReady (s : State) : Result :=
  .next (match s.hpt.response with
    | .preparing r _ => s.modHpt (fun x => { x with response := .ready r })
    | .none => s
    | .ready _ => s)

/-- UNKNOWN_COMMAND (R163, R166): a CODE that names FETCH or a command is no unknown code, and nothing happens by this
row. -/
def execUnknownCommand (code : Byte) (_body : List Byte) (s : State) : Result :=
  .next (if code.toNat ≤ Config.lastCommandCode ∨ s.hpt.closed = true then s else s.answer code (.refused .unknown))

/-- The bytes HDO carries in `clocked` bytes: a response, then ones (R165). -/
def shiftedOut (response : List Byte) (clocked : Nat) : List Byte :=
  response.take clocked ++ List.replicate (clocked - response.length) 0xFF

/-- What a FETCH frame returns, decided by the pending response and the lost mark as its CODE byte is taken (R165, R166). -/
def HostPort.decide (x : HostPort) : Fetched :=
  match x.response with
  | .ready r => { bytes := r.bytes x.lost, ready := true }
  | .preparing r _ => { bytes := busyBytes r.code x.lost, ready := false }
  | .none => { bytes := noneBytes x.lost, ready := false }

/-- The frame carried every byte of a ready response (R165). -/
def Fetched.whole (f : Fetched) (clocked : Nat) : Bool := f.ready && Nat.ble f.bytes.length clocked

/-- A FETCH frame ends after `clocked` whole bytes beyond its CODE: a ready response carried whole is taken, and the lost mark
it showed is cleared (R165, R166). -/
def HostPort.endFetch (x : HostPort) (f : Fetched) (clocked : Nat) : HostPort :=
  { x with
    frame := .idle
    response := if f.whole clocked then .none else x.response
    lost := x.lost && !f.whole clocked
    hdo := shiftedOut f.bytes clocked }

/-- FETCH as one row: the decision and the end of its frame (R165, R166). -/
def execFetch (clocked : Nat) (s : State) : Result :=
  .next (if s.hpt.closed then s else s.modHpt (fun x => x.endFetch x.decide clocked))

/-- The bit that a clock taken now shifts out on HDO: of the response in a FETCH frame, and a one past it and in a command
frame (R162, R165). Where the spec says nothing, in the CODE byte of a FETCH frame and at clocks taken while the port waits
for HSEL after a reset, it is a one too (DESIGN CHOICE, log entry 16). -/
def HostPort.clockOut (x : HostPort) : Bool :=
  match x.frame with
  | .idle => true
  | .receiving _ => true
  | .sending f clocks => (bytesToBits f.bytes).getD clocks true

/-- HSEL_SEEN_HIGH (R172). -/
def execHselSeenHigh (s : State) : Result := .next (s.modHpt (fun x => { x with waitHsel := false }))

/-! ## Event flags -/

/-- The block's part of CLEAR_EVENTS (R168). -/
def clearEventsBlock (s : State) (ps : List Byte) : Reply × State :=
  (.ok (natBytes 4 s.hpt.flags.toNat),
    s.withFlags (s.hpt.flags &&& ~~~ (flagMaskOf ps &&& ~~~ Flag.recordsReady.bit)))

/-- CLEAR_EVENTS (R168). -/
def execClearEvents (body : List Byte) (s : State) : Result := .next (s.hostCommand 0x04 4 body clearEventsBlock)

/-- SET_EVENT_MASK (R169). -/
def execSetEventMask (body : List Byte) (s : State) : Result :=
  .next (s.hostCommand 0x05 4 body (fun s ps => (s.withMask (flagMaskOf ps)).accept))

/-! ## Reading the part -/

/-- A datum in response data. -/
def Datum.bytes (d : Datum) : List Byte := intBytes 6 d.value ++ [d.direction.code]

/-- A fault record in response data. -/
def FaultRecord.bytes (f : FaultRecord) : List Byte :=
  [byteOf f.first.index, byteOf f.further.toNat] ++ natBytes 6 f.tick.toNat

/-- An axis in the data of READ_STATUS. The armed datum and the fault record are each one item under one presence byte (DESIGN
CHOICE, log entry 9). -/
def axisStatusBytes (r : Receiver) (p : PhaseUnit) : List Byte :=
  [r.link.code, p.state.code, lockCode p.lockView, byteOf p.epoch.toNat] ++ optBytes 7 Datum.bytes p.armed ++
    optBytes 8 FaultRecord.bytes p.fault ++ intBytes 6 p.hold

/-- The data of READ_STATUS, in R170's order. -/
def State.statusBytes (s : State) (wiredLow : Bool) : List Byte :=
  natBytes 6 s.tick.toNat ++ natBytes 4 s.hpt.flags.toNat ++ natBytes 4 s.hpt.mask.toNat ++ [flagByte s.hpt.attn] ++
    Quad.all.flatMap (fun a => axisStatusBytes (s.slr.get a) (s.phu.get a)) ++
    [byteOf s.mEpoch.toNat, flagByte s.cmu.combinedHold, flagByte s.cmu.heldN, flagByte s.cmu.heldT,
      flagByte s.cmu.stale, s.cmu.compGen] ++ natBytes 2 s.fru.frameNo.toNat ++
    [s.fru.source.code, flagByte s.lcu.capture.isSome, byteOf s.lcu.contexts.length, byteOf s.lcu.records.length,
      s.alc.state.code, flagByte s.alc.drive, wiredCode wiredLow]

/-- READ_STATUS (R170). -/
def execReadStatus (body : List Byte) (wiredLow : Bool) (s : State) : Result :=
  .next (s.hostCommand 0x02 0 body (fun s _ => s.report (s.statusBytes wiredLow)))

/-- The value and VALID flag of a source in READ_POSITION (R87, R171). -/
def State.positionOf (s : State) (unit : LengthUnit) (x : Source) : Int × Bool :=
  match unit with
  | .steps => (s.stepsOf x, (s.baseSlot x).valid)
  | .pm => (clampLength lengthMax (s.pmOf x), (s.baseSlot x).valid && !overflows lengthMax (s.pmOf x))

/-- The flag byte of a READ_POSITION value (Formats). -/
def positionFlags (valid : Bool) (x : Slot) : Byte :=
  byteOf ((if valid then 1 else 0) + (if x.fault then 2 else 0) + (if x.armed then 4 else 0) + (if x.locked then 8 else 0))

/-- A source in the data of READ_POSITION (R171, Formats). -/
def State.positionBytes (s : State) (unit : LengthUnit) (x : Source) : List Byte :=
  let v := s.positionOf unit x
  intBytes 6 v.1 ++ [byteOf (s.baseSlot x).epoch.toNat, positionFlags v.2 (s.baseSlot x)]

/-- The block's part of READ_POSITION (R171). -/
def readPositionBlock (s : State) (ps : List Byte) : Reply × State :=
  match ps with
  | [m, u] =>
    (match nonEmptySources m, unitOf u with
    | some mask, some unit =>
      s.report ([s.cmu.compGen] ++ natBytes 6 s.tick.toNat ++ (SourceSet.members mask).flatMap (s.positionBytes unit))
    | _, _ => s.refuse .badValue)
  | _ => s.refuse .badLength

/-- READ_POSITION (R171). -/
def execReadPosition (body : List Byte) (s : State) : Result := .next (s.hostCommand 0x03 2 body readPositionBlock)

/-! ## Resets -/

/-- Where a selection of the servo port stands after a reset: clocks that follow in it read ones (R116). -/
def ReadPhase.afterReset : ReadPhase → ReadPhase
  | .idle => .idle
  | .reading _ => .spent
  | .spent => .spent

/-- Every block takes its values after reset in one act, and what the links had assembled is discarded. What is not the part's
own state stands: the commands and line events that wait and the count of open choices (DESIGN CHOICE, log entries 1, 3 and
19). The port waits for HSEL if it is low (R172, R173). -/
def State.resetAll (s : State) (hselLow : Bool) : State :=
  { State.reset with
    svp := { ServoPort.reset with read := s.svp.read.afterReset }
    hpt := { HostPort.reset with waitHsel := hselLow }
    choices := s.choices
    pending := s.pending
    lines := s.lines }

/-- The host port after a unit reset keeps the RESET_UNIT response and the lost mark as they were made (R172). -/
def State.unitReset (s : State) (hselLow : Bool) : State :=
  let made := s.respond (.ready { refusal := none, code := 0x01, data := [] })
  (made.resetAll hselLow).modHpt (fun x => { x with response := made.hpt.response, lost := made.hpt.lost })

/-- RESET_UNIT (R172): it requires LEN 0. -/
def execResetUnit (body : List Byte) (hselLow : Bool) (s : State) : Result :=
  .next (if s.hpt.closed then s
    else
      match paramsOf 0 body with
      | none => s.answer 0x01 (.refused .badLength)
      | some _ => s.unitReset hselLow)

/-- POWER_ON_RESET (R172). -/
def execPowerOnReset (hselLow : Bool) (s : State) : Result := .next (s.resetAll hselLow)

end Sys2Proof.Machine
end

