-- ==== Sys2Proof/Machine/Links.lean ====
section
/-! DEFINITION. The sample link receivers: SAMPLE_FRAME, SILENCE_TIMER_EXPIRY, SET_LINK and READ_LINK_COUNTERS
(R2 to R17). -/

namespace Sys2Proof.Machine

/-! ## Receiver operations -/

/-- LINK_TIMEOUT in ticks (R12). -/
def Receiver.timeoutTicks (r : Receiver) : Nat := r.linkTimeout * Config.ticksPerMicrosecond

/-- The receiver in DOWN: sequence absent, runs 0, timer stopped (R11, R12, R16). -/
def Receiver.toDown (r : Receiver) : Receiver :=
  { r with link := .down, lastSeq := none, goodRun := 0, badRun := 0, silence := none }

/-- The instant of a frame that arrives now (R4). -/
def State.frameInstant (s : State) (a : Axis) : Tick := ticksBefore s.tick (s.slr.get a).sampleDelay

/-- Contributions to the sample tally of an axis (R13, R97). -/
def State.contribute (s : State) (a : Axis) (n : Nat) : State :=
  s.modFru (fun x =>
    let k := x.checks.get a
    { x with checks := x.checks.set a { k with tally := satAdd 16777215 k.tally n } })

/-- The link leaves LOCKED for DOWN: the lock-loss counter rises and lock lost is handed over (R11, R12, R16). -/
def State.loseLock (s : State) (a : Axis) (tick : Tick) : State :=
  (s.modSlr a (fun r => { r.toDown with lockLosses := satAdd 255 r.lockLosses 1 })).lockLost a tick

/-- The link goes to DOWN from whatever state it is in (R12, R16). -/
def State.dropLink (s : State) (a : Axis) (tick : Tick) : State :=
  match (s.slr.get a).link with
  | .down => s
  | .acquiring => s.modSlr a Receiver.toDown
  | .locked => s.loseLock a tick

/-- A good frame is accepted in LOCKED: its SEQ is the last, the bad run ends, and it is handed over (R9, R13). -/
def State.acceptSample (s : State) (a : Axis) (f : SampleFields) : State :=
  ((s.modSlr a (fun r => { r with lastSeq := some f.seq, badRun := 0, silence := some s.tick })).contribute a 1).handSample
    a f (s.frameInstant a)

/-- A bad frame in LOCKED that does not lose lock; one that is not a duplicate occupies the next sequence position and
makes a BAD notice (R10). -/
def State.occupyPosition (s : State) (a : Axis) (duplicate : Bool) : State :=
  if duplicate then s.modSlr a (fun r => { r with badRun := r.badRun + 1, silence := some s.tick })
  else
    (s.modSlr a (fun r =>
      { r with badRun := r.badRun + 1, silence := some s.tick, lastSeq := r.lastSeq.map (fun q => q + 1) })).handNotice
      a .bad 1 (s.frameInstant a)

/-- A bad frame in LOCKED (R10, R11). -/
def State.badInLocked (s : State) (a : Axis) (duplicate : Bool) : State :=
  if (s.slr.get a).badRunLimit ≤ (s.slr.get a).badRun + 1 then s.loseLock a s.tick else s.occupyPosition a duplicate

/-- A good frame in DOWN, or one that starts a run anew in ACQUIRING (R6, R7). -/
def Receiver.startRun (r : Receiver) (seq : BitVec 6) (tick : Tick) : Receiver :=
  { r with link := .acquiring, goodRun := 1, lastSeq := some seq, silence := some tick }

/-- A good frame completes the run of 16: the link enters LOCKED and hands over lock gained and the frame (R8, R13). -/
def State.enterLocked (s : State) (a : Axis) (f : SampleFields) : State :=
  let s := s.modSlr a (fun r =>
    { r with link := .locked, goodRun := 16, badRun := 0, lastSeq := some f.seq, silence := some s.tick })
  ((s.lockGained a).contribute a 1).handSample a f (s.frameInstant a)

/-- A good frame in ACQUIRING (R7, R8). -/
def State.goodInAcquiring (s : State) (a : Axis) (f : SampleFields) : State :=
  let r := s.slr.get a
  if 1 ≤ r.goodRun ∧ r.lastSeq.map (fun q => q + 1) = some f.seq then
    if r.goodRun + 1 = 16 then s.enterLocked a f
    else s.modSlr a (fun r => { r with goodRun := r.goodRun + 1, lastSeq := some f.seq, silence := some s.tick })
  else s.modSlr a (fun r => r.startRun f.seq s.tick)

/-- The gap g of a good frame in LOCKED (R9). -/
def Receiver.gapOf (r : Receiver) (seq : BitVec 6) : Nat := (seq - ((r.lastSeq.getD 0) + 1)).toNat

/-- A good frame in LOCKED, classified by its gap (R9, R13, R14). -/
def State.goodInLocked (s : State) (a : Axis) (f : SampleFields) : State :=
  let g := (s.slr.get a).gapOf f.seq
  if g = 0 then s.acceptSample a f
  else if g ≤ 31 then
    let s := (s.modSlr a (fun r => { r with gaps := satAdd 65535 r.gaps g })).contribute a g
    (s.handNotice a .gap g (s.frameInstant a)).acceptSample a f
  else
    (s.modSlr a (fun r => { r with outOfOrder := satAdd 65535 r.outOfOrder 1 })).badInLocked a (g == 63)

/-- A good frame (R3, R14). -/
def State.goodFrame (s : State) (a : Axis) (f : SampleFields) : State :=
  let s := s.modSlr a (fun r => { r with goodFrames := r.goodFrames + 1 })
  match (s.slr.get a).link with
  | .down => s.modSlr a (fun r => r.startRun f.seq s.tick)
  | .acquiring => s.goodInAcquiring a f
  | .locked => s.goodInLocked a f

/-- A frame that is malformed or fails its CRC (R3, R6, R7, R10, R14). -/
def State.badFrame (s : State) (a : Axis) : State :=
  let s := s.modSlr a (fun r => { r with crcErrors := satAdd 65535 r.crcErrors 1 })
  match (s.slr.get a).link with
  | .down => s
  | .acquiring => s.modSlr a (fun r => { r with goodRun := 0, silence := some s.tick })
  | .locked => s.badInLocked a false

/-- A frame arrives on a sample link (R2, R3). -/
def State.takeFrame (s : State) (a : Axis) (bits : List Bool) : State :=
  match parseSample bits with
  | some f => s.goodFrame a f
  | none => s.badFrame a

/-! ## Commands -/

/-- SAMPLE_FRAME (R2 to R14). The row is a whole frame; bits that the receiver has under way stay (DESIGN CHOICE, log entry 19). -/
def execSampleFrame (a : Axis) (bits : List Bool) (s : State) : Result := .next (s.takeFrame a bits)

/-- The silence timer of a link is due (R12). -/
def State.silenceDue (s : State) (a : Axis) : Bool := timerDue s.tick (s.slr.get a).silence (s.slr.get a).timeoutTicks

/-- SILENCE_TIMER_EXPIRY (R12). -/
def execSilenceTimerExpiry (a : Axis) (s : State) : Result :=
  .next (if s.silenceDue a then s.dropLink a s.tick else s)

/-- The settings of a receiver written, with what a shortened timeout or a changed delay brings about (R16). -/
def State.writeLink (s : State) (a : Axis) (limit timeout delay : Nat) : State :=
  let changed := (s.slr.get a).sampleDelay != delay
  let s := s.modSlr a (fun r => { r with badRunLimit := limit, linkTimeout := timeout, sampleDelay := delay })
  if changed || s.silenceDue a then s.dropLink a s.tick else s

/-- The block's part of SET_LINK (R16). -/
def setLinkBlock (s : State) (ps : List Byte) : Reply × State :=
  match ps with
  | [a, limit, timeout, d1, d0] =>
    (match quadOf a, natIn 1 7 [limit], natIn 1 255 [timeout], natIn 0 1023 [d1, d0] with
    | some ax, some l, some t, some d => (s.writeLink ax l t d).accept
    | _, _, _, _ => s.refuse .badValue)
  | _ => s.refuse .badLength

/-- SET_LINK (R16). -/
def execSetLink (body : List Byte) (s : State) : Result := .next (s.hostCommand 0x06 5 body setLinkBlock)

/-- The state and counters of a receiver, in R15's order. -/
def Receiver.counterBytes (r : Receiver) : List Byte :=
  r.link.code :: natBytes 4 r.goodFrames.toNat ++ natBytes 2 r.crcErrors ++ natBytes 2 r.gaps ++
    natBytes 2 r.outOfOrder ++ [byteOf r.lockLosses]

/-- A receiver with its five counters 0 (R15). -/
def Receiver.clearCounters (r : Receiver) : Receiver :=
  { r with goodFrames := 0, crcErrors := 0, gaps := 0, outOfOrder := 0, lockLosses := 0 }

/-- The block's part of READ_LINK_COUNTERS (R15). The receivers that the mask selects follow each other without a count byte
(DESIGN CHOICE, log entry 9). -/
def readLinkCountersBlock (s : State) (ps : List Byte) : Reply × State :=
  match ps with
  | [m, c] =>
    (match nonEmptyQuads m, boolOf c with
    | some mask, some clear =>
      (.ok ((QuadSet.members mask).flatMap (fun a => (s.slr.get a).counterBytes)),
        if clear then
          { s with slr := s.slr.mapIdx (fun a r => if QuadSet.has mask a then r.clearCounters else r) }
        else s)
    | _, _ => s.refuse .badValue)
  | _ => s.refuse .badLength

/-- READ_LINK_COUNTERS (R15). -/
def execReadLinkCounters (body : List Byte) (s : State) : Result :=
  .next (s.hostCommand 0x07 2 body readLinkCountersBlock)

end Sys2Proof.Machine
end

