-- ==== Sys2Proof/Machine/CaptureUnit.lean ====
section
/-! DEFINITION. The Line Capture Unit: trigger edges, contexts, the opening of a capture, the capture timeout, and its
host commands (R119 to R139). -/

namespace Sys2Proof.Machine

/-! ## Trigger edges -/

/-- An edge now is inside the dead time of its input (R119). -/
def Trigger.insideDeadTime (x : Trigger) (tick : Tick) : Bool :=
  match x.deadFrom with
  | some start => decide (elapsed tick start < (x.dead : Int))
  | none => false

/-- The edge is one the context accepts (R124). -/
def EdgeSelect.accepts (sel : EdgeSelect) (edge : EdgeDir) : Bool :=
  match sel, edge with
  | .rise, .rise => true
  | .rise, .fall => false
  | .fall, .fall => true
  | .fall, .rise => false
  | .both, _ => true

/-- The edge matches a context (R124). -/
def Context.isMatch (c : Context) (input : TrigInput) (edge : EdgeDir) : Bool := c.input == input && c.edge.accepts edge

/-- The capture index an opening takes from its context (R125). -/
def Context.nextIndex (c : Context) : Nat := if 0 < c.remaining then c.count - c.remaining + 1 else c.count

/-- The context queue after an opening took an index from its head (R125). -/
def queueAfterOpening (head : Context) (rest : List Context) : List Context :=
  let used := { head with remaining := head.remaining - 1 }
  if 0 < used.remaining then used :: rest
  else if used.standing && rest.isEmpty then [used]
  else rest

/-- A capture of the set follows an axis, as an entry or as a constituent of M or W (R125). -/
def follows (m : SourceSet) (a : Axis) : Bool := Source.all.any (fun x => m.has x && x.dependsOn a)

/-- The entry of an axis as it is judged at the opening (R127). -/
def judgeOpening (c : Capture) (a : Axis) (p : PhaseUnit) : EntryProgress :=
  if p.state ≠ .referenced then settledBad .notValid
  else
    match p.history.head?, p.history.getLast? with
    | some oldest, some newest =>
      if later c.tTrig oldest.instant = false then settledBad .tooOld
      else
        match p.history.find? (fun h => later h.instant c.tTrig),
            (p.history.filter (fun h => !later h.instant c.tTrig)).getLast? with
        | some after, some before => settleEntry c a p.state p.epoch before after
        | some _, none => settledBad .tooOld
        | none, _ => .waiting (some newest)
    | _, _ => .waiting none

/-- The capture a matching edge opens, before its entries are judged (R125). -/
def State.captureFrom (s : State) (head : Context) (input : TrigInput) (edge : EdgeDir) : Capture where
  tag := head.tag
  origin := head.origin
  echo := head.echo
  sources := head.sources
  index := head.nextIndex
  input := input
  edge := edge
  edgeTick := s.tick
  tTrig := ticksBefore s.tick (s.lcu.triggers.get input).delay
  kset := s.cmu.active
  compGen := s.cmu.compGen
  phys := Four.replicate none
  mEpoch := s.mEpoch

/-- The capture with every entry and constituent judged (R127). -/
def State.judgedCapture (s : State) (c : Capture) : Capture :=
  { c with
    phys := s.phu.mapIdx (fun a p =>
      if follows c.sources a then some { epoch := p.epoch, progress := judgeOpening c a p } else none) }

/-- A matching edge opens a capture, which completes in the same act if nothing in it waits (R125). -/
def State.openCapture (s : State) (head : Context) (rest : List Context) (input : TrigInput) (edge : EdgeDir) : State :=
  (s.modLcu (fun x =>
    { x with
      contexts := queueAfterOpening head rest
      capture := some (s.judgedCapture (s.captureFrom head input edge)) })).completeIfSettled

/-- A matching edge finds a capture in flight (R126). -/
def State.missEdge (s : State) : State :=
  (s.modLcu (fun x => { x with missed := satAdd 255 x.missed 1 })).missRequest

/-- An edge outside the dead time is judged against the head context (R124). -/
def State.judgeEdge (s : State) (input : TrigInput) (edge : EdgeDir) : State :=
  match s.lcu.contexts with
  | [] => s
  | head :: rest =>
    if head.isMatch input edge then
      match s.lcu.capture with
      | none => s.openCapture head rest input edge
      | some _ => s.missEdge
    else s

/-- The dead time of an input starts (R119). -/
def State.startDeadTime (s : State) (input : TrigInput) : State :=
  s.modLcu (fun x =>
    { x with triggers := x.triggers.set input { x.triggers.get input with deadFrom := some s.tick } })

/-- TRIGGER_EDGE (R119, R124 to R127). -/
def execTriggerEdge (input : TrigInput) (edge : EdgeDir) (s : State) : Result :=
  .next (if (s.lcu.triggers.get input).insideDeadTime s.tick then s else (s.startDeadTime input).judgeEdge input edge)

/-- The dead time of an input is due to end (R119). -/
def State.deadTimeDue (s : State) (input : TrigInput) : Bool :=
  timerDue s.tick (s.lcu.triggers.get input).deadFrom (s.lcu.triggers.get input).dead

/-- The dead time of an input stops running (R119). -/
def State.endDeadTime (s : State) (input : TrigInput) : State :=
  s.modLcu (fun x => { x with triggers := x.triggers.set input { x.triggers.get input with deadFrom := none } })

/-- DEAD_TIME_END (R119). -/
def execDeadTimeEnd (input : TrigInput) (s : State) : Result :=
  .next (if s.deadTimeDue input then s.endDeadTime input else s)

/-! ## Capture timeout -/

/-- CAPTURE_TIMEOUT in ticks (R131). -/
def LineCapture.timeoutTicks (x : LineCapture) : Nat := x.timeout * Config.ticksPerMicrosecond

/-- The capture in flight is due to time out (R131). -/
def State.captureDue (s : State) : Bool := timerDue s.tick (s.lcu.capture.map (fun c => c.edgeTick)) s.lcu.timeoutTicks

/-- The entry settled TIMEOUT if it waits (R131). -/
def PhysEntry.timeOut (e : PhysEntry) : PhysEntry := if e.waits then { e with progress := settledBad .timeout } else e

/-- The capture in flight times out (R131). -/
def State.timeOutCapture (s : State) : State :=
  match s.lcu.capture with
  | some c =>
    (s.modLcu (fun x =>
      { x with capture := some { c with phys := c.phys.mapIdx (fun _ e => e.map PhysEntry.timeOut) } })).completeIfSettled
  | none => s

/-- CAPTURE_TIMEOUT_EXPIRY (R131). -/
def execCaptureTimeoutExpiry (s : State) : Result := .next (if s.captureDue then s.timeOutCapture else s)

/-! ## Contexts -/

/-- A context from its 8 parameter bytes, or none where a value is refused (R121, R175, R176). -/
def contextOf (origin : Origin) (ps : List Byte) : Option Context :=
  match ps with
  | [src, input, edge, t1, t0, count, standing, echo] =>
    (match nonEmptySources src, inputOf input, edgeOf edge, natIn 1 255 [count], boolOf standing, boolOf echo with
    | some m, some i, some e, some n, some st, some ec =>
      some { sources := m, input := i, edge := e, tag := BitVec.ofNat 16 (bytesToNat [t1, t0]), count := n, remaining := n,
             standing := st, echo := ec, origin := origin }
    | _, _, _, _, _, _ => none)
  | _ => none

/-- A lone STANDING context with its count used up (R122). -/
def loneExhausted (q : List Context) : Bool :=
  match q with
  | [c] => c.standing && c.remaining == 0
  | _ => false

/-- The context queue with a context inserted, or none where it is refused QUEUE_FULL (R122). -/
def insertContext (q : List Context) (c : Context) : Option (List Context) :=
  if loneExhausted q then some [c]
  else if Config.contextCapacity ≤ q.length then none
  else some (q ++ [c])

/-- The context queue replaced. -/
def State.withContexts (s : State) (q : List Context) : State := s.modLcu (fun x => { x with contexts := q })

/-- The block's part of QUEUE_CONTEXT (R121, R122). -/
def queueContextBlock (s : State) (ps : List Byte) : Reply × State :=
  match contextOf .host ps with
  | none => s.refuse .badValue
  | some c =>
    (match insertContext s.lcu.contexts c with
    | some q => (s.withContexts q).report [byteOf q.length]
    | none => (s.raise .contextRefused).refuse .queueFull)

/-- QUEUE_CONTEXT (R121, R122). -/
def execQueueContext (body : List Byte) (s : State) : Result := .next (s.hostCommand 0x23 8 body queueContextBlock)

/-- The context queue after a flush of an origin, or of all (R123). -/
def flushed (q : List Context) (origin : Option Origin) : List Context :=
  match origin with
  | some o => q.filter (fun c => c.origin != o)
  | none => []

/-- The block's part of FLUSH_CONTEXTS (R123). -/
def flushContextsBlock (s : State) (ps : List Byte) : Reply × State :=
  match ps with
  | [w] =>
    (match flushOf w with
    | some origin =>
      let q := flushed s.lcu.contexts origin
      (s.withContexts q).report [byteOf q.length]
    | none => s.refuse .badValue)
  | _ => s.refuse .badLength

/-- FLUSH_CONTEXTS (R123). -/
def execFlushContexts (body : List Byte) (s : State) : Result := .next (s.hostCommand 0x24 1 body flushContextsBlock)

/-! ## Settings -/

/-- The block's part of SET_TRIGGER (R120). A dead time that a lowered TRIG_DEAD has overtaken stops. -/
def setTriggerBlock (s : State) (ps : List Byte) : Reply × State :=
  match ps with
  | [i, d1, d0, e1, e0] =>
    (match inputOf i, natIn 0 1023 [d1, d0] with
    | some input, some delay =>
      let t := s.modLcu (fun x =>
        { x with
          triggers := x.triggers.set input
            { x.triggers.get input with delay := delay, dead := bytesToNat [e1, e0] } })
      (if t.deadTimeDue input then t.endDeadTime input else t).accept
    | _, _ => s.refuse .badValue)
  | _ => s.refuse .badLength

/-- SET_TRIGGER (R120). -/
def execSetTrigger (body : List Byte) (s : State) : Result := .next (s.hostCommand 0x22 5 body setTriggerBlock)

/-- The block's part of SET_CAPTURE (R136). -/
def setCaptureBlock (s : State) (ps : List Byte) : Reply × State :=
  match ps with
  | [p, r, t1, t0] =>
    (match policyOf p, natIn 1 32 [r], natIn 1 65535 [t1, t0] with
    | some policy, some ready, some timeout =>
      let t := (s.modLcu (fun x => { x with policy := policy, readyLevel := ready, timeout := timeout })).judgeReady
      (if t.captureDue then t.timeOutCapture else t).accept
    | _, _, _ => s.refuse .badValue)
  | _ => s.refuse .badLength

/-- SET_CAPTURE (R136). -/
def execSetCapture (body : List Byte) (s : State) : Result := .next (s.hostCommand 0x25 4 body setCaptureBlock)

/-! ## Reading -/

/-- How many records of a queue, from its old end, a response of `room` bytes and at most `n` records holds (R137). -/
def recordsThatFit : Nat → Nat → List Record → Nat
  | 0, _, _ => 0
  | _ + 1, _, [] => 0
  | n + 1, room, r :: rest => if r.size ≤ room then recordsThatFit n (room - r.size) rest + 1 else 0

/-- The block's part of READ_CAPTURES (R137). REMOVE is 0 and KEEP 1, the option coded as an enumeration in the order named
(DESIGN CHOICE, log entry 9). -/
def readCapturesBlock (s : State) (ps : List Byte) : Reply × State :=
  match ps with
  | [m, o] =>
    (match natIn 1 32 [m], boolOf o with
    | some most, some keep =>
      let k := recordsThatFit most Config.maxResponseData s.lcu.records
      (.ok ((s.lcu.records.take k).flatMap Record.bytes),
        if keep then s else (s.modLcu (fun x => { x with records := x.records.drop k })).judgeReady)
    | _, _ => s.refuse .badValue)
  | _ => s.refuse .badLength

/-- READ_CAPTURES (R137). -/
def execReadCaptures (body : List Byte) (s : State) : Result := .next (s.hostCommand 0x26 2 body readCapturesBlock)

/-- The settings of a trigger input in response data. -/
def Trigger.bytes (x : Trigger) : List Byte := natBytes 2 x.delay ++ natBytes 2 x.dead ++ [flagByte x.deadFrom.isSome]

/-- A context in response data, with all its fields in R121's order of them. -/
def Context.bytes (c : Context) : List Byte :=
  [byteOf c.sources.toNat, inputCode c.input, c.edge.code] ++ natBytes 2 c.tag.toNat ++
    [byteOf c.count, byteOf c.remaining, flagByte c.standing, flagByte c.echo, c.origin.code]

/-- Whether an entry waits, or its settled status: an absent status waits (R139). -/
def entryBytes (o : Option (Status × Int)) : List Byte := optBytes 1 (fun x : Status × Int => [x.1.code]) o

/-- The constituents a capture follows that are not in its source set. -/
def Capture.constituents (c : Capture) : List Source :=
  (Quad.all.filter (fun a => follows c.sources a && !SourceSet.has c.sources (.phys a))).map Source.phys

/-- The identification of a capture in flight. -/
def Capture.identBytes (c : Capture) : List Byte :=
  natBytes 2 c.tag.toNat ++ [c.origin.code, byteOf c.index, inputCode c.input, edgeCode c.edge] ++
    natBytes 6 c.tTrig.toNat ++ [c.compGen]

/-- The capture in flight or its absence: its identification, then the list of its entries and constituents (DESIGN CHOICE,
log entry 9). -/
def captureBytes (c : Option Capture) : List Byte :=
  optBytes 13 Capture.identBytes c ++
    (match c with
    | some x => listBytes (fun y => entryBytes (x.sourceOutcome y)) (SourceSet.members x.sources ++ x.constituents)
    | none => [0])

/-- The receiver: assembling, waiting for silence, idle, in R139's order. -/
def RxState.code : RxState → Byte
  | .assembling _ _ => 0
  | .waiting _ => 1
  | .idle => 2

/-- The Microscope Link's part of READ_CAPTURE_STATE. -/
def MicroLink.bytes (x : MicroLink) : List Byte :=
  natBytes 3 x.rate ++ [byteOf x.out.length, x.rx.code] ++ natBytes 2 x.messages.toNat ++
    natBytes 2 x.lineErrors ++ natBytes 2 x.gapDiscards ++ natBytes 2 x.outDiscards

/-- The Line Capture Unit's part of READ_CAPTURE_STATE, in R139's order. -/
def LineCapture.bytes (x : LineCapture) : List Byte :=
  x.triggers.t0.bytes ++ x.triggers.t1.bytes ++ listBytes Context.bytes x.contexts ++
    [flagByte x.capture.isSome] ++ captureBytes x.capture ++ [byteOf x.missed] ++ natBytes 2 x.recordNo.toNat ++
    [byteOf x.records.length, x.policy.code, byteOf x.readyLevel] ++ natBytes 2 x.timeout

/-- The link with its four counters 0 (R139). -/
def MicroLink.clearCounters (x : MicroLink) : MicroLink :=
  { x with messages := 0, lineErrors := 0, gapDiscards := 0, outDiscards := 0 }

/-- The block's part of READ_CAPTURE_STATE (R139). -/
def readCaptureStateBlock (s : State) (clear : Bool) : Reply × State :=
  (.ok (s.lcu.bytes ++ s.msl.bytes), if clear then s.modMsl MicroLink.clearCounters else s)

/-- READ_CAPTURE_STATE (R139). -/
def execReadCaptureState (body : List Byte) (s : State) : Result :=
  .next (s.hostCommand 0x27 1 body (clearCommand readCaptureStateBlock))

end Sys2Proof.Machine
end

