-- ==== Sys2Proof/Machine/Microscope.lean ====
section
/-! DEFINITION. The Microscope Link: complete messages, line errors, discards, silence and transmission (R141 to R145). -/

namespace Sys2Proof.Machine

/-- The silence measure of the link: 44 bit times, rounded down to whole ticks (R141). -/
def MicroLink.silenceTicks (x : MicroLink) : Nat := 4400000000 / x.rate

/-- The receiver is idle: a message may complete as one row, the characters of which make no other message. -/
def MicroLink.isIdle (x : MicroLink) : Bool := x.rx == .idle

/-- The receiver waits for silence. -/
def MicroLink.isWaiting (x : MicroLink) : Bool :=
  match x.rx with
  | .idle => false
  | .assembling _ _ => false
  | .waiting _ => true

/-! ## Complete messages -/

/-- A complete message is taken: the message counter rises, the message acts, and its answer is offered (R144). While the
receiver waits for silence no message completes (R143), and while it assembles one no other does (R142; DESIGN CHOICE, log
entries 5 and 19). -/
def State.takeMessage (s : State) (act : State → List Byte × State) : State :=
  if s.msl.isIdle then
    let s := s.modMsl (fun x => { x with messages := x.messages + 1 })
    (act s).2.offerMessage (act s).1
  else s

/-- The effect and answer of a QUEUE_CONTEXT message (R121, R122, R144). -/
def microQueueAct (params : List Byte) (s : State) : List Byte × State :=
  match contextOf .microscope params with
  | none => (refusedMessage .badValue, s)
  | some c =>
    (match insertContext s.lcu.contexts c with
    | some q => (acceptedMessage q.length, s.withContexts q)
    | none => (refusedMessage .queueFull, s))

/-- MICRO_QUEUE_CONTEXT (R121, R122, R144). -/
def execMicroQueueContext (params : List Byte) (s : State) : Result := .next (s.takeMessage (microQueueAct params))

/-- The effect and answer of a FLUSH_OWN message (R123, R144). -/
def flushOwnAct (params : List Byte) (s : State) : List Byte × State :=
  if params.isEmpty then
    let q := flushed s.lcu.contexts (some .microscope)
    (acceptedMessage q.length, s.withContexts q)
  else (refusedMessage .badValue, s)

/-- FLUSH_OWN (R123, R144). -/
def execFlushOwn (params : List Byte) (s : State) : Result := .next (s.takeMessage (flushOwnAct params))

/-- The STATE message (R144, Formats). -/
def LineCapture.stateMessage (x : LineCapture) : List Byte :=
  message 0xA4 ([byteOf x.contexts.length, byteOf (x.contexts.filter (fun c => c.origin == .microscope)).length,
    flagByte x.capture.isSome] ++
    natBytes 2 ((x.capture.map (fun c => c.tag.toNat)).getD 0) ++
    [byteOf ((x.capture.map (fun c => c.index)).getD 0), byteOf x.missed, byteOf x.records.length])

/-- The answer of a QUERY message (R144). -/
def queryAct (params : List Byte) (s : State) : List Byte × State :=
  (if params.isEmpty then s.lcu.stateMessage else refusedMessage .badValue, s)

/-- QUERY (R144). -/
def execQuery (params : List Byte) (s : State) : Result := .next (s.takeMessage (queryAct params))

/-- MICRO_UNKNOWN_CODE (R144): a CODE that names a message is no unknown code, and nothing happens by this row. -/
def execMicroUnknownCode (code : Byte) (_params : List Byte) (s : State) : Result :=
  .next (if isMicroCode code then s else s.takeMessage (fun s => (refusedMessage .unknown, s)))

/-! ## Line errors, gaps and silence -/

/-- One more line error (R143, R145). -/
def MicroLink.countLineError (x : MicroLink) : MicroLink := { x with lineErrors := satAdd 65535 x.lineErrors 1 }

/-- A line error while idle or assembling: counted, raised, answered REFUSED LINE, and the receiver waits (R143). -/
def State.lineErrorAt (s : State) (began : Tick) : State :=
  ((s.modMsl (fun x => { x.countLineError with rx := .waiting began })).raise .microLineError).offerMessage
    (refusedMessage .line)

/-- A character ignored while the receiver waits for silence (R143); a bad LEN is then no error (DEDUCED, log entry 17). -/
def State.ignoredCharacter (s : State) (lineError : Bool) (began : Tick) : State :=
  s.modMsl (fun x => if lineError then { x.countLineError with rx := .waiting began } else { x with rx := .waiting began })

/-- The fault is one of the character itself, a parity error or a low stop bit. -/
def LineFault.ofCharacter : LineFault → Bool
  | .parity => true
  | .stopBit => true
  | .badLen _ => false

/-- The fault is one the receiver can meet: a bad LEN is met by an idle receiver alone, and lies outside 1..23 (R142). -/
def MicroLink.meets (x : MicroLink) : LineFault → Bool
  | .parity => true
  | .stopBit => true
  | .badLen len => x.isIdle && !isMessageLength len

/-- LINE_ERROR (R143). A receiver that waits for silence only counts it, if it is a fault of the character. -/
def execLineError (fault : LineFault) (began : Tick) (s : State) : Result :=
  .next (if s.msl.isWaiting then s.ignoredCharacter (LineFault.ofCharacter fault) began
    else if s.msl.meets fault then s.lineErrorAt began
    else s)

/-- CHARACTER_WHILE_WAITING_FOR_SILENCE (R143): it arises only while the receiver waits. -/
def execCharacterWhileWaitingForSilence (lineError : Bool) (began : Tick) (s : State) : Result :=
  .next (if s.msl.isWaiting then s.ignoredCharacter lineError began else s)

/-- More than the silence measure has passed since a character began (R142, R143). -/
def State.silentSince (s : State) (began : Tick) : Bool := decide ((s.msl.silenceTicks : Int) < elapsed s.tick began)

/-- An incomplete message has waited for its next character for more than the silence measure (R142). -/
def State.gapDiscardDue (s : State) : Bool :=
  match s.msl.rx with
  | .idle => false
  | .assembling _ began => s.silentSince began
  | .waiting _ => false

/-- GAP_DISCARD (R142). -/
def execGapDiscard (s : State) : Result :=
  .next (if s.gapDiscardDue then
      (s.modMsl (fun x => { x with rx := .idle, gapDiscards := satAdd 65535 x.gapDiscards 1 })).raise .microLineError
    else s)

/-- The wait for silence is due to end (R143). -/
def State.silenceWaitDue (s : State) : Bool :=
  match s.msl.rx with
  | .idle => false
  | .assembling _ _ => false
  | .waiting began => s.silentSince began

/-- SILENCE_WAIT_END (R143). -/
def execSilenceWaitEnd (s : State) : Result :=
  .next (if s.silenceWaitDue then s.modMsl (fun x => { x with rx := .idle }) else s)

/-! ## Transmission -/

/-- The last character of the head message, or of what is left of a cut one, has been sent (R141, R145). -/
def State.messageDue (s : State) : Bool :=
  match s.msl.tx, s.msl.out with
  | .sending start, m :: _ =>
    decide ((m.length * Config.microCharBits * Config.ticksPerSecond : Nat) ≤ elapsed s.tick start * s.msl.rate)
  | .cutting finish, _ :: _ => passed s.tick finish 0
  | _, _ => false

/-- The head message leaves the outgoing queue and the next begins at once (R145). -/
def MicroLink.sent (x : MicroLink) (tick : Tick) : MicroLink :=
  { x with out := x.out.drop 1, tx := if (x.out.drop 1).isEmpty then .quiet else .sending tick }

/-- MESSAGE_SENT (R145). -/
def execMessageSent (s : State) : Result := .next (if s.messageDue then s.modMsl (fun x => x.sent s.tick) else s)

/-- The tick at which the character in progress ends, for a message of `chars` characters sent since `start` (R141), in
whole ticks upward (DESIGN CHOICE, log entry 13). -/
def charEnd (rate chars : Nat) (start tick : Tick) : Tick :=
  let charTime := Config.microCharBits * Config.ticksPerSecond
  let done := (elapsed tick start).toNat * rate / charTime
  ticksAfter start ((min (done + 1) chars * charTime + (rate - 1)) / rate)

/-- A message being sent is cut at the end of the character in progress (R141). -/
def MicroLink.cut (x : MicroLink) (tick : Tick) : MicroLink :=
  match x.tx, x.out with
  | .sending start, m :: _ => { x with tx := .cutting (charEnd x.rate m.length start tick) }
  | _, _ => x

/-- A message being assembled is discarded and treated as a line error (R141, R143). -/
def State.dropAssembly (s : State) : State :=
  match s.msl.rx with
  | .idle => s
  | .assembling _ began => s.lineErrorAt began
  | .waiting _ => s

/-- A changed rate takes effect: the message being sent is cut, one half received is a line error (R141). -/
def State.changeRate (s : State) (rate : Nat) : State :=
  (((s.modMsl (fun x => x.cut s.tick)).dropAssembly).modMsl (fun x => { x with rate := rate }))

/-- The block's part of SET_MICRO_LINK (R141). -/
def setMicroLinkBlock (s : State) (ps : List Byte) : Reply × State :=
  match natIn 115200 2000000 ps with
  | some rate => if rate = s.msl.rate then s.accept else (s.changeRate rate).accept
  | none => s.refuse .badValue

/-- SET_MICRO_LINK (R141). -/
def execSetMicroLink (body : List Byte) (s : State) : Result := .next (s.hostCommand 0x28 3 body setMicroLinkBlock)

end Sys2Proof.Machine
end

