-- ==== Sys2Proof/Machine/Timers.lean ====
section
/-! DEFINITION. What the part does of itself while no command waits: the events that running timers bring, in one fixed
order, and the advance of the timebase (R1; DESIGN CHOICE, log entry 2), with the two queues that feed it. -/

namespace Sys2Proof.Machine

/-- An event, if it is due. -/
def dueIf (due : Bool) (c : Instr) : Option Instr := if due then some c else none

/-- The latest end of the K computation in progress has come (R80). -/
def State.kDue (s : State) : Bool := timerDue s.tick (s.cmu.computing.map (fun c => c.start)) Config.kLatencyMax

/-- The events due at the present tick, in the order in which an idle part takes them. -/
def State.dueEvents (s : State) : List (Option Instr) :=
  [dueIf (s.silenceDue .q0) (.silenceTimerExpiry .q0),
   dueIf (s.silenceDue .q1) (.silenceTimerExpiry .q1),
   dueIf (s.silenceDue .q2) (.silenceTimerExpiry .q2),
   dueIf (s.silenceDue .q3) (.silenceTimerExpiry .q3),
   dueIf s.staleDue .stalenessTimerExpiry,
   dueIf s.frameDue (.conditionsFrame s.cmu.frame),
   dueIf s.kDue .kComputationComplete,
   dueIf s.watchDue .syncWatchExpiry,
   dueIf s.frameTimerDue .frameTimerExpiry,
   dueIf (s.deadTimeDue .t0) (.deadTimeEnd .t0),
   dueIf (s.deadTimeDue .t1) (.deadTimeEnd .t1),
   dueIf s.captureDue .captureTimeoutExpiry,
   dueIf s.gapDiscardDue .gapDiscard,
   dueIf s.silenceWaitDue .silenceWaitEnd,
   dueIf s.messageDue .messageSent,
   dueIf s.pulseDue .pulseTimerExpiry,
   dueIf s.gapDue .gapTimerExpiry,
   dueIf s.minimumDue .minimumLevelExpiry,
   dueIf s.responseDue .responseReady]

/-- The event an idle part takes next, if one is due. -/
def State.dueEvent (s : State) : Option Instr := s.dueEvents.findSome? (fun o => o)

/-- The timebase advances by one tick of 10 ns (R1). -/
def State.advanceTick (s : State) : State := { s with tick := s.tick + 1 }

/-- A command joins the end of the queue. -/
def State.enqueue (s : State) (c : Instr) : State := { s with pending := s.pending ++ [c] }

/-- A command is put at the front of the queue. -/
def State.pushFront (s : State) (c : Instr) : State := { s with pending := c :: s.pending }

/-- The state with the queue replaced. -/
def State.withPending (s : State) (q : List Instr) : State := { s with pending := q }

/-- The state with the line events that wait replaced. -/
def State.withLines (s : State) (q : List LineEvent) : State := { s with lines := q }

end Sys2Proof.Machine
end

