-- ==== Sys2Proof/Machine/Lines.lean ====
section
/-! DEFINITION. The lines: how characters, clocks and bits assemble the frames and messages whose ends are rows of the table
(R2, R72, R104, R113, R142, R143, R162, R165). A line event gives the state it leaves and the row it completes, if it completes
one; the row then has its own effect. -/

namespace Sys2Proof.Machine

/-- The bytes that bits spell, first bit most significant; the bits of an unfinished last byte are discarded (R162). -/
def wholeBytes : List Bool → List Byte
  | b7 :: b6 :: b5 :: b4 :: b3 :: b2 :: b1 :: b0 :: rest =>
    BitVec.ofNat 8 (bitsToNat [b7, b6, b5, b4, b3, b2, b1, b0]) :: wholeBytes rest
  | _ => []

/-! ## Sample links -/

/-- A frame starts: assembly begins afresh (R2), also where a frame is under way (DESIGN CHOICE, log entry 19). -/
def Receiver.startFrame (r : Receiver) : Receiver := { r with frame := some [] }

/-- A bit joins the frame being assembled; outside one, as in what is left of a frame that a reset has discarded, it is
ignored (R2). -/
def Receiver.takeBit (r : Receiver) (bit : Bool) : Receiver := { r with frame := r.frame.map (fun bits => bits ++ [bit]) }

/-- A frame ends: the bits taken since its start arrive as one frame; a frame discarded by a reset does not (R2, R17). -/
def State.endSampleFrame (s : State) (a : Axis) : State × Option Instr :=
  (s.modSlr a (fun r => { r with frame := none }), (s.slr.get a).frame.map (fun bits => .sampleFrame a bits))

/-! ## Conditions link -/

/-- A character begins on the conditions link and joins the frame (R72). One that begins after a reset is the first of a new
frame, also where characters of its burst came before the reset (DESIGN CHOICE, log entry 25). -/
def State.takeConditionsCharacter (s : State) (byte : Byte) (stopOk : Bool) : State :=
  s.modCmu (fun x => { x with frame := x.frame ++ [{ byte := byte, stopOk := stopOk, began := s.tick }] })

/-! ## Microscope link -/

/-- A character begins on the microscope link: the silence is measured from it (R142, R143). -/
def MicroLink.begins (x : MicroLink) (tick : Tick) : MicroLink :=
  { x with
    underWay := some tick
    rx := match x.rx with
      | .idle => .idle
      | .assembling chars _ => .assembling chars tick
      | .waiting _ => .waiting tick }

/-- The row of a complete message, by its CODE (R144, Formats). -/
def microRow (code : Byte) (params : List Byte) : Instr :=
  if code = 0x21 then .microQueueContext params
  else if code = 0x22 then .flushOwn params
  else if code = 0x23 then .query params
  else .microUnknownCode code params

/-- The characters of a message are all there: the LEN byte and the LEN bytes it counts (R142). -/
def messageComplete (chars : List Byte) : Bool :=
  match chars with
  | len :: rest => decide (len.toNat ≤ rest.length)
  | [] => false

/-- The row that complete characters make: LEN, CODE, parameters. -/
def messageRow (chars : List Byte) : Option Instr :=
  match chars with
  | _ :: code :: params => some (microRow code params)
  | _ => none

/-- A good character received by an idle or assembling receiver (R142). -/
def State.takeCharacter (s : State) (byte : Byte) (began : Tick) : State × Option Instr :=
  match s.msl.rx with
  | .idle =>
    if isMessageLength byte then (s.modMsl (fun x => { x with rx := .assembling [byte] began }), none)
    else (s, some (.lineError (.badLen byte) began))
  | .assembling chars _ =>
    if messageComplete (chars ++ [byte]) then (s.modMsl (fun x => { x with rx := .idle }), messageRow (chars ++ [byte]))
    else (s.modMsl (fun x => { x with rx := .assembling (chars ++ [byte]) began }), none)
  | .waiting _ => (s, some (.characterWhileWaitingForSilence false began))

/-- The character under way on the microscope link has been received (R142, R143). -/
def State.endCharacter (s : State) (byte : Byte) (parityOk stopOk : Bool) : State × Option Instr :=
  match s.msl.underWay with
  | none => (s, none)
  | some began =>
    let t := s.modMsl (fun x => { x with underWay := none })
    if parityOk && stopOk then t.takeCharacter byte began
    else if s.msl.isWaiting then (t, some (.characterWhileWaitingForSilence true began))
    else (t, some (.lineError (if parityOk then .stopBit else .parity) began))

/-! ## Servo port -/

/-- The row of a completed read, by the ACTION of its command word (R113, Formats). -/
def servoRow (word : BitVec 8) : Instr :=
  if servoAction word = 1 then .servoArm word
  else if servoAction word = 2 then .servoDisarm word
  else .servoReadComplete word

/-- A clock on SCLK while SSEL is low: the first begins the read, the last completes it (R104, R113 to R115). -/
def State.takeServoClock (s : State) (sdi : Bool) : State × Option Instr :=
  match s.svp.read with
  | .idle => (s, some (.servoReadStart sdi))
  | .reading r =>
    let r := r.clock sdi
    (s.modSvp (fun x => { x with read := .reading r }),
      if r.content.length ≤ r.clocks then some (servoRow (BitVec.ofNat 8 (bitsToNat r.word))) else none)
  | .spent => (s, none)

/-! ## Host port -/

/-- The row of a command frame, by its CODE in the order of the summary table; `wiredLow` is the level on the ALERT pin.
HSEL is high when a command is taken (R162, R172, R175). -/
def hostRow (code : Byte) (body : List Byte) (wiredLow : Bool) : Instr :=
  match code.toNat with
  | 0x01 => .resetUnit body false
  | 0x02 => .readStatus body wiredLow
  | 0x03 => .readPosition body
  | 0x04 => .clearEvents body
  | 0x05 => .setEventMask body
  | 0x06 => .setLink body
  | 0x07 => .readLinkCounters body
  | 0x08 => .setCorrection body
  | 0x09 => .setAmplitude body
  | 0x0A => .setDirection body
  | 0x0B => .setBridge body
  | 0x0C => .readTracking body
  | 0x0D => .enableAxis body
  | 0x0E => .disableAxis body
  | 0x0F => .ackFault body
  | 0x10 => .datumNow body
  | 0x11 => .setDatumPreset body
  | 0x12 => .datumAtMark body
  | 0x13 => .releaseAxis body
  | 0x14 => .axisRestart body
  | 0x15 => if isReleaseBody body then .holdOutputRelease body else .holdOutput body
  | 0x16 => .setOptics body
  | 0x17 => .setConditions body
  | 0x18 => .setExpansion body
  | 0x19 => .setPlausibility body
  | 0x1A => .setProbe body
  | 0x1B => .readConditions body
  | 0x1C => .setFrame body
  | 0x1D => .setSampleCheck body
  | 0x1E => .setNotify body
  | 0x1F => .readFrameState body
  | 0x20 => .setLayout body
  | 0x21 => .readServoState body
  | 0x22 => .setTrigger body
  | 0x23 => .queueContext body
  | 0x24 => .flushContexts body
  | 0x25 => .setCapture body
  | 0x26 => .readCaptures body
  | 0x27 => .readCaptureState body
  | 0x28 => .setMicroLink body
  | 0x29 => .setMonitor body
  | 0x2A => .clearMonitor body
  | 0x2B => .setAlert body
  | 0x2C => .readAlertState body wiredLow
  | _ => .unknownCommand code body

/-- A bit taken on HDI joins the frame; the eighth makes the CODE byte, and the CODE of FETCH decides what is sent from the
next byte on (R162, R165). Bits taken while a response is sent are ignored. -/
def HostPort.clock (x : HostPort) (hdi : Bool) : HostPort :=
  if x.waitHsel then x
  else
    match x.frame with
    | .idle => { x with frame := .receiving [hdi] }
    | .receiving bits =>
      let bits := bits ++ [hdi]
      { x with
        frame := if bits.length = 8 ∧ wholeBytes bits = [0x00] then .sending x.decide 0 else .receiving bits }
    | .sending f clocks => { x with frame := .sending f (clocks + 1) }

/-- HSEL goes high: the frame ends after its last whole byte, and a selection without one is no frame (R162). It also ends
the wait after a reset (R172). -/
def State.deselectHost (s : State) (wiredLow : Bool) : State × Option Instr :=
  if s.hpt.waitHsel then (s, some .hselSeenHigh)
  else
    match s.hpt.frame with
    | .idle => (s, none)
    | .receiving bits =>
      (s.modHpt (fun x => { x with frame := .idle }),
        match wholeBytes bits with
        | [] => none
        | code :: body => some (hostRow code body wiredLow))
    | .sending f clocks => (s.modHpt (fun x => x.endFetch f (clocks / 8)), none)

/-! ## Every line -/

/-- A line event: the state it leaves, and the row it completes. -/
def State.takeLine (s : State) (e : LineEvent) : State × Option Instr :=
  match e with
  | .sampleStart a => (s.modSlr a Receiver.startFrame, none)
  | .sampleBit a bit => (s.modSlr a (fun r => r.takeBit bit), none)
  | .sampleEnd a => s.endSampleFrame a
  | .conditionsCharacter byte stopOk => (s.takeConditionsCharacter byte stopOk, none)
  | .microBegins => (s.modMsl (fun x => x.begins s.tick), none)
  | .microEnds byte parityOk stopOk => s.endCharacter byte parityOk stopOk
  | .servoClock sdi => s.takeServoClock sdi
  | .hostClock hdi => (s.modHpt (fun x => x.clock hdi), none)
  | .hostDeselect wiredLow => s.deselectHost wiredLow

end Sys2Proof.Machine
end

