-- ==== Sys2Proof/Machine/Dispatch.lean ====
section
/-! DEFINITION. One arm per command: each calls the meaning of its command. -/

namespace Sys2Proof.Machine

/-- The effect of a command on everything but the queue. -/
def exec (i : Instr) (s : State) : Host.Outcome State Fault Refusal :=
  match i with
  | .sampleFrame axis bits => Sys2Proof.Machine.execSampleFrame axis bits s
  | .silenceTimerExpiry axis => Sys2Proof.Machine.execSilenceTimerExpiry axis s
  | .conditionsFrame chars => Sys2Proof.Machine.execConditionsFrame chars s
  | .stalenessTimerExpiry => Sys2Proof.Machine.execStalenessTimerExpiry s
  | .kComputationComplete => Sys2Proof.Machine.execKComputationComplete s
  | .syncEdge => Sys2Proof.Machine.execSyncEdge s
  | .syncWatchExpiry => Sys2Proof.Machine.execSyncWatchExpiry s
  | .frameTimerExpiry => Sys2Proof.Machine.execFrameTimerExpiry s
  | .servoReadStart sdi => Sys2Proof.Machine.execServoReadStart sdi s
  | .servoReadComplete word => Sys2Proof.Machine.execServoReadComplete word s
  | .servoArm word => Sys2Proof.Machine.execServoArm word s
  | .servoDisarm word => Sys2Proof.Machine.execServoDisarm word s
  | .servoDeselect => Sys2Proof.Machine.execServoDeselect s
  | .triggerEdge input edge => Sys2Proof.Machine.execTriggerEdge input edge s
  | .deadTimeEnd input => Sys2Proof.Machine.execDeadTimeEnd input s
  | .captureTimeoutExpiry => Sys2Proof.Machine.execCaptureTimeoutExpiry s
  | .microQueueContext params => Sys2Proof.Machine.execMicroQueueContext params s
  | .flushOwn params => Sys2Proof.Machine.execFlushOwn params s
  | .query params => Sys2Proof.Machine.execQuery params s
  | .microUnknownCode code params => Sys2Proof.Machine.execMicroUnknownCode code params s
  | .lineError fault began => Sys2Proof.Machine.execLineError fault began s
  | .gapDiscard => Sys2Proof.Machine.execGapDiscard s
  | .silenceWaitEnd => Sys2Proof.Machine.execSilenceWaitEnd s
  | .messageSent => Sys2Proof.Machine.execMessageSent s
  | .pulseTimerExpiry => Sys2Proof.Machine.execPulseTimerExpiry s
  | .gapTimerExpiry => Sys2Proof.Machine.execGapTimerExpiry s
  | .minimumLevelExpiry => Sys2Proof.Machine.execMinimumLevelExpiry s
  | .responseReady => Sys2Proof.Machine.execResponseReady s
  | .unknownCommand code body => Sys2Proof.Machine.execUnknownCommand code body s
  | .fetch clocked => Sys2Proof.Machine.execFetch clocked s
  | .resetUnit body hselLow => Sys2Proof.Machine.execResetUnit body hselLow s
  | .powerOnReset hselLow => Sys2Proof.Machine.execPowerOnReset hselLow s
  | .readStatus body wiredLow => Sys2Proof.Machine.execReadStatus body wiredLow s
  | .readPosition body => Sys2Proof.Machine.execReadPosition body s
  | .clearEvents body => Sys2Proof.Machine.execClearEvents body s
  | .setEventMask body => Sys2Proof.Machine.execSetEventMask body s
  | .setLink body => Sys2Proof.Machine.execSetLink body s
  | .readLinkCounters body => Sys2Proof.Machine.execReadLinkCounters body s
  | .setCorrection body => Sys2Proof.Machine.execSetCorrection body s
  | .setAmplitude body => Sys2Proof.Machine.execSetAmplitude body s
  | .setDirection body => Sys2Proof.Machine.execSetDirection body s
  | .setBridge body => Sys2Proof.Machine.execSetBridge body s
  | .readTracking body => Sys2Proof.Machine.execReadTracking body s
  | .enableAxis body => Sys2Proof.Machine.execEnableAxis body s
  | .disableAxis body => Sys2Proof.Machine.execDisableAxis body s
  | .ackFault body => Sys2Proof.Machine.execAckFault body s
  | .datumNow body => Sys2Proof.Machine.execDatumNow body s
  | .setDatumPreset body => Sys2Proof.Machine.execSetDatumPreset body s
  | .datumAtMark body => Sys2Proof.Machine.execDatumAtMark body s
  | .releaseAxis body => Sys2Proof.Machine.execReleaseAxis body s
  | .axisRestart body => Sys2Proof.Machine.execAxisRestart body s
  | .holdOutput body => Sys2Proof.Machine.execHoldOutput body s
  | .holdOutputRelease body => Sys2Proof.Machine.execHoldOutputRelease body s
  | .setOptics body => Sys2Proof.Machine.execSetOptics body s
  | .setConditions body => Sys2Proof.Machine.execSetConditions body s
  | .setExpansion body => Sys2Proof.Machine.execSetExpansion body s
  | .setPlausibility body => Sys2Proof.Machine.execSetPlausibility body s
  | .setProbe body => Sys2Proof.Machine.execSetProbe body s
  | .readConditions body => Sys2Proof.Machine.execReadConditions body s
  | .setFrame body => Sys2Proof.Machine.execSetFrame body s
  | .setSampleCheck body => Sys2Proof.Machine.execSetSampleCheck body s
  | .setNotify body => Sys2Proof.Machine.execSetNotify body s
  | .readFrameState body => Sys2Proof.Machine.execReadFrameState body s
  | .setLayout body => Sys2Proof.Machine.execSetLayout body s
  | .readServoState body => Sys2Proof.Machine.execReadServoState body s
  | .setTrigger body => Sys2Proof.Machine.execSetTrigger body s
  | .queueContext body => Sys2Proof.Machine.execQueueContext body s
  | .flushContexts body => Sys2Proof.Machine.execFlushContexts body s
  | .setCapture body => Sys2Proof.Machine.execSetCapture body s
  | .readCaptures body => Sys2Proof.Machine.execReadCaptures body s
  | .readCaptureState body => Sys2Proof.Machine.execReadCaptureState body s
  | .setMicroLink body => Sys2Proof.Machine.execSetMicroLink body s
  | .setMonitor body => Sys2Proof.Machine.execSetMonitor body s
  | .clearMonitor body => Sys2Proof.Machine.execClearMonitor body s
  | .setAlert body => Sys2Proof.Machine.execSetAlert body s
  | .readAlertState body wiredLow => Sys2Proof.Machine.execReadAlertState body wiredLow s
  | .hselSeenHigh => Sys2Proof.Machine.execHselSeenHigh s
  | .characterWhileWaitingForSilence lineError began => Sys2Proof.Machine.execCharacterWhileWaitingForSilence lineError began s

end Sys2Proof.Machine
end

