-- ==== Sys2Proof/Machine/Step.lean ====
section
/-! DEFINITION. One step of the part: the command at the front of the queue, or what an idle part does of itself. -/

namespace Sys2Proof.Machine

/-- A line event is taken, and the row it completes has its effect at once (DESIGN CHOICE, log entry 19). -/
def lineStep (e : LineEvent) (s : State) : Host.Outcome State Fault Refusal :=
  match s.takeLine e with
  | (t, some c) => exec c t
  | (t, none) => .next t

/-- An idle part takes the event that is due, or the line event that waits first, or lets one tick pass (DESIGN CHOICE, log
entry 2). -/
def idleStep (s : State) : Host.Outcome State Fault Refusal :=
  match s.dueEvent with
  | some c => exec c s
  | none =>
    match s.lines with
    | e :: rest => lineStep e (s.withLines rest)
    | [] => .next s.advanceTick

/-- One step: the command at the front of the queue is taken with the queue's rest; an idle part goes on by itself. -/
def step (s : State) : Host.Outcome State Fault Refusal :=
  match s.pending with
  | c :: rest => exec c (s.withPending rest)
  | [] => idleStep s

/-- The state with the command a word of the table's bits spells at the front of its queue. -/
def State.withFetchWord (s : State) (nbits w : Nat) : State :=
  match decodeTableWord nbits w with
  | some c => s.pushFront c
  | none => s

end Sys2Proof.Machine
end

