-- ==== Sys2Proof/Safety.lean ====
section
/-! DEFINITION. The conditions the part keeps at every moment between two commands, block by block: the laws the manual
states of the device, and the ranges its tables give. Claims about whole runs are stated in these terms. -/

namespace Sys2Proof.Machine

/-! ## Sample links and axes -/

/-- A receiver keeps its lock machine: nothing is followed in DOWN, a sequence and a running silence timer elsewhere, a
run of less than 16 in ACQUIRING; settings and counters lie in their ranges (R6 to R17). -/
structure Receiver.Ok (r : Receiver) : Prop where
  down : r.link = .down → r.lastSeq = none ∧ r.goodRun = 0 ∧ r.badRun = 0 ∧ r.silence = none
  followed : r.link ≠ .down → r.lastSeq.isSome = true ∧ r.silence.isSome = true
  acquiring : r.link = .acquiring → r.goodRun ≤ 15 ∧ r.badRun = 0
  badRun : r.badRun ≤ 6
  limit : 1 ≤ r.badRunLimit ∧ r.badRunLimit ≤ 7
  timeout : 1 ≤ r.linkTimeout ∧ r.linkTimeout ≤ 255
  delay : r.sampleDelay ≤ 1023
  counters : r.crcErrors ≤ 65535 ∧ r.gaps ≤ 65535 ∧ r.outOfOrder ≤ 65535 ∧ r.lockLosses ≤ 255

/-- An axis keeps its state machine: the lock view agrees with the link outside OFF and is NOT_LOCKED in OFF, a
REFERENCED axis has it LOCKED, the armed datum is there in ARMED alone, the fault record in FAULTED alone (R45, R47 to
R49). -/
structure PhaseUnit.Ok (p : PhaseUnit) (link : LinkState) : Prop where
  off : p.state = .off → p.lockView = false ∧ p.acc = 0
  view : p.state ≠ .off → p.lockView = (link == .locked)
  referenced : p.state = .referenced → p.lockView = true
  armed : p.armed.isSome = (p.state == .armed)
  fault : p.fault.isSome = (p.state == .faulted)
  hold : p.state ≠ .faulted → p.hold = 0

/-- Every axis keeps its lock machine and its state machine. -/
def State.AxesOk (s : State) : Prop := ∀ a, (s.slr.get a).Ok ∧ (s.phu.get a).Ok (s.slr.get a).link

/-- A count lies in the range of ACC (R31). -/
def InAcc (x : Int) : Prop := accMin ≤ x ∧ x ≤ accMax

/-- The tracking state of an axis: counts in range, at most 8 history entries, never more consecutive bridged samples than
BRIDGE_MAX, and an interval to bridge with whenever two real samples have been taken (R28, R31, R33, R37, R41). -/
structure PhaseUnit.TrackingOk (p : PhaseUnit) : Prop where
  acc : InAcc p.acc
  hold : InAcc p.hold
  preset : InAcc p.preset.value
  armed : ∀ d, p.armed = some d → InAcc d.value
  history : p.history.length ≤ 8
  realRun : p.realRun ≤ 2
  missing : p.missing ≤ p.bridgeMax
  bridgeMax : p.bridgeMax ≤ 3
  pendingMax : ∀ n, p.pendingBridgeMax = some n → n ≤ 3 ∧ 0 < p.missing
  dLast : p.dLast.natAbs ≤ 192
  noRef : p.pRef = none →
    p.history = [] ∧ p.dLast = 0 ∧ p.realRun = 0 ∧ p.missing = 0 ∧ p.lastInterval = none
  firstReal : p.realRun = 1 → ∃ e, p.history.getLast? = some e ∧ e.kind = .real
  interval : p.realRun = 2 → p.lastInterval.isSome = true
  window : p.ampLow < p.ampHigh ∧ p.ampHigh ≤ 32767

/-- Every axis keeps its tracking state. -/
def State.TrackingOk (s : State) : Prop := ∀ a, (s.phu.get a).TrackingOk

/-! ## Compensation -/

/-- The conditions values: a quantity in STATION lies in its window, AWAITING is held and MANUAL is not, E is formed from α
and T_S, the staleness timer runs while the station is a source and not STALE, and no gap of more than 4 character times
lies within the frame being assembled (R68, R69, R71, R72, R77, R78). -/
structure Compensation.Ok (x : Compensation) : Prop where
  manualN : x.nSource = .manual → x.heldN = false
  manualT : x.tSource = .manual → x.heldT = false
  awaitingN : x.nSource = .awaiting → x.heldN = true
  awaitingT : x.tSource = .awaiting → x.heldT = true
  stationN : x.nSource = .station → x.nMin ≤ x.n ∧ x.n ≤ x.nMax
  stationT : x.tSource = .station → (x.tMin : Int) ≤ x.tS ∧ x.tS ≤ x.tMax
  thermal : x.e = x.alpha * (x.tS - 20000)
  noStation : x.usesStation = false → x.staleness = none ∧ x.stale = false
  station : x.usesStation = true → x.staleness.isSome = !x.stale
  recompute : x.recompute = true → x.computing.isSome = true
  windowN : x.nMin ≤ x.nMax ∧ x.nMax ≤ 999999
  windowT : x.tMin ≤ x.tMax ∧ x.tMax ≤ 50000
  rangeN : x.n ≤ 999999
  rangeT : 0 ≤ x.tS ∧ x.tS ≤ 50000
  rangeAlpha : x.alpha.natAbs ≤ 50000
  timeout : 1 ≤ x.condTimeout ∧ x.condTimeout ≤ 60
  probes : ∀ k, (x.probes.get k).c1 ≠ (x.probes.get k).c2
  frame : unbroken x.frame = true

/-- Optical settings in their ranges (R66). -/
def Optics.Ok (o : Optics) : Prop :=
  400000 ≤ o.lambda ∧ o.lambda ≤ 1700000 ∧ (o.fold = 1 ∨ o.fold = 2 ∨ o.fold = 4 ∨ o.fold = 8)

/-- The inputs of a computation in their ranges (R66, R68). -/
def KInputs.Ok (x : KInputs) : Prop := x.n ≤ 999999 ∧ x.e.natAbs ≤ 1500000000 ∧ ∀ a, (x.optics.get a).Ok

/-- The four step lengths in the range R81 gives. -/
def KSetOk (k : KSet) : Prop := ∀ a, 6384030 ≤ k.get a ∧ k.get a ≤ 217926890

/-- Optics, the inputs of a computation in progress, and the active and staged K sets lie in their ranges (R66, R81). -/
structure Compensation.StepsOk (x : Compensation) : Prop where
  optics : ∀ a, (x.optics.get a).Ok
  computing : ∀ c, x.computing = some c → c.inputs.Ok
  active : KSetOk x.active
  staged : ∀ k, x.staged = some k → KSetOk k

/-! ## Frame Unit -/

/-- In EXTERNAL the watch timer runs and the frame timer does not, and in INTERNAL the other way about; Internal-Only mode
has the source INTERNAL; the notify counter is below NOTIFY_N (R91 to R97, R100). -/
structure FrameUnit.Ok (x : FrameUnit) : Prop where
  external : x.source = .external → x.mode = .externalWithFallback ∧ x.watch.isSome = true ∧ x.timer = none
  internal : x.source = .internal → x.watch = none ∧ x.timer.isSome = true
  period : 20 ≤ x.period ∧ x.period ≤ 10000
  notify : x.notifyN ≤ 255 ∧ (x.notifyN = 0 → x.notifyCount = 0) ∧ (x.notifyN ≠ 0 → x.notifyCount < x.notifyN)
  checks : ∀ a, (x.checks.get a).tally ≤ 16777215 ∧ (x.checks.get a).expect ≤ 65535 ∧ (x.checks.get a).tol ≤ 255

/-! ## Servo Port -/

/-- A layout: one to four slots in strictly increasing source order (R105). -/
def LayoutOk (l : List SlotDesc) : Prop := 1 ≤ l.length ∧ l.length ≤ 4 ∧ strictlyOrdered l = true

/-- A slot: VALID goes with LOCKED and with none of HELD, FAULT and ARMED, and the value fits its 44 bits (R108 to
R110). -/
structure Slot.Ok (x : Slot) : Prop where
  valid : x.valid = true → x.locked = true ∧ x.held = false ∧ x.fault = false ∧ x.armed = false
  value : -slotLengthMax ≤ x.value ∧ x.value ≤ slotLengthMax

/-- A held count lies in ±(2^40 − 1) (R64, R87). -/
def HoldEntry.Ok (h : HoldEntry) : Prop := -boundMax ≤ h.steps ∧ h.steps ≤ boundMax

/-- A read in progress shifts out a frame of one to four slots, has taken its first clock and not its last, and holds the bits
of its command word (R104, R113). -/
structure ServoRead.Ok (r : ServoRead) : Prop where
  length : r.content.length = 88 ∨ r.content.length = 144 ∨ r.content.length = 200 ∨ r.content.length = 256
  clocks : 1 ≤ r.clocks ∧ r.clocks < r.content.length
  word : r.word.length = min 8 r.clocks

/-- The layouts, the snapshot, the read in progress and the output-hold table (R104 to R113). -/
structure ServoPort.Ok (x : ServoPort) : Prop where
  layout : LayoutOk x.layout
  staged : ∀ l, x.staged = some l → LayoutOk l
  snapshot : ∀ y, x.snapshot = some y → 1 ≤ y.slots.length ∧ y.slots.length ≤ 4 ∧ ∀ z ∈ y.slots, z.Ok
  reading : ∀ r, x.read = .reading r → r.Ok
  holds : ∀ y h, x.holds.get y = some h → h.Ok

/-! ## Line Capture Unit -/

/-- The context queue: at most 4 contexts, and one whose count is used up is STANDING and alone (R122). -/
def ContextsOk (q : List Context) : Prop :=
  q.length ≤ 4 ∧ ∀ c ∈ q, c.remaining = 0 → c.standing = true ∧ q.length = 1

/-- A settled status and position: 0 where the status carries none, and in 48 bits otherwise (R87, R129, R133). -/
def EntryOk (st : Status) (position : Int) : Prop :=
  (st.good = false → position = 0) ∧ -lengthMax ≤ position ∧ position ≤ lengthMax

/-- The capture in flight waits for something, and what it has settled is in order (R133). -/
structure Capture.Ok (c : Capture) : Prop where
  waits : c.isSettled = false
  settled : ∀ a e st x16 pos, c.phys.get a = some e → e.progress = .settled st x16 pos → EntryOk st pos

/-- The capture in flight and the entries of every record (R129, R132, R133). -/
structure LineCapture.EntriesOk (x : LineCapture) : Prop where
  capture : ∀ c, x.capture = some c → c.Ok
  records : ∀ r ∈ x.records, ∀ e ∈ r.entries, EntryOk e.status e.position
  missed : x.missed ≤ 255

/-- The numbers of the queued records rise, counted modulo 65 536 up to the present record number (R134). -/
def LineCapture.NumbersRise (x : LineCapture) : Prop :=
  x.records.Pairwise (fun r q => (x.recordNo - q.number).toNat < (x.recordNo - r.number).toNat) ∧
  ∀ r ∈ x.records, r.number ≠ x.recordNo

/-- The record queue holds at most 32 records, and RECORDS_READY follows its depth against READY_LEVEL (R134, R135). -/
structure State.RecordsOk (s : State) : Prop where
  depth : s.lcu.records.length ≤ 32
  level : 1 ≤ s.lcu.readyLevel ∧ s.lcu.readyLevel ≤ 32
  ready : s.flagSet .recordsReady = decide (s.lcu.readyLevel ≤ s.lcu.records.length)

/-! ## Microscope Link -/

/-- The outgoing queue holds at most 4 messages, one of them being sent whenever there is one; rate and counters lie in
their ranges; a message being assembled has a LEN of 1..23 and is not complete (R141, R142, R145). -/
structure MicroLink.Ok (x : MicroLink) : Prop where
  depth : x.out.length ≤ 4
  quiet : x.tx = .quiet ↔ x.out = []
  lengths : ∀ m ∈ x.out, 3 ≤ m.length ∧ m.length ≤ 14
  rate : 115200 ≤ x.rate ∧ x.rate ≤ 2000000
  counters : x.lineErrors ≤ 65535 ∧ x.gapDiscards ≤ 65535 ∧ x.outDiscards ≤ 65535
  assembling : ∀ chars began, x.rx = .assembling chars began →
    ∃ len rest, chars = len :: rest ∧ 1 ≤ len.toNat ∧ len.toNat ≤ 23 ∧ rest.length < len.toNat

/-! ## Monitors and the Alert Controller -/

/-- While the level condition is true the state is LEVEL, and a level whose minimum is over stands on a true condition; the
settings lie in their ranges (R147, R152, R156, R157). -/
structure State.AlertOk (s : State) : Prop where
  level : s.levelCondition = true → ∃ minimumOver, s.alc.state = .level minimumOver
  ended : s.alc.state = .level true → s.levelCondition = true
  times : 1 ≤ s.alc.pulseTime ∧ s.alc.pulseTime ≤ 10 ∧ 4 * s.alc.pulseTime ≤ s.alc.levelMin ∧ s.alc.levelMin ≤ 255
  coalesced : s.alc.coalesced ≤ 65535
  monitors : ∀ m, (s.mnu.get m).low ≤ (s.mnu.get m).high ∧ -boundMax ≤ (s.mnu.get m).low ∧ (s.mnu.get m).high ≤ boundMax

/-! ## Host Port -/

/-- ATTN is asserted while a flag is set whose enable is set (R169); no frame is assembled while the port waits for HSEL, and
one that is received has taken a bit and does not carry the CODE of FETCH (R162, R165, R172). -/
structure HostPort.Ok (x : HostPort) : Prop where
  attn : x.attn = true ↔ ∃ i : Nat, x.flags.getLsbD i = true ∧ x.mask.getLsbD i = true
  waiting : x.waitHsel = true → x.frame = .idle
  receiving : ∀ bits, x.frame = .receiving bits → bits ≠ [] ∧ (wholeBytes bits).head? ≠ some 0

end Sys2Proof.Machine
end

