-- ==== Sys2Proof/Certificates/Slice0/Obligations.lean ====
section
/-! DEFINITION. The statements for the provers. The first part is their vocabulary: how a command frame is spelled, and what
the host port holds after it answers. -/

namespace Sys2Proof.Claims

open Sys2Proof.Machine

/-- The bytes of a command frame after its CODE: LEN, the parameters, and what the host clocked beyond them (R162). -/
def frame (ps extra : List Byte) : List Byte := BitVec.ofNat 8 ps.length :: (ps ++ extra)

/-- The length check of R163 passes for a command that requires `n` parameter bytes. -/
def lengthFits (n : Nat) (body : List Byte) : Prop :=
  ∃ len rest, body = len :: rest ∧ len.toNat = n ∧ n ≤ rest.length

/-- The member of a group of four that a byte 0..3 names. -/
def quadAt (b : Byte) : Quad := if b = 0 then .q0 else if b = 1 then .q1 else if b = 2 then .q2 else .q3

/-- A mask of axes or monitors selects a member (R175). -/
def picks (mask : Byte) (i : Quad) : Bool := mask.getLsbD i.toNat

/-- A mask of sources selects a source (R175). -/
def picksSource (mask : Byte) (x : Source) : Bool := mask.getLsbD x.toNat

/-- A flag byte is set. -/
def isSet (b : Byte) : Bool := b == 1

/-- The host port with a new pending response; one held unfetched sets the lost mark, and HDO carried nothing but ones in the
command frame (R162, R164, R166). -/
def answeredBy (h : HostPort) (p : PendingResponse) : HostPort :=
  { h with response := p, lost := h.lost || h.response != .none, hdo := [] }

/-- The state `t` after a command taken in `s` was accepted with the given data: the answer is in preparation (R164). -/
def accepted (s : State) (code : Byte) (data : List Byte) (t : State) : State :=
  { t with hpt := answeredBy t.hpt (.preparing { refusal := none, code := code, data := data } s.tick) }

/-- The state after a command was refused: the answer is ready at once and nothing else has changed (R163, R164). -/
def refused (s : State) (code : Byte) (r : RefusalCode) : State :=
  { s with hpt := answeredBy s.hpt (.ready { refusal := some r, code := code, data := [] }) }

/-- A frame is taken by its row unless the port waits for HSEL after a reset (R172) or a selection is under way on its lines,
since frames never overlap (R162; that such a row does nothing is the model's choice, log entry 19). -/
def taken (s t : State) : State := if s.hpt.waitHsel = true ∨ s.hpt.frame ≠ .idle then s else t

/-- The outcome of a command that checks `ok` and then makes `t`, or is refused BAD_VALUE. -/
def checked (s : State) (code : Byte) (ok : Prop) [Decidable ok] (t : State) : State :=
  taken s (if ok then accepted s code [] t else refused s code .badValue)

/-- A phase unit replaced. -/
def withPhu (s : State) (a : Axis) (p : PhaseUnit) : State := { s with phu := s.phu.set a p }

/-- A receiver replaced. -/
def withSlr (s : State) (a : Axis) (r : Receiver) : State := { s with slr := s.slr.set a r }

/-- What a tracking restart leaves of a phase unit (R19). -/
def restarted (p : PhaseUnit) : PhaseUnit :=
  { p with
    pRef := none, dLast := 0, lastInterval := none, realRun := 0, missing := 0, history := []
    bridgeMax := p.pendingBridgeMax.getD p.bridgeMax, pendingBridgeMax := none }

/-- The epoch of M after the epoch of an axis advances (R62). -/
def mEpochAfter (s : State) (a : Axis) : BitVec 4 := if a = .q0 ∨ a = .q1 then s.mEpoch + 1 else s.mEpoch

/-- The history after an entry enters it: the last 8 are kept (R41). -/
def entered (h : List HistEntry) (e : HistEntry) : List HistEntry :=
  if h.length < 8 then h ++ [e] else h.drop 1 ++ [e]

/-- The state with the event flags replaced and ATTN following (R169). -/
def withFlagsOf (s : State) (flags : BitVec 27) : State :=
  { s with hpt := { s.hpt with flags := flags, attn := flags &&& s.hpt.mask != 0 } }

/-- The state with one flag raised (R167, R169). -/
def raised (s : State) (bit : Nat) : State := withFlagsOf s (s.hpt.flags ||| BitVec.ofNat 27 (2 ^ bit))

/-- A timer started at `start` with a period in ticks has expired at `now` (R1). -/
abbrev hasPassed (now start : Tick) (period : Nat) : Prop := (period : Int) ≤ (now - start).toInt

/-- RECORDS_READY judged anew: set while the queue holds READY_LEVEL records or more (R135, R169). -/
def readyJudged (s : State) : State :=
  withFlagsOf s ((s.hpt.flags &&& ~~~ 1) ||| (if s.lcu.readyLevel ≤ s.lcu.records.length then 1 else 0))

/-- A running timer has expired. -/
def ranOut (now : Tick) (timer : Option Tick) (period : Nat) : Bool :=
  match timer with
  | some start => decide ((period : Int) ≤ (now - start).toInt)
  | none => false

/-- The characters of a conditions frame have ended it: more than 34 722 ticks have passed since the last of them began, and
no two that follow each other began farther apart (R72). -/
def frameHasEnded (now : Tick) (chars : List CondChar) : Prop :=
  (∃ last, chars.getLast? = some last ∧ 34722 < (now - last.began).toInt) ∧
  ∀ (k : Nat) (x y : CondChar), chars[k]? = some x → chars[k + 1]? = some y → (y.began - x.began).toInt ≤ 34722

/-- More than the silence measure of the microscope link has passed since a character began (R141). -/
def isSilent (s : State) (began : Tick) : Prop := ((4400000000 / s.msl.rate : Nat) : Int) < (s.tick - began).toInt

/-- The events of the table that time brings, each at the moment its timer has run out (R12, R72, R78, R80, R91, R92, R119,
R131, R142, R143, R145, R154, R157, R164). -/
def dueNow (s : State) : Instr → Prop
  | .silenceTimerExpiry a => ranOut s.tick (s.slr.get a).silence ((s.slr.get a).linkTimeout * 100) = true
  | .stalenessTimerExpiry => ranOut s.tick s.cmu.staleness (s.cmu.condTimeout * 100000000) = true
  | .conditionsFrame chars => chars = s.cmu.frame ∧ frameHasEnded s.tick chars
  | .kComputationComplete => ranOut s.tick (s.cmu.computing.map (fun c => c.start)) 1200 = true
  | .syncWatchExpiry => ranOut s.tick s.fru.watch (2 * (s.fru.period * 100)) = true
  | .frameTimerExpiry => ranOut s.tick s.fru.timer (s.fru.period * 100) = true
  | .deadTimeEnd i => ranOut s.tick (s.lcu.triggers.get i).deadFrom (s.lcu.triggers.get i).dead = true
  | .captureTimeoutExpiry => ranOut s.tick (s.lcu.capture.map (fun c => c.edgeTick)) (s.lcu.timeout * 100) = true
  | .gapDiscard => ∃ chars began, s.msl.rx = .assembling chars began ∧ isSilent s began
  | .silenceWaitEnd => ∃ began, s.msl.rx = .waiting began ∧ isSilent s began
  | .messageSent => ∃ m rest, s.msl.out = m :: rest ∧
      ((∃ start, s.msl.tx = .sending start ∧
        ((m.length * 11 * 100000000 : Nat) : Int) ≤ (s.tick - start).toInt * s.msl.rate) ∨
       (∃ finish, s.msl.tx = .cutting finish ∧ 0 ≤ (s.tick - finish).toInt))
  | .pulseTimerExpiry => ∃ start, s.alc.state = .pulse start ∧ hasPassed s.tick start (s.alc.pulseTime * 100)
  | .gapTimerExpiry => ∃ start, s.alc.state = .gap start ∧ hasPassed s.tick start (s.alc.pulseTime * 100)
  | .minimumLevelExpiry => s.alc.state = .level false ∧ hasPassed s.tick s.alc.wentLow (s.alc.levelMin * 100)
  | .responseReady => ∃ r since, s.hpt.response = .preparing r since ∧ hasPassed s.tick since 5000
  | _ => False

/-- An item that may be absent: a presence byte, then the item, or zeros of its full width (R175). -/
def maybe (width : Nat) (item : Option (List Byte)) : List Byte :=
  match item with
  | some b => 1 :: b
  | none => 0 :: List.replicate width 0

/-- A list of varying length: one byte for the number of its items, then the items (R175). -/
def counted (items : List (List Byte)) : List Byte := BitVec.ofNat 8 items.length :: items.flatten

/-- One byte that holds a number. -/
def one (n : Nat) : Byte := BitVec.ofNat 8 n

/-- A field of `w` bits that holds a number, most significant bit first. -/
def field (w n : Nat) : List Bool := (List.range w).map (fun i => n.testBit (w - 1 - i))

/-- A field of `w` bits that holds a signed number in two's complement. -/
def signedField (w : Nat) (v : Int) : List Bool := field w (BitVec.ofInt w v).toNat

/-- The four members of a group in their order. -/
def four : List Quad := [.q0, .q1, .q2, .q3]

/-- The six sources in their order. -/
def six : List Source := [.phys .q0, .phys .q1, .phys .q2, .phys .q3, .m, .w]

/-- The status and position of an entry of M or W from the settled statuses and counts of A0 and A1, with the K set of the
capture (R86, R87, R132). -/
def pairEntry (k : KSet) (x : Source) (s0 s1 : Status) (x0 x1 : Int) : Status × Int :=
  let len : Int := if x = .m then roundDiv (x0 * k.get .q0 + x1 * k.get .q1) 2097152
    else roundDiv (x0 * k.get .q0 - x1 * k.get .q1) 1048576
  if s0 ≠ .ok ∧ s0 ≠ .bridged then (s0, 0)
  else if s1 ≠ .ok ∧ s1 ≠ .bridged then (s1, 0)
  else if len < -140737488355327 ∨ 140737488355327 < len then (.notValid, 0)
  else if s0 = .bridged ∨ s1 = .bridged then (.bridged, len)
  else (.ok, len)

/-- The status, count and position with which an axis of a capture is settled, and its epoch; absent while it waits (R127,
R129). -/
def settledAxis (c : Capture) (a : Axis) : Option (BitVec 4 × Status × Int × Int) :=
  match c.phys.get a with
  | some ⟨epoch, .settled st x16 pos⟩ => some (epoch, st, x16, pos)
  | _ => none

/-- The entry of a source in the record of a capture: of an axis as it settled, and of M and W as R132 forms it from A0 and A1
with the epoch of M. -/
def entryOf (c : Capture) (x : Source) : Option RecordEntry :=
  match x, settledAxis c .q0, settledAxis c .q1 with
  | .phys a, _, _ => (settledAxis c a).map (fun o =>
      { source := .phys a, status := o.2.1, epoch := o.1, position := o.2.2.2 })
  | _, some (_, s0, x0, _), some (_, s1, x1, _) => some {
      source := x, status := (pairEntry c.kset x s0 s1 x0 x1).1, epoch := c.mEpoch
      position := (pairEntry c.kset x s0 s1 x0 x1).2 }
  | _, _, _ => none

/-- The source and status byte of a record entry and of an ECHO (Formats, Capture record). -/
def sourceAndStatus (y : RecordEntry) : Byte := one (16 * y.source.toNat + y.status.code.toNat)

/-- The bytes of a record: a header of 16 and 8 for each entry (Formats, Capture record). -/
def recordData (r : Record) : List Byte :=
  natBytes 2 r.number.toNat ++ natBytes 2 r.tag.toNat ++
    [one r.index,
      one ((if r.origin = .host then 0 else 1) + (if r.input = .t0 then 0 else 2) + (if r.edge = .rise then 0 else 4)),
      one r.missed, one r.entries.length] ++
    natBytes 6 r.tTrig.toNat ++ [r.compGen, one (16 + 8 * r.entries.length)] ++
    r.entries.flatMap (fun y => [sourceAndStatus y, one y.epoch.toNat] ++ intBytes 6 y.position)

/-- An ECHO of a record with its first entry: LEN, CODE, record number, tag, capture index, source and status, position
(Formats, Microscope link messages). -/
def echoData (r : Record) (y : RecordEntry) : List Byte :=
  [13, 0xA3] ++ natBytes 2 r.number.toNat ++ natBytes 2 r.tag.toNat ++ [one r.index, sourceAndStatus y] ++
    intBytes 6 y.position

/-- The 56 bits of a slot (Formats, Servo Frame). -/
def slotFields (x : Slot) : List Bool :=
  signedField 44 x.value ++
    [x.valid, x.held, x.fault, x.armed, x.bridged, x.saturated, x.locked, x.monitor] ++ field 4 x.epoch.toNat

/-- The bits of a servo frame before its CRC: the header with the REPEAT flag of a read, then the slots (Formats, Servo
Frame). -/
def snapshotFields (x : Snapshot) (rep : Bool) : List Bool :=
  field 12 x.header.frameNo.toNat ++ field 4 x.header.compGen.toNat ++ field 4 x.header.layoutGen.toNat ++
    [rep, x.header.internal, x.header.condHeld, x.header.alertOwn] ++ x.slots.flatMap slotFields

/-- The frame a read shifts out: the snapshot with its CRC, or where there is none a frame of zeros with as many slots as the
layout (R112, R116). -/
def readContent (x : ServoPort) : List Bool :=
  match x.snapshot with
  | some y => snapshotFields y x.delivered ++ field 8 (crc8 (snapshotFields y x.delivered)).toNat
  | none => List.replicate (24 + 56 * x.layout.length + 8) false

/-- The count an axis reports: 0 in OFF, the hold value in FAULTED, ACC otherwise (R60, R61). -/
def countOf (p : PhaseUnit) : Int := if p.state = .off then 0 else if p.state = .faulted then p.hold else p.acc

/-- Every axis a source is formed from has a property. -/
def allOf (s : State) (x : Source) (p : PhaseUnit → Bool) : Bool := four.all (fun a => !x.dependsOn a || p (s.phu.get a))

/-- Some axis a source is formed from has a property. -/
def anyOf (s : State) (x : Source) (p : PhaseUnit → Bool) : Bool := four.any (fun a => x.dependsOn a && p (s.phu.get a))

/-- A pulse request taken: it starts a pulse in RELEASED and is counted in every other state (R154, R158). -/
def pulsed (s : State) : State :=
  { s with alc :=
    if s.alc.state = .released then { s.alc with state := .pulse s.tick, wentLow := s.tick }
    else { s.alc with coalesced := min 65535 (s.alc.coalesced + 1) } }

/-- The state after an axis has suffered an integrity loss, for a given hold value: ARMED is cancelled, REFERENCED becomes
FAULTED, which is reported to the capture in flight and judged for ALERT, FAULTED gains a further cause, and nothing else
happens (R48, R49, R59). -/
def suffers (s : State) (a : Axis) (cause : Cause) (tick : Tick) (hold : Int) : State :=
  match (s.phu.get a).state with
  | .off => s
  | .unreferenced => s
  | .armed => raised (withPhu s a { s.phu.get a with state := .unreferenced, armed := none }) (7 + a.toNat)
  | .referenced => ((raised (withPhu s a { s.phu.get a with
      state := .faulted, fault := some { first := cause, further := 0, tick := tick }, hold := hold })
      (3 + a.toNat)).reportToCapture a .fault).judgeLevel
  | .faulted => withPhu s a { s.phu.get a with
      fault := (s.phu.get a).fault.map (fun r => { r with further := r.further ||| BitVec.ofNat 5 (2 ^ cause.index) }) }

/-- The state after a lock lost hand-off of this moment to an axis that is not OFF: the loss with cause LINK, then the tracking
restart (R19, R45). -/
def lockLostAt (s : State) (a : Axis) : State :=
  withPhu (suffers s a .link s.tick (s.phu.get a).acc) a
    { restarted ((suffers s a .link s.tick (s.phu.get a).acc).phu.get a) with lockView := false }

/-- The event flags that a hand-off raises, but for the two of the record queue: AXIS_FAULT of the axis where it suffers a loss
in REFERENCED, ARM_CANCELLED where it suffers one in ARMED, and MONITOR_TRIP of each monitor that trips (R48, R59, R150). -/
def EventsRaised (s t : State) (a : Axis) (loss : Bool) : Prop :=
  ∀ i, 2 ≤ i → i < 27 → (t.hpt.flags.getLsbD i = true ↔ s.hpt.flags.getLsbD i = true ∨
    (loss = true ∧ (s.phu.get a).state = .referenced ∧ i = 3 + a.toNat) ∨
    (loss = true ∧ (s.phu.get a).state = .armed ∧ i = 7 + a.toNat) ∨
    ∃ m : MonitorId, i = 11 + m.toNat ∧ (s.mnu.get m).tripped = false ∧ (t.mnu.get m).tripped = true)

/-- The level condition as R155 states it. -/
def levelTrue (s : State) : Prop :=
  (∃ a, s.alc.guard.getLsbD a.toNat = true ∧ (s.phu.get a).state = .faulted) ∨
  (∃ m, (s.mnu.get m).tripped = true ∧ (s.mnu.get m).action = .alert)

/-- A datum in response data: its value in steps and its direction requirement (R52, R175). -/
def datumData (d : Datum) : List Byte :=
  intBytes 6 d.value ++ [if d.direction = .positive then 0 else if d.direction = .negative then 1 else 2]

/-- What READ_STATUS returns of an axis: link state, axis state, lock view (R45 names LOCKED first), epoch, armed datum, fault
record and hold value (R170). -/
def axisData (r : Receiver) (p : PhaseUnit) : List Byte :=
  [r.link.code, p.state.code, if p.lockView = true then 0 else 1, one p.epoch.toNat] ++ maybe 7 (p.armed.map datumData) ++
    maybe 8 (p.fault.map (fun f => [one f.first.index, one f.further.toNat] ++ natBytes 6 f.tick.toNat)) ++ intBytes 6 p.hold

/-- The items of READ_TRACKING in the order of R43, each by its kind (R175). -/
def trackingData (p : PhaseUnit) : List Byte :=
  intBytes 6 p.acc ++ maybe 2 (p.pRef.map (fun r => natBytes 2 r.toNat)) ++ intBytes 2 p.dLast ++
    maybe 6 (p.lastInterval.map (natBytes 6)) ++ [one p.realRun, one p.missing, one p.bridgeMax] ++
    maybe 1 (p.pendingBridgeMax.map (fun n => [one n])) ++
    [if p.dir = .plus then 0x01 else 0xFF, flagByte p.saturated, flagByte p.bridged] ++
    counted (p.history.map (fun h => natBytes 6 h.instant.toNat ++ intBytes 6 h.acc ++
      [if h.kind = .real then 0 else 1, one h.epoch.toNat]))

/-- The items of READ_FRAME_STATE in the order of R102, each by its kind (R175). -/
def frameData (x : FrameUnit) : List Byte :=
  [if x.mode = .externalWithFallback then 0 else 1, if x.source = .external then 0 else 1] ++ natBytes 2 x.period ++
    [flagByte x.watch.isSome, flagByte x.timer.isSome] ++ natBytes 2 x.frameNo.toNat ++ [one x.notifyN, one x.notifyCount] ++
    four.flatMap (fun a => natBytes 2 (x.checks.get a).expect ++ [one (x.checks.get a).tol] ++
      natBytes 3 (x.checks.get a).tally ++ [if (x.checks.get a).lockAtLast = true then 0 else 1] ++
      natBytes 3 (x.checks.get a).last.tally ++
      [flagByte (x.checks.get a).last.checked, flagByte (x.checks.get a).last.failed])

/-- A layout in response data: its slots, each a source and a unit (R105, R175). -/
def layoutData (l : List SlotDesc) : List Byte :=
  counted (l.map (fun d => [one d.source.toNat, if d.unit = .pm then 0 else 1]))

/-- The items of READ_SERVO_STATE in the order of R117, the header in the order of R111 with REPEAT shown clear, each by its
kind (R175); a held length is clamped to 48 bits (R87). -/
def servoData (x : ServoPort) : List Byte :=
  layoutData x.layout ++ [one x.layoutGen.toNat] ++ [flagByte x.staged.isSome] ++ layoutData (x.staged.getD []) ++
    maybe 8 (x.snapshot.map (fun n => natBytes 2 n.header.frameNo.toNat ++ [one n.header.compGen.toNat,
      one n.header.layoutGen.toNat, flagByte n.header.internal, flagByte n.header.condHeld, flagByte n.header.alertOwn, 0])) ++
    [flagByte x.delivered] ++
    (match x.read with
    | .reading r => 1 :: natBytes 2 r.clocks
    | .idle => [0, 0, 0]
    | .spent => [0, 0, 0]) ++
    six.flatMap (fun y => maybe 13 ((x.holds.get y).map (fun h => intBytes 6 h.steps ++
      intBytes 6 (max (-140737488355327) (min 140737488355327 h.pm)) ++ [one h.epoch.toNat])))

/-- The items of READ_CONDITIONS in the order of R79, each by its kind (R175). -/
def conditionsData (x : Compensation) : List Byte :=
  natBytes 3 x.n ++ [x.nSource.code] ++ natBytes 2 x.tS.toNat ++ [x.tSource.code] ++ intBytes 3 x.alpha ++ intBytes 6 x.e ++
    [flagByte x.heldN, flagByte x.heldT, flagByte x.stale, flagByte x.staleness.isSome] ++
    maybe 1 (x.lastSeq.map (fun b => [b])) ++ natBytes 2 x.accepted.toNat ++ natBytes 2 x.crcErrors ++
    natBytes 2 x.duplicates ++
    four.flatMap (fun k => maybe 7 ((x.readings.get k).map (fun r => intBytes 6 r.tk ++ [flagByte r.included]))) ++
    four.flatMap (fun a => natBytes 4 (x.active.get a)) ++ [x.compGen] ++
    maybe 16 (x.staged.map (fun k => four.flatMap (fun a => natBytes 4 (k.get a)))) ++
    [flagByte x.computing.isSome, flagByte x.recompute]

/-- The settled status of a source of the capture in flight; absent while it waits (R129, R132). -/
def settledStatus (c : Capture) (x : Source) : Option Status :=
  match x, c.phys.get .q0, c.phys.get .q1 with
  | .phys a, _, _ => (match c.phys.get a with
    | some ⟨_, .settled st _ _⟩ => some st
    | _ => none)
  | _, some ⟨_, .settled s0 x0 _⟩, some ⟨_, .settled s1 x1 _⟩ => some (pairEntry c.kset x s0 s1 x0 x1).1
  | _, _, _ => none

/-- The sources of a capture in its order, then the constituents of M or W that are no sources of it (R125). -/
def entriesAndConstituents (m : SourceSet) : List Source :=
  six.filter (fun x => m.getLsbD x.toNat) ++
    ([Quad.q0, .q1].filter (fun a => !m.getLsbD a.toNat && (m.getLsbD 4 || m.getLsbD 5))).map Source.phys

/-- The items of READ_CAPTURE_STATE in the order of R139, each by its kind (R175). -/
def captureData (x : LineCapture) (l : MicroLink) : List Byte :=
  [x.triggers.t0, x.triggers.t1].flatMap (fun g => natBytes 2 g.delay ++ natBytes 2 g.dead ++ [flagByte g.deadFrom.isSome]) ++
    counted (x.contexts.map (fun c => [one c.sources.toNat, if c.input = .t0 then 0 else 1, c.edge.code] ++
      natBytes 2 c.tag.toNat ++ [one c.count, one c.remaining, flagByte c.standing, flagByte c.echo,
        if c.origin = .host then 0 else 1])) ++
    [flagByte x.capture.isSome] ++
    maybe 13 (x.capture.map (fun c => natBytes 2 c.tag.toNat ++ [if c.origin = .host then 0 else 1, one c.index,
      if c.input = .t0 then 0 else 1, if c.edge = .rise then 0 else 1] ++ natBytes 6 c.tTrig.toNat ++ [c.compGen])) ++
    counted (match x.capture with
      | some c => (entriesAndConstituents c.sources).map (fun y => maybe 1 ((settledStatus c y).map (fun st => [st.code])))
      | none => []) ++
    [one x.missed] ++ natBytes 2 x.recordNo.toNat ++
    [one x.records.length, if x.policy = .keepOldest then 0 else 1, one x.readyLevel] ++ natBytes 2 x.timeout ++
    natBytes 3 l.rate ++ [one l.out.length, match l.rx with
      | .assembling _ _ => 0
      | .waiting _ => 1
      | .idle => 2] ++
    natBytes 2 l.messages.toNat ++ natBytes 2 l.lineErrors ++ natBytes 2 l.gapDiscards ++ natBytes 2 l.outDiscards

/-- A set of axes or monitors in response data, bit 0 for the first (R175). -/
def setByte (l : List Quad) : Byte := one ((l.map (fun i => 2 ^ i.toNat)).sum)

/-- The items of READ_ALERT_STATE in the order of R160, each by its kind, with the level of the pin (R159, R175). -/
def alertData (s : State) (low : Bool) (faulted tripped : List Quad) : List Byte :=
  four.flatMap (fun m => [one (s.mnu.get m).source.toNat] ++ intBytes 6 (s.mnu.get m).low ++ intBytes 6 (s.mnu.get m).high ++
    [if (s.mnu.get m).mode = .tripOutside then 0 else 1, if (s.mnu.get m).action = .event then 0 else 1,
      flagByte (s.mnu.get m).enabled, flagByte (s.mnu.get m).tripped]) ++
    [s.alc.state.code] ++ natBytes 6 s.alc.wentLow.toNat ++
    [flagByte (!faulted.isEmpty || !tripped.isEmpty), setByte faulted, setByte tripped, one s.alc.guard.toNat,
      flagByte s.alc.pulseOnBridge, flagByte s.alc.pulseOnMiss, one s.alc.pulseTime, one s.alc.levelMin,
      flagByte s.alc.drive, if low = true then 0 else 1] ++ natBytes 2 s.alc.coalesced

end Sys2Proof.Claims

open Sys2Proof Sys2Proof.Machine Sys2Proof.Claims

/-! ## The machine -/

/-- A step takes the command at the front of the queue and runs it with the queue's rest. -/
def Obligations.StepTakesTheFrontCommand : Prop :=
  ∀ (s : State) (c : Instr) (rest : List Instr), s.pending = c :: rest → step s = exec c { s with pending := rest }

/-- The model's own idle step (log entries 2 and 19): an idle part takes an event a timer has made due, and there is one to take
exactly when some timer has run out; where none has, it takes the line event that waits first with the row this completes, and
lets one tick pass where none waits. -/
def Obligations.IdleStepTakesDueEventOrTick : Prop :=
  ∀ s : State, s.pending = [] →
    (∀ c, s.dueEvent = some c → dueNow s c ∧ step s = exec c s) ∧
    (s.dueEvent = none ↔ ∀ c, ¬ dueNow s c) ∧
    (s.dueEvent = none → ∀ e rest, s.lines = e :: rest → step s = lineStep e { s with lines := rest }) ∧
    (s.dueEvent = none → s.lines = [] → step s = .next { s with tick := s.tick + 1 })

/-- Every command of the table is answered with a next state, and no command, the two resets among them, touches the commands
and line events that wait behind it. That nothing stops is the model's choice, log entry 21, and that the queues outlast
every command is log entries 1 and 19. -/
def Obligations.CommandsLeaveTheQueue : Prop :=
  ∀ (c : Instr) (s : State), ∃ t, exec c s = .next t ∧ t.pending = s.pending ∧ t.lines = s.lines

/-- The values after power-on reset that the tables of the chapters give (R17, R44, R65, R88, R103, R118, R140, R146, R161,
R173). -/
def Obligations.ResetHoldsTheStatedValues : Prop :=
  State.reset.tick = 0 ∧
  (∀ a, State.reset.slr.get a =
    { link := .down, lastSeq := none, goodRun := 0, badRun := 0, silence := none, goodFrames := 0, crcErrors := 0, gaps := 0,
      outOfOrder := 0, lockLosses := 0, badRunLimit := 3, linkTimeout := 2, sampleDelay := 0, frame := none }) ∧
  (∀ a, State.reset.phu.get a =
    { correction := { os := 0, oc := 0, gs := 16384, gc := 16384, q := 0 }, ampLow := 4096, ampHigh := 30000, dir := .plus,
      bridgeMax := 2, pendingBridgeMax := none, pRef := none, dLast := 0, lastInterval := none, realRun := 0, missing := 0,
      acc := 0, history := [], saturated := false, bridged := false, state := .off, lockView := false, epoch := 0,
      preset := { value := 0, direction := .any }, armed := none, fault := none, hold := 0 }) ∧
  State.reset.mEpoch = 0 ∧
  (∀ a, State.reset.cmu.optics.get a = { lambda := 632991, fold := 4, vacuum := false, thermal := false } ∧
    State.reset.cmu.active.get a = 20255712 ∧ State.reset.cmu.readings.get a = none ∧
    State.reset.cmu.probes.get a = { c1 := 0, tc1 := 0, c2 := 50000, tc2 := 50000 }) ∧
  (State.reset.cmu.n = 0 ∧ State.reset.cmu.nSource = .manual ∧ State.reset.cmu.tS = 20000 ∧
    State.reset.cmu.tSource = .manual ∧ State.reset.cmu.alpha = 0 ∧ State.reset.cmu.e = 0 ∧
    State.reset.cmu.nMin = 150000 ∧ State.reset.cmu.nMax = 350000 ∧ State.reset.cmu.tMin = 10000 ∧
    State.reset.cmu.tMax = 30000 ∧ State.reset.cmu.condTimeout = 5 ∧ State.reset.cmu.staleness = none ∧
    State.reset.cmu.lastSeq = none ∧ State.reset.cmu.compGen = 0 ∧ State.reset.cmu.staged = none ∧
    State.reset.cmu.computing = none ∧ State.reset.cmu.recompute = false ∧ State.reset.cmu.heldN = false ∧
    State.reset.cmu.heldT = false ∧ State.reset.cmu.stale = false ∧ State.reset.cmu.accepted = 0 ∧
    State.reset.cmu.crcErrors = 0 ∧ State.reset.cmu.duplicates = 0 ∧ State.reset.cmu.frame = []) ∧
  (State.reset.fru.mode = .externalWithFallback ∧ State.reset.fru.source = .external ∧ State.reset.fru.period = 250 ∧
    State.reset.fru.watch = some 0 ∧ State.reset.fru.timer = none ∧ State.reset.fru.frameNo = 0 ∧
    State.reset.fru.notifyN = 0 ∧ State.reset.fru.notifyCount = 0 ∧ ∀ a, State.reset.fru.checks.get a =
      { tally := 0, lockAtLast := false, expect := 0, tol := 0,
        last := { tally := 0, checked := false, failed := false } }) ∧
  State.reset.svp =
    { layout := [{ source := .phys .q0, unit := .pm }], staged := none, layoutGen := 0, snapshot := none,
      delivered := false, read := .idle, holds := { axes := ⟨none, none, none, none⟩, m := none, w := none } } ∧
  State.reset.lcu =
    { triggers := { t0 := { delay := 0, dead := 1000, deadFrom := none }, t1 := { delay := 0, dead := 1000, deadFrom := none } },
      contexts := [], capture := none, missed := 0, records := [], recordNo := 0, policy := .keepOldest, readyLevel := 1,
      timeout := 100 } ∧
  (State.reset.msl.rate = 115200 ∧ (∃ since, State.reset.msl.rx = .waiting since) ∧ State.reset.msl.out = [] ∧
    State.reset.msl.underWay = none ∧
    State.reset.msl.messages = 0 ∧ State.reset.msl.lineErrors = 0 ∧ State.reset.msl.gapDiscards = 0 ∧
    State.reset.msl.outDiscards = 0) ∧
  (∀ m, State.reset.mnu.get m =
    { source := .phys .q0, low := 0, high := 0, mode := .tripOutside, action := .event, enabled := false, tripped := false }) ∧
  State.reset.alc =
    { state := .released, wentLow := 0, guard := 0, pulseOnBridge := false, pulseOnMiss := false, pulseTime := 2,
      levelMin := 20, coalesced := 0 } ∧
  (State.reset.hpt.waitHsel = true ∧ State.reset.hpt.frame = .idle ∧ State.reset.hpt.response = .none ∧ State.reset.hpt.lost = false ∧
    State.reset.hpt.flags = 0 ∧ State.reset.hpt.mask = 0 ∧ State.reset.hpt.attn = false)

/-- The state after reset keeps every law that the statements below say each step keeps. -/
def Obligations.ResetKeepsEveryLaw : Prop :=
  State.reset.AxesOk ∧ State.reset.TrackingOk ∧ State.reset.cmu.Ok ∧ State.reset.cmu.StepsOk ∧ State.reset.fru.Ok ∧
  State.reset.svp.Ok ∧ ContextsOk State.reset.lcu.contexts ∧ State.reset.lcu.EntriesOk ∧ State.reset.RecordsOk ∧
  State.reset.lcu.NumbersRise ∧ State.reset.msl.Ok ∧ State.reset.AlertOk ∧ State.reset.hpt.Ok

/-! ## Laws every step keeps -/

/-- Lock machines and axis states: the lock view follows the link outside OFF, and a REFERENCED axis has it LOCKED (R45). -/
def Obligations.StepKeepsAxes : Prop := ∀ s t : State, s.AxesOk → step s = .next t → t.AxesOk

/-- Tracking states: no axis ever has more than BRIDGE_MAX consecutive bridged samples, and ACC stays in range (R31, R33). -/
def Obligations.StepKeepsTracking : Prop := ∀ s t : State, s.TrackingOk → step s = .next t → t.TrackingOk

/-- Conditions values: N and T_S in STATION lie in their windows, and STALE and the holds are as R77 and R78 state, and no gap
of more than 4 character times lies within the frame being assembled (R72). Step lengths: every K, active or staged, lies
between 6 384 030 and 217 926 890 (R81). -/
def Obligations.StepKeepsConditions : Prop :=
  ∀ s t : State, s.cmu.Ok → step s = .next t → t.cmu.Ok ∧ (s.cmu.StepsOk → t.cmu.StepsOk)

/-- Frame source and timers: EXTERNAL runs the watch timer, INTERNAL the frame timer, and never both (R91 to R96). -/
def Obligations.StepKeepsFrameUnit : Prop := ∀ s t : State, s.fru.Ok → step s = .next t → t.fru.Ok

/-- Servo port: layouts are in order, a VALID slot is LOCKED and neither held nor faulted, and every value fits 44 bits
(R105, R108 to R110); a read in progress has taken its first clock and not its last, with the command bits so far (R104,
R113). -/
def Obligations.StepKeepsServoPort : Prop :=
  ∀ s t : State, s.TrackingOk → s.svp.Ok → step s = .next t → t.svp.Ok

/-- Context queue: never more than 4 contexts, and an exhausted standing one never with another (R122). Captures and records:
an entry neither OK nor BRIDGED carries position 0, and the capture in flight waits for something (R133). -/
def Obligations.StepKeepsContextsAndEntries : Prop :=
  ∀ s t : State, step s = .next t →
    (ContextsOk s.lcu.contexts → ContextsOk t.lcu.contexts) ∧ (s.lcu.EntriesOk → t.lcu.EntriesOk)

/-- Record queue: never more than 32 records, and RECORDS_READY follows the depth; records join at the new end in the order of
their numbers and leave from the old end alone, and no step but a reset does anything else to queue or number (R134, R135). So
the queued numbers rise modulo 65 536, for as long as fewer than 65 536 numbers have been taken since that of the oldest queued
record (the model's reading of the law, log entry 24). -/
def Obligations.StepKeepsRecords : Prop :=
  ∀ s t : State, step s = .next t →
    (s.RecordsOk → t.RecordsOk) ∧
    ((t.lcu.records = [] ∧ t.lcu.recordNo = 0) ∨
     (∃ k, t.lcu.records = s.lcu.records.drop k ∧ t.lcu.recordNo = s.lcu.recordNo) ∨
     (t.lcu.records = s.lcu.records ∧ t.lcu.recordNo = s.lcu.recordNo + 1) ∨
     (∃ k r, t.lcu.records = s.lcu.records.drop k ++ [r] ∧ r.number = s.lcu.recordNo ∧
       t.lcu.recordNo = s.lcu.recordNo + 1)) ∧
    (s.lcu.NumbersRise → (∀ r ∈ s.lcu.records, r.number ≠ s.lcu.recordNo + 1) → t.lcu.NumbersRise)

/-- Microscope link: at most 4 outgoing messages, the head one being sent (R145); a message being assembled has a LEN of 1..23
and is not complete (R142). -/
def Obligations.StepKeepsMicroLink : Prop := ∀ s t : State, s.msl.Ok → step s = .next t → t.msl.Ok

/-- ALERT: while a guarded axis is FAULTED or a tripped monitor has the action ALERT, the part is in LEVEL and drives the
line low; a level whose minimum is over ends with its condition (R156, R157). -/
def Obligations.StepKeepsAlert : Prop := ∀ s t : State, s.AlertOk → step s = .next t → t.AlertOk ∧
  (levelTrue t → t.alc.drive = true)

/-- Host port: ATTN is asserted exactly while a flag is set whose enable is set (R169); no frame is assembled while the port
waits for HSEL, and one being received has taken a bit and is no FETCH frame (R162, R165, R172). -/
def Obligations.StepKeepsHostPort : Prop := ∀ s t : State, s.hpt.Ok → step s = .next t → t.hpt.Ok

/-! ## Formats and arithmetic -/

/-- The bits between the start and the end of a frame on a sample link arrive as one frame; a frame that a reset has discarded
does not, and assembly begins afresh at the next start. The 48 bits of a frame carry SIN, COS, SEQ, MARK, CLIP and the CRC-8 of
the 40 bits before it, and are read back as those fields; and a good frame with any one of its bits inverted is a bad frame
(R2, R3, R17, R174, Formats; that a frame's bits arrive as line events is the model's choice, log entry 19). -/
def Obligations.SampleFramesCarryTheirFields : Prop :=
  (∀ (s : State) (a : Axis),
    lineStep (.sampleStart a) s = .next (withSlr s a { s.slr.get a with frame := some [] }) ∧
    (∀ bits, (s.slr.get a).frame = some bits →
      (∀ b, lineStep (.sampleBit a b) s = .next (withSlr s a { s.slr.get a with frame := some (bits ++ [b]) })) ∧
      lineStep (.sampleEnd a) s = exec (.sampleFrame a bits) (withSlr s a { s.slr.get a with frame := none })) ∧
    ((s.slr.get a).frame = none → (∀ b, lineStep (.sampleBit a b) s = .next s) ∧ lineStep (.sampleEnd a) s = .next s) ∧
    (∀ low t, exec (.powerOnReset low) s = .next t → (t.slr.get a).frame = none)) ∧
  crc8 [] = 0 ∧
  (∀ (bits : List Bool) (b : Bool), crc8 (bits ++ [b]) =
    if (crc8 bits).getLsbD 7 = b then crc8 bits <<< 1 else (crc8 bits <<< 1) ^^^ 0x07) ∧
  crc8 (bytesToBits [0x31, 0x32, 0x33, 0x34, 0x35, 0x36, 0x37, 0x38, 0x39]) = 0xF4 ∧
  (∀ (f : SampleFields) (payload : List Bool),
    payload = signedField 16 f.sin ++ signedField 16 f.cos ++ field 6 f.seq.toNat ++ [f.mark, f.clip] →
    sampleBits f = payload ++ field 8 (crc8 payload).toNat) ∧
  (∀ f : SampleFields, -32768 ≤ f.sin → f.sin ≤ 32767 → -32768 ≤ f.cos → f.cos ≤ 32767 →
    (sampleBits f).length = 48 ∧ parseSample (sampleBits f) = some f) ∧
  ∀ (bits : List Bool) (f : SampleFields) (i : Nat), parseSample bits = some f → i < 48 →
    parseSample (bits.set i (!(bits.getD i false))) = none

/-- The phase is 512 × θ / 2π rounded to nearest, a tie upward, modulo 512, for the exact angle θ in [0, 2π) of the point
(c2, s1) (R25). -/
def Obligations.PhaseIsExactlyRounded : Prop :=
  ∀ s1 c2 : Int, (s1 ≠ 0 ∨ c2 ≠ 0) →
    ∀ θ : ℝ, 0 ≤ θ → θ < 2 * Real.pi →
      (c2 : ℝ) = Real.sqrt ((c2 : ℝ) ^ 2 + (s1 : ℝ) ^ 2) * Real.cos θ →
      (s1 : ℝ) = Real.sqrt ((c2 : ℝ) ^ 2 + (s1 : ℝ) ^ 2) * Real.sin θ →
      ((phaseOf s1 c2).toNat : Int) = ⌊512 * θ / (2 * Real.pi) + 1 / 2⌋ % 512

/-- Division rounds to nearest, half away from zero (scope file, Arithmetic); the corrected pair takes its three steps, each
rounded and clamped (R20); a probe's temperature is its two-point conversion rounded once (R74); and the codings of numbers and
enumerated values, most significant bit and byte first (R175, Formats; that MANUAL, AWAITING and STATION are 0, 1 and 2 is
read from the order in which R68 uses them, log entry 9). -/
def Obligations.RoundingCorrectionAndCodings : Prop :=
  (∀ n d : Int, d ≠ 0 →
    2 * (n - d * roundDiv n d).natAbs ≤ d.natAbs ∧
    (2 * (n - d * roundDiv n d).natAbs = d.natAbs → n.natAbs < (d * roundDiv n d).natAbs)) ∧
  (∀ (k : Correction) (sin cos s0 c0 q0 s1 c1 : Int),
    s0 = roundDiv ((sin - k.os) * k.gs) 16384 → s1 = max (-32768) (min 32767 s0) →
    c0 = roundDiv ((cos - k.oc) * k.gc) 16384 → c1 = max (-32768) (min 32767 c0) →
    q0 = roundDiv (16384 * c1 + s1 * k.q) 16384 →
    correctPair k sin cos = {
      s1 := s1, c2 := max (-32768) (min 32767 q0)
      clamped := decide (s1 ≠ s0 ∨ c1 ≠ c0 ∨ max (-32768) (min 32767 q0) ≠ q0) }) ∧
  correctPair { os := 240, oc := -120, gs := 18022, gc := 15565, q := 300 } 10240 (-2000) =
    { s1 := 11000, c2 := -1585, clamped := false } ∧
  (∀ (c : ProbeCal) (raw : Nat), c.c1 ≠ c.c2 → c.convert raw = roundDiv
    (c.tc1 * ((c.c2 : Int) - c.c1) + ((c.tc2 : Int) - c.tc1) * ((raw : Int) - c.c1)) ((c.c2 : Int) - c.c1)) ∧
  ({ c1 := 12000, tc1 := 15000, c2 := 52000, tc2 := 25000 } : ProbeCal).convert 32600 = 20150 ∧
  (∀ w v : Nat, natBits w v = field w v) ∧
  (∀ bytes : List Byte, bytesToBits bytes = bytes.flatMap (fun b => field 8 b.toNat)) ∧
  (∀ n v : Nat, (natBytes n v).length = n ∧ bytesToNat (natBytes n v) = v % 256 ^ n) ∧
  (∀ (n : Nat) (v : Int), 0 < n → -(2 ^ (8 * n - 1) : Int) ≤ v → v < (2 ^ (8 * n - 1) : Int) →
    (intBytes n v).length = n ∧ bytesToInt (intBytes n v) = v) ∧
  [LinkState.down, .acquiring, .locked].map LinkState.code = [0, 1, 2] ∧
  [AxisState.off, .unreferenced, .armed, .referenced, .faulted].map AxisState.code = [0, 1, 2, 3, 4] ∧
  [MarkDir.positive, .negative, .any].map MarkDir.code = [0, 1, 2] ∧
  [Cause.link, .dropout, .beam, .step, .range].map Cause.index = [0, 1, 2, 3, 4] ∧
  [Status.ok, .bridged, .notValid, .tooOld, .lost, .datum, .timeout].map Status.code = [0, 1, 2, 3, 4, 5, 6] ∧
  [EdgeSelect.rise, .fall, .both].map EdgeSelect.code = [0, 1, 2] ∧
  [CondSource.manual, .awaiting, .station].map CondSource.code = [0, 1, 2] ∧
  (∀ start done, [AlertState.released, .pulse start, .gap start, .level done].map AlertState.code = [0, 1, 2, 3]) ∧
  six.map Source.toNat = [0, 1, 2, 3, 4, 5] ∧ [false, true].map flagByte = [0, 1]

/-! ## Sample path -/

/-- A receiver in DOWN: a good frame starts a run of 1 and the phase unit is given nothing; a bad frame is counted, the link
stays in DOWN and the silence timer does not run (R6, R14). -/
def Obligations.FramesTakenInDown : Prop :=
  ∀ (s : State) (a : Axis) (bits : List Bool), (s.slr.get a).link = .down → (s.slr.get a).Ok →
    (∀ f, parseSample bits = some f →
      exec (.sampleFrame a bits) s = .next (withSlr s a { s.slr.get a with
        link := .acquiring, goodRun := 1, lastSeq := some f.seq, silence := some s.tick,
        goodFrames := (s.slr.get a).goodFrames + 1 })) ∧
    (parseSample bits = none →
      ∃ t, exec (.sampleFrame a bits) s = .next t ∧
        t = withSlr s a { s.slr.get a with crcErrors := min 65535 ((s.slr.get a).crcErrors + 1) } ∧
        (t.slr.get a).link = .down ∧ (t.slr.get a).silence = none)

/-- A receiver in ACQUIRING: each frame restarts the silence timer; the next SEQ lengthens the run, any other good frame
starts it anew, a bad frame empties it, and nothing is handed over before the sixteenth (R7, R14). -/
def Obligations.FramesTakenInAcquiring : Prop :=
  ∀ (s : State) (a : Axis) (bits : List Bool), (s.slr.get a).link = .acquiring →
    (∀ f, parseSample bits = some f → 1 ≤ (s.slr.get a).goodRun → (s.slr.get a).lastSeq = some (f.seq - 1) →
      (s.slr.get a).goodRun ≠ 15 →
      exec (.sampleFrame a bits) s = .next (withSlr s a { s.slr.get a with
        goodRun := (s.slr.get a).goodRun + 1, lastSeq := some f.seq, silence := some s.tick,
        goodFrames := (s.slr.get a).goodFrames + 1 })) ∧
    (∀ f, parseSample bits = some f → ((s.slr.get a).goodRun = 0 ∨ (s.slr.get a).lastSeq ≠ some (f.seq - 1)) →
      exec (.sampleFrame a bits) s = .next (withSlr s a { s.slr.get a with
        goodRun := 1, lastSeq := some f.seq, silence := some s.tick,
        goodFrames := (s.slr.get a).goodFrames + 1 })) ∧
    (parseSample bits = none →
      exec (.sampleFrame a bits) s = .next (withSlr s a { s.slr.get a with
        goodRun := 0, silence := some s.tick, crcErrors := min 65535 ((s.slr.get a).crcErrors + 1) }))

/-- The state with contributions added to the sample tally of an axis (R13, R97). -/
def Sys2Proof.Claims.contributed (s : State) (a : Axis) (n : Nat) : State :=
  { s with fru := { s.fru with checks := s.fru.checks.set a { s.fru.checks.get a with
      tally := min 16777215 ((s.fru.checks.get a).tally + n) } } }

/-- The receiver's part of every frame in LOCKED, seen with the axis OFF so that its hand-offs are discarded (R18): the
sixteenth frame enters LOCKED, and the classes of R9 with the bad-run limit of R11, which a frame that fails to parse, one out
of order and a duplicate can all bring about (R8 to R11, R13, R14). -/
def Obligations.FramesTakenInLocked : Prop :=
  ∀ (s : State) (a : Axis) (bits : List Bool), (s.phu.get a).state = .off →
    (∀ f, parseSample bits = some f → (s.slr.get a).link = .acquiring → (s.slr.get a).goodRun = 15 →
      (s.slr.get a).lastSeq = some (f.seq - 1) →
      exec (.sampleFrame a bits) s = .next (contributed (withSlr s a { s.slr.get a with
        link := .locked, goodRun := 16, badRun := 0, lastSeq := some f.seq, silence := some s.tick,
        goodFrames := (s.slr.get a).goodFrames + 1 }) a 1)) ∧
    (∀ f last, parseSample bits = some f → (s.slr.get a).link = .locked → (s.slr.get a).lastSeq = some last →
      (f.seq - (last + 1)).toNat ≤ 31 →
      ∃ t, exec (.sampleFrame a bits) s = .next t ∧
        t.slr = s.slr.set a { s.slr.get a with
          lastSeq := some f.seq, badRun := 0, silence := some s.tick, goodFrames := (s.slr.get a).goodFrames + 1,
          gaps := if (f.seq - (last + 1)).toNat = 0 then (s.slr.get a).gaps
            else min 65535 ((s.slr.get a).gaps + (f.seq - (last + 1)).toNat) } ∧
        (t.fru.checks.get a).tally =
          min 16777215 ((s.fru.checks.get a).tally + (f.seq - (last + 1)).toNat + 1) ∧
        t = { s with slr := t.slr, fru := { s.fru with checks := s.fru.checks.set a (t.fru.checks.get a) } }) ∧
    (∀ f last, parseSample bits = some f → (s.slr.get a).link = .locked → (s.slr.get a).lastSeq = some last →
      32 ≤ (f.seq - (last + 1)).toNat → (s.slr.get a).badRun + 1 < (s.slr.get a).badRunLimit →
      exec (.sampleFrame a bits) s = .next (withSlr s a { s.slr.get a with
        lastSeq := if (f.seq - (last + 1)).toNat = 63 then some last else some (last + 1)
        badRun := (s.slr.get a).badRun + 1, silence := some s.tick, goodFrames := (s.slr.get a).goodFrames + 1,
        outOfOrder := min 65535 ((s.slr.get a).outOfOrder + 1) })) ∧
    (∀ last, parseSample bits = none → (s.slr.get a).link = .locked → (s.slr.get a).lastSeq = some last →
      (s.slr.get a).badRun + 1 < (s.slr.get a).badRunLimit →
      exec (.sampleFrame a bits) s = .next (withSlr s a { s.slr.get a with
        lastSeq := some (last + 1), badRun := (s.slr.get a).badRun + 1, silence := some s.tick,
        crcErrors := min 65535 ((s.slr.get a).crcErrors + 1) })) ∧
    (parseSample bits = none → (s.slr.get a).link = .locked →
      (s.slr.get a).badRunLimit ≤ (s.slr.get a).badRun + 1 →
      exec (.sampleFrame a bits) s = .next (withSlr s a { s.slr.get a with
        link := .down, lastSeq := none, goodRun := 0, badRun := 0, silence := none,
        crcErrors := min 65535 ((s.slr.get a).crcErrors + 1),
        lockLosses := min 255 ((s.slr.get a).lockLosses + 1) })) ∧
    (∀ f last, parseSample bits = some f → (s.slr.get a).link = .locked → (s.slr.get a).lastSeq = some last →
      32 ≤ (f.seq - (last + 1)).toNat → (s.slr.get a).badRunLimit ≤ (s.slr.get a).badRun + 1 →
      exec (.sampleFrame a bits) s = .next (withSlr s a { s.slr.get a with
        link := .down, lastSeq := none, goodRun := 0, badRun := 0, silence := none,
        goodFrames := (s.slr.get a).goodFrames + 1, outOfOrder := min 65535 ((s.slr.get a).outOfOrder + 1),
        lockLosses := min 255 ((s.slr.get a).lockLosses + 1) }))

/-- A frame in sequence on a LOCKED link whose axis is not OFF and whose corrected pair is not LOW: its fields, its corrected
pair, its phase and its instant. -/
structure Sys2Proof.Claims.SampleTaken (s : State) (a : Axis) (bits : List Bool) (f : SampleFields) (x : Corrected)
    (p : BitVec 9) (tn : Tick) : Prop where
  good : parseSample bits = some f
  locked : (s.slr.get a).link = .locked
  inSequence : (s.slr.get a).lastSeq = some (f.seq - 1)
  on : (s.phu.get a).state ≠ .off
  pair : x = correctPair (s.phu.get a).correction f.sin f.cos
  notLow : x.r2 ≠ 0 ∧ ((s.phu.get a).ampLow : Int) * (s.phu.get a).ampLow ≤ x.r2
  phase : p = phaseOf x.s1 x.c2
  instant : tn = s.tick - BitVec.ofNat 48 (s.slr.get a).sampleDelay

/-- What every sample that reaches stage 4 does besides its count: the receiver after a frame in sequence (R9), the marks, the
end of the missing run, which brings a pending BRIDGE_MAX into force (R37), the monitors and ALERT judged where a monitor trips
or the axis faults (R150, R155), and the blocks it does not reach. -/
structure Sys2Proof.Claims.SampleFrameLeft (s t : State) (a : Axis) (f : SampleFields) (x : Corrected) (p : BitVec 9) :
    Prop where
  others : ∀ b, b ≠ a → t.phu.get b = s.phu.get b
  pRef : (t.phu.get a).pRef = some p
  missing : (t.phu.get a).missing = 0
  saturated : (t.phu.get a).saturated = ((s.phu.get a).saturated || x.clamped ||
    decide (((s.phu.get a).ampHigh : Int) * (s.phu.get a).ampHigh < x.r2) || f.clip)
  bridged : (t.phu.get a).bridged = (s.phu.get a).bridged
  budget : (t.phu.get a).bridgeMax = (s.phu.get a).pendingBridgeMax.getD (s.phu.get a).bridgeMax ∧
    (t.phu.get a).pendingBridgeMax = none
  settings : (t.phu.get a).correction = (s.phu.get a).correction ∧ (t.phu.get a).dir = (s.phu.get a).dir ∧
    (t.phu.get a).ampLow = (s.phu.get a).ampLow ∧ (t.phu.get a).ampHigh = (s.phu.get a).ampHigh ∧
    (t.phu.get a).preset = (s.phu.get a).preset ∧ (t.phu.get a).lockView = (s.phu.get a).lockView
  receivers : t.slr = s.slr.set a { s.slr.get a with
    lastSeq := some f.seq, badRun := 0, silence := some s.tick, goodFrames := (s.slr.get a).goodFrames + 1 }
  port : t.hpt = { s.hpt with flags := t.hpt.flags, attn := t.hpt.attn }
  alert : ((∃ m, (s.mnu.get m).tripped = false ∧ (t.mnu.get m).tripped = true ∧ (s.mnu.get m).action = .alert) ∨
      ((s.phu.get a).state = .referenced ∧ (t.phu.get a).state = .faulted) →
        t.alc = ({ s with phu := t.phu, mnu := t.mnu } : State).judgeLevel.alc) ∧
    ((∀ m, (s.mnu.get m).tripped = false → (t.mnu.get m).tripped = true → (s.mnu.get m).action = .event) →
      ((s.phu.get a).state = .referenced → (t.phu.get a).state ≠ .faulted) → t.alc = s.alc)
  blocks : t.tick = s.tick ∧ t.cmu = s.cmu ∧ t.svp = s.svp ∧ t.choices = s.choices ∧ t.pending = s.pending ∧
    t.lines = s.lines
  contribution : t.fru = { s.fru with checks := s.fru.checks.set a { s.fru.checks.get a with
    tally := min 16777215 ((s.fru.checks.get a).tally + 1) } }
  monitors : ∀ m, (s.mnu.get m).source.dependsOn a = false → t.mnu.get m = s.mnu.get m
  judged : t.mnu = (({ s with phu := t.phu } : State).evaluateMonitors a).mnu

/-- The state whose phase units are those of `t`: what the other blocks see of a sample wholly processed (R42). -/
def Sys2Proof.Claims.seen (s t : State) : State := { s with phu := t.phu }

/-- The newest entry of the history of an axis is offered to the capture in flight, after any report of the axis state machine:
the capture unit, the ECHO of a completed capture and the two event flags of the record queue are as the offer leaves them
(R42, R128, R130, R135, R138). -/
def Sys2Proof.Claims.OfferedToCapture (u t : State) (a : Axis) : Prop :=
  ∀ e, (t.phu.get a).history.getLast? = some e →
    t.lcu = (u.offerToCapture a e).lcu ∧ t.msl = (u.offerToCapture a e).msl ∧
    ∀ i, i < 2 → t.hpt.flags.getLsbD i = (u.offerToCapture a e).hpt.flags.getLsbD i

/-- What an integrity loss of a REFERENCED axis, and of one in another state, makes of it, for a given hold value and set of
further causes (R48, R49). -/
structure Sys2Proof.Claims.LossTaken (p q : PhaseUnit) (cause : Cause) (tick : Tick) (hold : Int) (further : BitVec 5) :
    Prop where
  referenced : p.state = .referenced → q.state = .faulted ∧ q.hold = hold ∧
    q.fault = some { first := cause, further := further, tick := tick }
  armed : p.state = .armed → q.state = .unreferenced ∧ q.armed = none ∧ q.fault = p.fault
  faulted : ∀ r, p.state = .faulted → p.fault = some r → q.state = .faulted ∧ q.hold = p.hold ∧
    q.fault = some { r with further := r.further ||| BitVec.ofNat 5 (2 ^ cause.index) }
  unreferenced : p.state = .unreferenced → q.state = .unreferenced ∧ q.fault = p.fault

/-- The change DIR × d of a sample with increment d (R30). -/
def Sys2Proof.Claims.changeOf (u : PhaseUnit) (d : Int) : Int := (match u.dir with | .plus => 1 | .minus => -1) * d

/-- The real samples: an anchoring sample leaves ACC; a counting sample moves it by DIR × d, set to the nearer limit with a RANGE
loss where that leaves the range; a mark that meets the requirement of an ARMED axis loads the armed value; a step violation
leaves ACC and suffers a loss; both of the last two kinds set the last real interval after a REAL entry, and each of the three
ends the missing run. The entry is offered to the capture in flight and the monitors judged on the state that results; a loss
raises AXIS_FAULT or ARM_CANCELLED by the axis state (R26 to R32, R37, R42, R48, R49, R55, R58, R59). -/
def Obligations.SamplesAnchorCountOrViolate : Prop :=
  ∀ (s : State) (a : Axis) (bits : List Bool) (f : SampleFields) (x : Corrected) (p : BitVec 9) (tn : Tick),
    SampleTaken s a bits f x p tn →
    ∃ t, exec (.sampleFrame a bits) s = .next t ∧ SampleFrameLeft s t a f x p ∧
      ((s.phu.get a).pRef = none →
        (t.phu.get a).acc = (s.phu.get a).acc ∧ (t.phu.get a).realRun = 1 ∧
        (t.phu.get a).dLast = (s.phu.get a).dLast ∧ (t.phu.get a).lastInterval = (s.phu.get a).lastInterval ∧
        (t.phu.get a).state = (s.phu.get a).state ∧ (t.phu.get a).epoch = (s.phu.get a).epoch ∧
        (t.phu.get a).history = entered (s.phu.get a).history
          { instant := tn, acc := (s.phu.get a).acc, kind := .real, epoch := (s.phu.get a).epoch } ∧
        EventsRaised s t a false ∧ OfferedToCapture (seen s t) t a) ∧
      (∀ ref, (s.phu.get a).pRef = some ref → (t.phu.get a).lastInterval =
        match (s.phu.get a).history.getLast? with
        | some e => if e.kind = .real ∧ (s.phu.get a).realRun ≠ 0 then some (tn - e.instant).toNat
          else (s.phu.get a).lastInterval
        | none => (s.phu.get a).lastInterval) ∧
      (∀ ref d, (s.phu.get a).pRef = some ref → d = (p - ref).toInt → d.natAbs ≤ 192 →
        InAcc ((s.phu.get a).acc + changeOf (s.phu.get a) d) →
        (t.phu.get a).realRun = min 2 ((s.phu.get a).realRun + 1) ∧
        (t.phu.get a).dLast = (if (s.phu.get a).realRun = 0 then (s.phu.get a).dLast else d) ∧
        EventsRaised s t a false ∧
        (∀ armed, (s.phu.get a).state = .armed → (s.phu.get a).armed = some armed → f.mark = true →
          (armed.direction = .positive → 0 < changeOf (s.phu.get a) d) →
          (armed.direction = .negative → changeOf (s.phu.get a) d < 0) →
          (t.phu.get a).acc = armed.value ∧ (t.phu.get a).state = .referenced ∧ (t.phu.get a).armed = none ∧
          (t.phu.get a).epoch = (s.phu.get a).epoch + 1 ∧ t.mEpoch = mEpochAfter s a ∧
          (t.phu.get a).history = entered (s.phu.get a).history
            { instant := tn, acc := armed.value, kind := .real, epoch := (s.phu.get a).epoch + 1 } ∧
          OfferedToCapture ((seen s t).reportToCapture a .epochChange) t a) ∧
        ((s.phu.get a).state ≠ .armed ∨ f.mark = false ∨
            (∃ armed, (s.phu.get a).armed = some armed ∧
              ((armed.direction = .positive ∧ changeOf (s.phu.get a) d ≤ 0) ∨
               (armed.direction = .negative ∧ 0 ≤ changeOf (s.phu.get a) d))) →
          (t.phu.get a).acc = (s.phu.get a).acc + changeOf (s.phu.get a) d ∧
          (t.phu.get a).state = (s.phu.get a).state ∧ (t.phu.get a).armed = (s.phu.get a).armed ∧
          (t.phu.get a).epoch = (s.phu.get a).epoch ∧ t.mEpoch = s.mEpoch ∧
          (t.phu.get a).fault = (s.phu.get a).fault ∧
          (t.phu.get a).history = entered (s.phu.get a).history
            { instant := tn, acc := (s.phu.get a).acc + changeOf (s.phu.get a) d, kind := .real,
              epoch := (s.phu.get a).epoch } ∧
          OfferedToCapture (seen s t) t a)) ∧
      (∀ ref d limit, (s.phu.get a).pRef = some ref → d = (p - ref).toInt → d.natAbs ≤ 192 →
        InAcc (s.phu.get a).acc → ¬ InAcc ((s.phu.get a).acc + changeOf (s.phu.get a) d) →
        limit = (if 0 < changeOf (s.phu.get a) d then 549755813887 else -549755813888 : Int) →
        (t.phu.get a).acc = limit ∧ (t.phu.get a).realRun = min 2 ((s.phu.get a).realRun + 1) ∧
        (t.phu.get a).dLast = (if (s.phu.get a).realRun = 0 then (s.phu.get a).dLast else d) ∧
        (t.phu.get a).epoch = (s.phu.get a).epoch ∧ t.mEpoch = s.mEpoch ∧
        (t.phu.get a).history = entered (s.phu.get a).history
          { instant := tn, acc := limit, kind := .real, epoch := (s.phu.get a).epoch } ∧
        LossTaken (s.phu.get a) (t.phu.get a) .range tn (s.phu.get a).acc 0 ∧ EventsRaised s t a true ∧
        OfferedToCapture (if (s.phu.get a).state = .referenced then (seen s t).reportToCapture a .fault else seen s t) t a) ∧
      (∀ ref d, (s.phu.get a).pRef = some ref → d = (p - ref).toInt → 192 < d.natAbs →
        (t.phu.get a).acc = (s.phu.get a).acc ∧ (t.phu.get a).dLast = 0 ∧ (t.phu.get a).realRun = 1 ∧
        (t.phu.get a).epoch = (s.phu.get a).epoch ∧ t.mEpoch = s.mEpoch ∧
        (t.phu.get a).history = entered (s.phu.get a).history
          { instant := tn, acc := (s.phu.get a).acc, kind := .real, epoch := (s.phu.get a).epoch } ∧
        LossTaken (s.phu.get a) (t.phu.get a) .step tn (s.phu.get a).acc 0 ∧ EventsRaised s t a true ∧
        OfferedToCapture (if (s.phu.get a).state = .referenced then (seen s t).reportToCapture a .fault else seen s t) t a)

/-- What a lock lost hand-off makes of an axis that is not OFF: the loss with cause LINK and its event, then the tracking restart;
the other blocks stay, but for what a fault makes of a capture in flight and of ALERT (R19, R45, R48, R49, R59). -/
def Sys2Proof.Claims.LockLostTaken (s t : State) (a : Axis) : Prop :=
  (t.phu.get a).lockView = false ∧ (t.phu.get a).acc = (s.phu.get a).acc ∧ (t.phu.get a).pRef = none ∧
  (t.phu.get a).history = [] ∧ (t.phu.get a).realRun = 0 ∧ (t.phu.get a).missing = 0 ∧ (t.phu.get a).dLast = 0 ∧
  (t.phu.get a).lastInterval = none ∧ (t.phu.get a).epoch = (s.phu.get a).epoch ∧
  (t.phu.get a).bridgeMax = (s.phu.get a).pendingBridgeMax.getD (s.phu.get a).bridgeMax ∧
  (t.phu.get a).pendingBridgeMax = none ∧
  LossTaken (s.phu.get a) (t.phu.get a) .link s.tick (s.phu.get a).acc 0 ∧ EventsRaised s t a true ∧
  (∀ b, b ≠ a → t.phu.get b = s.phu.get b) ∧
  t.tick = s.tick ∧ t.mEpoch = s.mEpoch ∧ t.cmu = s.cmu ∧ t.fru = s.fru ∧ t.svp = s.svp ∧ t.mnu = s.mnu ∧
  t.choices = s.choices ∧ t.pending = s.pending ∧ t.lines = s.lines ∧
  ((s.phu.get a).state ≠ .referenced → t.lcu = s.lcu ∧ t.msl = s.msl ∧ t.alc = s.alc)

/-- What each frame hands to an axis that is not OFF: the sixteenth good one lock gained, a tracking restart with the lock view
LOCKED, and then itself as the sample that anchors; in LOCKED one in sequence itself, one after a gap a GAP notice and then
itself, one that is bad or out of order a BAD notice, a duplicate nothing; the one that brings the bad run to its limit lock
lost, with the loss LINK by the axis state; and a LOW sample becomes a missing sample with reason LOW (R4, R5, R8 to R11, R13,
R19, R24, R45, R48, R49, R59; that the bridge request of a gap is taken before what its sample makes of the level condition is
the model's choice, log entry 27). -/
def Obligations.FramesHandOverToTheAxis : Prop :=
  ∀ (s : State) (a : Axis) (bits : List Bool) (r : Receiver) (tn : Tick), (s.phu.get a).state ≠ .off → r = s.slr.get a →
    tn = s.tick - BitVec.ofNat 48 r.sampleDelay →
    (∀ (f : SampleFields) (u : State), parseSample bits = some f → r.link = .acquiring → r.goodRun = 15 →
      r.lastSeq = some (f.seq - 1) →
      u = withPhu (contributed (withSlr s a { r with
        link := .locked, goodRun := 16, badRun := 0, lastSeq := some f.seq, silence := some s.tick,
        goodFrames := r.goodFrames + 1 }) a 1) a { restarted (s.phu.get a) with lockView := true } →
      exec (.sampleFrame a bits) s = .next (u.takeSample a f tn) ∧
      (∀ x, x = correctPair (s.phu.get a).correction f.sin f.cos →
        x.r2 ≠ 0 → ((s.phu.get a).ampLow : Int) * (s.phu.get a).ampLow ≤ x.r2 →
        ((u.takeSample a f tn).phu.get a).lockView = true ∧
        ((u.takeSample a f tn).phu.get a).pRef = some (phaseOf x.s1 x.c2) ∧
        ((u.takeSample a f tn).phu.get a).acc = (s.phu.get a).acc ∧
        ((u.takeSample a f tn).phu.get a).state = (s.phu.get a).state ∧
        ((u.takeSample a f tn).phu.get a).realRun = 1 ∧ ((u.takeSample a f tn).phu.get a).dLast = 0 ∧
        ((u.takeSample a f tn).phu.get a).lastInterval = none ∧
        ((u.takeSample a f tn).phu.get a).history =
          [{ instant := tn, acc := (s.phu.get a).acc, kind := .real, epoch := (s.phu.get a).epoch }])) ∧
    (∀ (f : SampleFields) (u : State), parseSample bits = some f → r.link = .locked → r.lastSeq = some (f.seq - 1) →
      u = contributed (withSlr s a { r with
        lastSeq := some f.seq, badRun := 0, silence := some s.tick, goodFrames := r.goodFrames + 1 }) a 1 →
      exec (.sampleFrame a bits) s = .next (u.takeSample a f tn)) ∧
    (∀ (f : SampleFields) (last : BitVec 6) (g : Nat) (v : State), parseSample bits = some f → r.link = .locked →
      r.lastSeq = some last → g = (f.seq - (last + 1)).toNat → 1 ≤ g → g ≤ 31 →
      v = (contributed (withSlr s a { r with
        goodFrames := r.goodFrames + 1, gaps := min 65535 (r.gaps + g) }) a g).takeNotice a .gap g tn →
      exec (.sampleFrame a bits) s = .next ((contributed (withSlr v a { v.slr.get a with
        lastSeq := some f.seq, badRun := 0, silence := some s.tick }) a 1).takeSample a f tn)) ∧
    (∀ last, parseSample bits = none → r.link = .locked → r.lastSeq = some last → r.badRun + 1 < r.badRunLimit →
      exec (.sampleFrame a bits) s = .next ((withSlr s a { r with
        lastSeq := some (last + 1), badRun := r.badRun + 1, silence := some s.tick,
        crcErrors := min 65535 (r.crcErrors + 1) }).takeNotice a .bad 1 tn)) ∧
    (∀ (f : SampleFields) (last : BitVec 6), parseSample bits = some f → r.link = .locked → r.lastSeq = some last →
      32 ≤ (f.seq - (last + 1)).toNat → r.badRun + 1 < r.badRunLimit →
      ((f.seq - (last + 1)).toNat ≠ 63 → exec (.sampleFrame a bits) s = .next ((withSlr s a { r with
        lastSeq := some (last + 1), badRun := r.badRun + 1, silence := some s.tick, goodFrames := r.goodFrames + 1,
        outOfOrder := min 65535 (r.outOfOrder + 1) }).takeNotice a .bad 1 tn)) ∧
      ((f.seq - (last + 1)).toNat = 63 → exec (.sampleFrame a bits) s = .next (withSlr s a { r with
        badRun := r.badRun + 1, silence := some s.tick, goodFrames := r.goodFrames + 1,
        outOfOrder := min 65535 (r.outOfOrder + 1) }))) ∧
    (∀ last, (parseSample bits = none ∨ ∃ f, parseSample bits = some f ∧ 32 ≤ (f.seq - (last + 1)).toNat) →
      r.link = .locked → r.lastSeq = some last → r.badRunLimit ≤ r.badRun + 1 →
      ∃ t, exec (.sampleFrame a bits) s = .next t ∧ LockLostTaken s t a ∧
        t = lockLostAt (withSlr s a (t.slr.get a)) a ∧ (t.slr.get a).link = .down ∧
        (t.slr.get a).lastSeq = none ∧ (t.slr.get a).silence = none ∧
        (t.slr.get a).lockLosses = min 255 (r.lockLosses + 1)) ∧
    (∀ (f : SampleFields) (x : Corrected), x = correctPair (s.phu.get a).correction f.sin f.cos →
      (x.r2 = 0 ∨ x.r2 < ((s.phu.get a).ampLow : Int) * (s.phu.get a).ampLow) →
      s.takeSample a f tn = s.takeNotice a .low 1 tn)

/-- The instant of the k-th bridged sample of a notice of count g that carries `tn`: the smaller of two, as R35 gives them for
a GAP notice and for the others. -/
def Sys2Proof.Claims.placed (reason : MissingReason) (prev tn : Tick) (interval g k : Nat) : Tick :=
  let x : Tick := prev + BitVec.ofNat 48 (if reason = .gap then k * interval else interval)
  let y : Tick := if reason = .gap then tn - BitVec.ofNat 48 (g - k + 1) else tn
  if 0 < (x - y).toInt then y else x

/-- One bridged sample of a notice that carries `tn`, placed at `place`: ACC moves by DIR × d_last and p_ref by d_last, a change that
would leave the range sets ACC to the nearer limit and is a RANGE loss taken with ACC as it stood, and the BRIDGED entry is
offered to the capture in flight and the monitors (R31, R34, R42; the hold value within a notice is log entry 11). -/
def Sys2Proof.Claims.bridgedOnce (s : State) (a : Axis) (tn place : Tick) : State :=
  let p := s.phu.get a
  let acc := max (-549755813888) (min 549755813887 (p.acc + changeOf p p.dLast))
  let e : HistEntry := { instant := place, acc := acc, kind := .bridged, epoch := p.epoch }
  let u := if acc = p.acc + changeOf p p.dLast then s else suffers s a .range tn p.acc
  let v := withPhu u a { u.phu.get a with
    acc := acc, pRef := p.pRef.map (fun r => r + BitVec.ofInt 9 p.dLast), missing := p.missing + 1
    history := entered p.history e }
  (v.offerToCapture a e).evaluateMonitors a

/-- A notice that is bridged: what the whole of it makes of the phase unit, whether or not R31 clamps an update (R34, R35, R39). -/
structure Sys2Proof.Claims.BridgedWhole (p q : PhaseUnit) (g interval : Nat) (instants : Nat → Tick) : Prop where
  acc : q.acc = max (-549755813888) (min 549755813887 (p.acc + g * changeOf p p.dLast))
  pRef : q.pRef = p.pRef.map (fun r => r + BitVec.ofInt 9 (g * p.dLast))
  missing : q.missing = p.missing + g
  bridged : q.bridged = true
  tracking : q.dLast = p.dLast ∧ q.lastInterval = some interval ∧ q.realRun = 2
  budget : q.bridgeMax = p.bridgeMax ∧ q.pendingBridgeMax = p.pendingBridgeMax
  epoch : q.epoch = p.epoch
  history : q.history = (List.range g).foldl (fun h k => entered h {
    instant := instants (k + 1)
    acc := max (-549755813888) (min 549755813887 (p.acc + ((k : Int) + 1) * changeOf p p.dLast))
    kind := .bridged, epoch := p.epoch }) p.history

/-- A notice is bridged whole, repeating d_last for each missing sample at its instant, each offered to the capture in flight and
the monitors, with one bridge request at its end; an update that R31 clamps is a RANGE loss, taken with ACC as it stood before
that sample's update (log entry 11), and that the request comes after what the samples have made of the level condition is the
model's choice (log entry 27). Or it fails whole, where a bridged sample would not come after the newest entry too: then
ACC, p_ref, the history and the BRIDGED mark stay, no bridge request is made, the runs are reset, a pending BRIDGE_MAX comes
into force, and the loss is DROPOUT for BAD and GAP and BEAM for LOW. A loss raises AXIS_FAULT or ARM_CANCELLED by the axis
state (R31, R33 to R37, R39, R42, R48, R49, R59). -/
def Obligations.NoticesAreBridgedWholeOrFail : Prop :=
  ∀ (s t : State) (a : Axis) (reason : MissingReason) (g : Nat) (tn : Tick), 1 ≤ g → g ≤ 31 →
    t = s.takeNotice a reason g tn →
    (∀ (e : HistEntry) (interval : Nat), (s.phu.get a).realRun = 2 → (s.phu.get a).missing + g ≤ (s.phu.get a).bridgeMax →
      (s.phu.get a).history.getLast? = some e → (s.phu.get a).lastInterval = some interval →
      0 < (placed reason e.instant tn interval g 1 - e.instant).toInt →
      (∀ u v : State,
        u = (List.range g).foldl (fun x k => bridgedOnce x a tn (placed reason e.instant tn interval g (k + 1))) s →
        v = withPhu u a { u.phu.get a with bridged := true } →
        t = if s.alc.guard.getLsbD a.toNat = true ∧ s.alc.pulseOnBridge = true then pulsed v else v) ∧
      (InAcc (s.phu.get a).acc →
        BridgedWhole (s.phu.get a) (t.phu.get a) g interval (placed reason e.instant tn interval g)) ∧
      (InAcc (s.phu.get a).acc → InAcc ((s.phu.get a).acc + g * changeOf (s.phu.get a) (s.phu.get a).dLast) →
        (t.phu.get a).state = (s.phu.get a).state ∧ (t.phu.get a).fault = (s.phu.get a).fault ∧
        EventsRaised s t a false ∧
        ((∀ m, (s.mnu.get m).enabled = false) → t.alc =
          (if s.alc.guard.getLsbD a.toNat = true ∧ s.alc.pulseOnBridge = true then pulsed s else s).alc) ∧
        (g = 1 → OfferedToCapture (seen s t) t a ∧ t.mnu = ((seen s t).evaluateMonitors a).mnu)) ∧
      (∀ j : Nat, j < g → InAcc ((s.phu.get a).acc + j * changeOf (s.phu.get a) (s.phu.get a).dLast) →
        ¬ InAcc ((s.phu.get a).acc + ((j : Int) + 1) * changeOf (s.phu.get a) (s.phu.get a).dLast) →
        InAcc (s.phu.get a).acc →
        LossTaken (s.phu.get a) (t.phu.get a) .range tn
          ((s.phu.get a).acc + j * changeOf (s.phu.get a) (s.phu.get a).dLast) (if j + 1 < g then 16 else 0) ∧
        EventsRaised s t a true)) ∧
    ((s.phu.get a).realRun ≠ 2 ∨ (s.phu.get a).bridgeMax < (s.phu.get a).missing + g ∨
        (∃ e interval, (s.phu.get a).history.getLast? = some e ∧ (s.phu.get a).lastInterval = some interval ∧
          (placed reason e.instant tn interval g 1 - e.instant).toInt ≤ 0) →
      t = suffers (withPhu s a { s.phu.get a with
        missing := 0, realRun := 0, dLast := 0
        bridgeMax := (s.phu.get a).pendingBridgeMax.getD (s.phu.get a).bridgeMax, pendingBridgeMax := none })
        a (if reason = .low then .beam else .dropout) tn (s.phu.get a).acc ∧
      (t.phu.get a).acc = (s.phu.get a).acc ∧ (t.phu.get a).pRef = (s.phu.get a).pRef ∧
      (t.phu.get a).history = (s.phu.get a).history ∧ (t.phu.get a).lastInterval = (s.phu.get a).lastInterval ∧
      (t.phu.get a).missing = 0 ∧ (t.phu.get a).realRun = 0 ∧ (t.phu.get a).dLast = 0 ∧
      (t.phu.get a).bridged = (s.phu.get a).bridged ∧
      (t.phu.get a).bridgeMax = (s.phu.get a).pendingBridgeMax.getD (s.phu.get a).bridgeMax ∧
      (t.phu.get a).pendingBridgeMax = none ∧
      LossTaken (s.phu.get a) (t.phu.get a) (if reason = .low then .beam else .dropout) tn (s.phu.get a).acc 0 ∧
      EventsRaised s t a true ∧ ((s.phu.get a).state ≠ .referenced → t.alc = s.alc)) ∧
    (∀ b, b ≠ a → t.phu.get b = s.phu.get b) ∧
    t.slr = s.slr ∧ t.fru = s.fru ∧ t.cmu = s.cmu ∧ t.svp = s.svp

/-- The silence timer of a link: in ACQUIRING the link goes to DOWN; in LOCKED lock is lost, and the loss LINK acts by the axis
state with ACC as it stood, before the tracking restart; a fault is reported to the capture in flight and judged for ALERT, and
nothing else of the part changes (R12, R18, R19, R48, R49, R59, R130). That an expiry that is not due leaves the state
unchanged is the model's choice, log entry 5. -/
def Obligations.SilenceLosesLockAndActsByState : Prop :=
  ∀ (s : State) (a : Axis) (since : Tick), (s.slr.get a).silence = some since →
    (¬ hasPassed s.tick since ((s.slr.get a).linkTimeout * 100) → exec (.silenceTimerExpiry a) s = .next s) ∧
    (hasPassed s.tick since ((s.slr.get a).linkTimeout * 100) → (s.slr.get a).link = .acquiring →
      exec (.silenceTimerExpiry a) s = .next (withSlr s a { s.slr.get a with
        link := .down, lastSeq := none, goodRun := 0, badRun := 0, silence := none })) ∧
    (hasPassed s.tick since ((s.slr.get a).linkTimeout * 100) → (s.slr.get a).link = .locked →
      ∃ t, exec (.silenceTimerExpiry a) s = .next t ∧
        t.slr = s.slr.set a { s.slr.get a with
          link := .down, lastSeq := none, goodRun := 0, badRun := 0, silence := none,
          lockLosses := min 255 ((s.slr.get a).lockLosses + 1) } ∧
        ((s.phu.get a).state = .off → t = withSlr s a (t.slr.get a)) ∧
        ((s.phu.get a).state ≠ .off → t = lockLostAt (withSlr s a (t.slr.get a)) a ∧ LockLostTaken s t a) ∧
        (∀ b, b ≠ a → t.phu.get b = s.phu.get b) ∧
        t.tick = s.tick ∧ t.mEpoch = s.mEpoch ∧ t.cmu = s.cmu ∧ t.fru = s.fru ∧ t.svp = s.svp ∧ t.mnu = s.mnu ∧
        ((s.phu.get a).state = .off → t.phu.get a = s.phu.get a ∧ t.hpt = s.hpt ∧ t.lcu = s.lcu ∧ t.alc = s.alc) ∧
        ((s.phu.get a).state = .unreferenced →
          t.phu.get a = { restarted (s.phu.get a) with lockView := false } ∧ t.hpt = s.hpt ∧ t.lcu = s.lcu) ∧
        ((s.phu.get a).state = .armed →
          t.phu.get a = { restarted (s.phu.get a) with lockView := false, state := .unreferenced, armed := none } ∧
          t.hpt = (raised s (7 + a.toNat)).hpt ∧ t.lcu = s.lcu) ∧
        ((s.phu.get a).state = .referenced →
          t.phu.get a = { restarted (s.phu.get a) with
            lockView := false, state := .faulted, hold := (s.phu.get a).acc,
            fault := some { first := .link, further := 0, tick := s.tick } } ∧
          t.hpt.flags.getLsbD (3 + a.toNat) = true) ∧
        (∀ r, (s.phu.get a).state = .faulted → (s.phu.get a).fault = some r →
          t.phu.get a = { restarted (s.phu.get a) with
            lockView := false, fault := some { r with further := r.further ||| 1 } } ∧ t.hpt = s.hpt ∧ t.lcu = s.lcu))

/-- The four monitors at one update of an axis: one that is enabled, untripped and depends on the axis trips when its source is
VALID and its count calls for it, judged for M on the exact sum; every other is left as it was (R148 to R150). -/
def Obligations.MonitorsTripAtUpdates : Prop :=
  ∀ (s : State) (a : Axis) (m : MonitorId),
    ((s.evaluateMonitors a).mnu.get m) = { s.mnu.get m with tripped := (s.mnu.get m).tripped || s.monitorTrips a m } ∧
    (s.monitorTrips a m = true → (s.evaluateMonitors a).hpt.flags.getLsbD (11 + m.toNat) = true) ∧
    (s.monitorTrips a m = true ↔
      (s.mnu.get m).enabled = true ∧ (s.mnu.get m).tripped = false ∧ (s.mnu.get m).source.dependsOn a = true ∧
      (∀ b, (s.mnu.get m).source.dependsOn b = true → (s.phu.get b).state = .referenced ∧ (s.phu.get b).lockView = true) ∧
      ((s.mnu.get m).mode = .tripInside ↔
        (∀ b, (s.mnu.get m).source = .phys b →
          (s.mnu.get m).low ≤ (s.phu.get b).acc ∧ (s.phu.get b).acc ≤ (s.mnu.get m).high) ∧
        ((s.mnu.get m).source = .m →
          2 * (s.mnu.get m).low ≤ (s.phu.get .q0).acc + (s.phu.get .q1).acc ∧
          (s.phu.get .q0).acc + (s.phu.get .q1).acc ≤ 2 * (s.mnu.get m).high) ∧
        ((s.mnu.get m).source = .w →
          (s.mnu.get m).low ≤ (s.phu.get .q0).acc - (s.phu.get .q1).acc ∧
          (s.phu.get .q0).acc - (s.phu.get .q1).acc ≤ (s.mnu.get m).high))) ∧
    (s.evaluateMonitors a).phu = s.phu ∧ (s.evaluateMonitors a).lcu = s.lcu ∧ (s.evaluateMonitors a).svp = s.svp

/-! ## Compensation -/

/-- The update of the K computation that a state owes to `changes` changes: the first starts a computation when none is in
progress, and every other leaves a recomputation pending (R80). -/
def Sys2Proof.Claims.updated (x : Compensation) (tick : Tick) (changes : Nat) : Compensation :=
  { x with
    computing := if x.computing = none ∧ 0 < changes then
        some { inputs := { n := x.n, e := x.e, optics := x.optics }, start := tick } else x.computing
    recompute := x.recompute || decide (x.computing = none ∧ 1 < changes) || decide (x.computing ≠ none ∧ 0 < changes) }

/-- COND_HELD is raised where a hold has gone from clear to set (R77). -/
def Sys2Proof.Claims.heldRaised (s : State) (before after : Compensation) : State :=
  if (before.heldN = false ∧ after.heldN = true) ∨ (before.heldT = false ∧ after.heldT = true) then raised s 19 else s

/-- A character that begins joins the frame being assembled, and a frame has ended when more than 34 722 ticks have passed since
its last character began. Then one that is not 14 good characters with a matching CRC is counted and does nothing else; one
with the SEQ of the last accepted frame is a duplicate; every other is accepted, and N and T_S take their values by their
sources (R68, R72 to R75, R77, R80). That the row of a frame that has not ended, or of another than the one being assembled,
does nothing is the model's choice, log entries 5 and 19. -/
def Obligations.ConditionsFrames : Prop :=
  (∀ (s : State) (byte : Byte) (stopOk : Bool), lineStep (.conditionsCharacter byte stopOk) s =
    .next { s with cmu := { s.cmu with
      frame := s.cmu.frame ++ [{ byte := byte, stopOk := stopOk, began := s.tick }] } }) ∧
  (∀ (s : State) (chars : List CondChar), ¬ frameHasEnded s.tick chars ∨ (s.cmu.frame ≠ [] ∧ s.cmu.frame ≠ chars) →
    exec (.conditionsFrame chars) s = .next s) ∧
  ∀ (s : State) (chars : List CondChar), frameHasEnded s.tick chars → s.cmu.frame = [] ∨ s.cmu.frame = chars →
    (∀ b1 b2 b3 b4 b5 b6 b7 b8 b9 b10 b11 b12 b13 b14 f, parseConditions chars = some f →
      chars.map (fun c => c.byte) = [b1, b2, b3, b4, b5, b6, b7, b8, b9, b10, b11, b12, b13, b14] →
      f.seq = b1 ∧ f.nOk = b2.getLsbD 7 ∧ (∀ k : ProbeId, f.present.getLsbD k.toNat = b2.getLsbD k.toNat) ∧
      f.n = bytesToNat [b3, b4, b5] ∧ f.raw.get .q0 = bytesToNat [b6, b7] ∧ f.raw.get .q1 = bytesToNat [b8, b9] ∧
      f.raw.get .q2 = bytesToNat [b10, b11] ∧ f.raw.get .q3 = bytesToNat [b12, b13]) ∧
    (parseConditions chars = none ↔ chars.length ≠ 14 ∨ (∃ c ∈ chars, c.stopOk = false) ∨
      crc8 (bytesToBits ((chars.take 13).map (fun c => c.byte))) ≠ ((chars.drop 13).map (fun c => c.byte)).headD 0) ∧
    (parseConditions chars = none → exec (.conditionsFrame chars) s =
      .next { s with cmu := { s.cmu with frame := [], crcErrors := min 65535 (s.cmu.crcErrors + 1) } }) ∧
    (∀ f, parseConditions chars = some f → s.cmu.lastSeq = some f.seq → exec (.conditionsFrame chars) s =
      .next { s with cmu := { s.cmu with frame := [], duplicates := min 65535 (s.cmu.duplicates + 1) } }) ∧
    (∀ f, parseConditions chars = some f → s.cmu.lastSeq ≠ some f.seq →
      ∃ x : Compensation,
        (∀ k, x.readings.get k = if f.present.getLsbD k.toNat = true then
          some { tk := (s.cmu.probes.get k).convert (f.raw.get k),
                 included := decide ((s.cmu.tMin : Int) ≤ (s.cmu.probes.get k).convert (f.raw.get k)) &&
                   decide ((s.cmu.probes.get k).convert (f.raw.get k) ≤ (s.cmu.tMax : Int)) }
          else none) ∧
        (s.cmu.nSource = .manual → x.n = s.cmu.n ∧ x.nSource = .manual ∧ x.heldN = s.cmu.heldN) ∧
        (s.cmu.nSource ≠ .manual → (f.nOk = true ∧ s.cmu.nMin ≤ f.n ∧ f.n ≤ s.cmu.nMax) →
          x.n = f.n ∧ x.nSource = .station ∧ x.heldN = false) ∧
        (s.cmu.nSource ≠ .manual → ¬ (f.nOk = true ∧ s.cmu.nMin ≤ f.n ∧ f.n ≤ s.cmu.nMax) →
          x.n = s.cmu.n ∧ x.nSource = s.cmu.nSource ∧ (s.cmu.nSource = .station → x.heldN = true) ∧
          (s.cmu.nSource = .awaiting → x.heldN = s.cmu.heldN)) ∧
        (s.cmu.tSource = .manual → x.tS = s.cmu.tS ∧ x.tSource = .manual ∧ x.heldT = s.cmu.heldT ∧ x.e = s.cmu.e) ∧
        (s.cmu.tSource ≠ .manual → includedReadings x.readings ≠ [] →
          x.tS = roundDiv (includedReadings x.readings).sum (includedReadings x.readings).length ∧
          x.tSource = .station ∧ x.heldT = false ∧ x.e = s.cmu.alpha * (x.tS - 20000)) ∧
        (s.cmu.tSource ≠ .manual → includedReadings x.readings = [] →
          x.tS = s.cmu.tS ∧ x.tSource = s.cmu.tSource ∧ x.e = s.cmu.e ∧ (s.cmu.tSource = .station → x.heldT = true) ∧
          (s.cmu.tSource = .awaiting → x.heldT = s.cmu.heldT)) ∧
        x = { s.cmu with
          frame := [], accepted := s.cmu.accepted + 1, lastSeq := some f.seq, readings := x.readings,
          n := x.n, nSource := x.nSource, heldN := x.heldN, tS := x.tS, tSource := x.tSource, heldT := x.heldT, e := x.e,
          staleness := if s.cmu.nSource ≠ .manual ∨ s.cmu.tSource ≠ .manual then some s.tick else s.cmu.staleness,
          stale := if s.cmu.nSource ≠ .manual ∨ s.cmu.tSource ≠ .manual then false else s.cmu.stale } ∧
        exec (.conditionsFrame chars) s = .next (heldRaised
          { s with cmu := updated x s.tick (if x.n ≠ s.cmu.n ∨ x.e ≠ s.cmu.e then 1 else 0) } s.cmu x))

/-- A K computation in progress completes: the step lengths of its inputs, rounded once, are staged as newer, and a pending
recomputation starts with the values of this moment (R67, R80 to R82; that the completion may be taken at any moment of the
computation, and that one with no computation in progress changes nothing, are the model's choices, log entries 4 and 5). -/
def Obligations.KComputationCompletes : Prop :=
  ∀ s : State,
    (s.cmu.computing = none → exec .kComputationComplete s = .next s) ∧
    (∀ c, s.cmu.computing = some c →
      ∃ k : KSet,
        (∀ a, k.get a = (roundDiv (((c.inputs.optics.get a).lambda * 128 / (c.inputs.optics.get a).fold : Nat) * 10 ^ 21)
          ((10 ^ 9 + (if (c.inputs.optics.get a).vacuum = true then 0 else (c.inputs.n : Int))) *
            (10 ^ 12 + (if (c.inputs.optics.get a).thermal = true then c.inputs.e else 0)))).toNat) ∧
        exec .kComputationComplete s = .next { s with cmu := { s.cmu with
          staged := some k
          computing := if s.cmu.recompute = true then
            some { inputs := { n := s.cmu.n, e := s.cmu.e, optics := s.cmu.optics }, start := s.tick } else none
          recompute := false } })

/-- SET_OPTICS, SET_EXPANSION and SET_PROBE: their checks, their settings, and an update where the optics of the axis or E
have changed (R66, R68, R70, R76). -/
def Obligations.CompensationSettings : Prop :=
  (∀ (s : State) (a l2 l1 l0 f v t : Byte) (extra : List Byte),
    exec (.setOptics (frame [a, l2, l1, l0, f, v, t] extra)) s = .next (checked s 0x16
      (a.toNat ≤ 3 ∧ 400000 ≤ bytesToNat [l2, l1, l0] ∧ bytesToNat [l2, l1, l0] ≤ 1700000 ∧
        f.toNat ∈ [1, 2, 4, 8] ∧ v.toNat ≤ 1 ∧ t.toNat ≤ 1)
      { s with cmu := (updated
          { s.cmu with optics := (s.cmu.optics.set (quadAt a)
              { lambda := bytesToNat [l2, l1, l0], fold := f.toNat, vacuum := isSet v, thermal := isSet t }) } s.tick
          (if s.cmu.optics.get (quadAt a) ≠
              { lambda := bytesToNat [l2, l1, l0], fold := f.toNat, vacuum := isSet v, thermal := isSet t }
            then 1 else 0)) })) ∧
  (∀ (s : State) (b2 b1 b0 : Byte) (extra : List Byte),
    exec (.setExpansion (frame [b2, b1, b0] extra)) s = .next (checked s 0x18
      (-50000 ≤ bytesToInt [b2, b1, b0] ∧ bytesToInt [b2, b1, b0] ≤ 50000)
      { s with cmu := (updated
          { s.cmu with alpha := bytesToInt [b2, b1, b0], e := bytesToInt [b2, b1, b0] * (s.cmu.tS - 20000) } s.tick
          (if bytesToInt [b2, b1, b0] * (s.cmu.tS - 20000) ≠ s.cmu.e then 1 else 0)) })) ∧
  (∀ (s : State) (p c11 c10 c21 c20 t11 t10 t21 t20 : Byte) (extra : List Byte),
    exec (.setProbe (frame [p, c11, c10, c21, c20, t11, t10, t21, t20] extra)) s = .next (checked s 0x1A
      (1 ≤ p.toNat ∧ p.toNat ≤ 4 ∧ bytesToNat [c11, c10] ≠ bytesToNat [c21, c20] ∧
        bytesToNat [t11, t10] ≤ 50000 ∧ bytesToNat [t21, t20] ≤ 50000)
      { s with cmu := { s.cmu with probes := (s.cmu.probes.set (quadAt (p - 1))
          { c1 := bytesToNat [c11, c10], tc1 := bytesToNat [t11, t10], c2 := bytesToNat [c21, c20],
            tc2 := bytesToNat [t21, t20] }) } }))

/-- SET_CONDITIONS makes a quantity MANUAL with its value and no hold, or turns it from MANUAL to AWAITING with its hold set,
and leaves it otherwise; SET_PLAUSIBILITY is refused STATE where a window would exclude a value in use, and a timer that has
outrun a shorter timeout expires at once (R69, R71, R77, R78; that a command changing N and E makes two updates, after both
settings are applied, is the model's choice, log entry 14, and that a second quantity given to the station leaves the staleness
timer as it stands is log entry 26). -/
def Obligations.ConditionsSettings : Prop :=
  (∀ (s : State) (ns n2 n1 n0 ts t1 t0 : Byte) (extra : List Byte),
    ∃ x : Compensation,
      (ns.toNat = 0 → x.nSource = .manual ∧ x.n = bytesToNat [n2, n1, n0] ∧ x.heldN = false) ∧
      (ns.toNat ≠ 0 → s.cmu.nSource = .manual → x.nSource = .awaiting ∧ x.n = s.cmu.n ∧ x.heldN = true) ∧
      (ns.toNat ≠ 0 → s.cmu.nSource ≠ .manual →
        x.nSource = s.cmu.nSource ∧ x.n = s.cmu.n ∧ x.heldN = s.cmu.heldN) ∧
      (ts.toNat = 0 → x.tSource = .manual ∧ x.tS = bytesToNat [t1, t0] ∧ x.heldT = false ∧
        x.e = s.cmu.alpha * ((bytesToNat [t1, t0] : Int) - 20000)) ∧
      (ts.toNat ≠ 0 → s.cmu.tSource = .manual →
        x.tSource = .awaiting ∧ x.tS = s.cmu.tS ∧ x.heldT = true ∧ x.e = s.cmu.e) ∧
      (ts.toNat ≠ 0 → s.cmu.tSource ≠ .manual →
        x.tSource = s.cmu.tSource ∧ x.tS = s.cmu.tS ∧ x.heldT = s.cmu.heldT ∧ x.e = s.cmu.e) ∧
      (x.nSource = .manual ∧ x.tSource = .manual → x.staleness = none ∧ x.stale = false) ∧
      (x.nSource ≠ .manual ∨ x.tSource ≠ .manual →
        s.cmu.nSource ≠ .manual ∨ s.cmu.tSource ≠ .manual →
          x.staleness = s.cmu.staleness ∧ x.stale = s.cmu.stale) ∧
      (x.nSource ≠ .manual ∨ x.tSource ≠ .manual →
        s.cmu.nSource = .manual ∧ s.cmu.tSource = .manual →
          x.staleness = some s.tick ∧ x.stale = s.cmu.stale) ∧
      x = { s.cmu with
        nSource := x.nSource, n := x.n, heldN := x.heldN, tSource := x.tSource, tS := x.tS, heldT := x.heldT, e := x.e,
        staleness := x.staleness, stale := x.stale } ∧
      exec (.setConditions (frame [ns, n2, n1, n0, ts, t1, t0] extra)) s = .next (checked s 0x17
        (ns.toNat ≤ 1 ∧ bytesToNat [n2, n1, n0] ≤ 999999 ∧ ts.toNat ≤ 1 ∧ bytesToNat [t1, t0] ≤ 50000)
        (heldRaised { s with cmu := (updated x s.tick
          ((if x.n ≠ s.cmu.n then 1 else 0) + (if x.e ≠ s.cmu.e then 1 else 0))) } s.cmu x))) ∧
  (∀ (s : State) (a2 a1 a0 b2 b1 b0 c1 c0 d1 d0 tmo : Byte) (extra : List Byte),
    exec (.setPlausibility (frame [a2, a1, a0, b2, b1, b0, c1, c0, d1, d0, tmo] extra)) s = .next (taken s
      (if ¬ (bytesToNat [a2, a1, a0] ≤ bytesToNat [b2, b1, b0] ∧ bytesToNat [b2, b1, b0] ≤ 999999 ∧
            bytesToNat [c1, c0] ≤ bytesToNat [d1, d0] ∧ bytesToNat [d1, d0] ≤ 50000 ∧ 1 ≤ tmo.toNat ∧ tmo.toNat ≤ 60) then
          refused s 0x19 .badValue
        else if (s.cmu.nSource = .station ∧
              ¬ (bytesToNat [a2, a1, a0] ≤ s.cmu.n ∧ s.cmu.n ≤ bytesToNat [b2, b1, b0])) ∨
            (s.cmu.tSource = .station ∧
              ¬ ((bytesToNat [c1, c0] : Int) ≤ s.cmu.tS ∧ s.cmu.tS ≤ bytesToNat [d1, d0])) then
          refused s 0x19 .state
        else accepted s 0x19 []
          (if ranOut s.tick s.cmu.staleness (tmo.toNat * 100000000) = true then
            { (if s.cmu.stale = true then s else raised s 18) with cmu := { s.cmu with
              nMin := bytesToNat [a2, a1, a0], nMax := bytesToNat [b2, b1, b0], tMin := bytesToNat [c1, c0],
              tMax := bytesToNat [d1, d0], condTimeout := tmo.toNat, stale := true, staleness := none } }
          else { s with cmu := { s.cmu with
              nMin := bytesToNat [a2, a1, a0], nMax := bytesToNat [b2, b1, b0], tMin := bytesToNat [c1, c0],
              tMax := bytesToNat [d1, d0], condTimeout := tmo.toNat } }))))

/-! ## Frame events and the servo port -/

/-- The snapshot a frame event of a kind takes from a state, with the K sets as a given Compensation Unit holds them
(R107 to R111). -/
def Sys2Proof.Claims.snapshotOf (s : State) (kind : FrameKind) (k : Compensation) : Snapshot where
  header := {
    frameNo := BitVec.ofNat 12 s.fru.frameNo.toNat, compGen := BitVec.ofNat 4 k.compGen.toNat,
    layoutGen := s.svp.layoutGen, internal := decide (kind = .timer),
    condHeld := s.cmu.heldN || s.cmu.heldT || s.cmu.stale, alertOwn := s.alc.drive }
  slots := s.svp.layout.map (fun d => ({ s with cmu := k } : State).slotOf d)

/-- The sample-count check of an axis fails at a frame event (R98). -/
def Sys2Proof.Claims.checkFails (s : State) (a : Axis) : Prop :=
  (s.fru.checks.get a).expect ≠ 0 ∧ (s.fru.checks.get a).lockAtLast = true ∧ (s.slr.get a).link = .locked ∧
    (s.fru.checks.get a).tol < (((s.fru.checks.get a).tally : Int) - (s.fru.checks.get a).expect).natAbs

/-- What a frame event of a kind makes of a state: `u` is the state with the number advanced and a staged layout activated.
The K set is activated before the snapshot or after it, which the spec leaves open (log entry 3). -/
structure Sys2Proof.Claims.FrameEventDone (s u t : State) (kind : FrameKind) : Prop where
  base : u = { s with
    fru := { s.fru with frameNo := s.fru.frameNo + 1 }
    svp := (match s.svp.staged with
      | some l => { s.svp with layout := l, layoutGen := s.svp.layoutGen + 1, staged := none }
      | none => s.svp) }
  noStaged : s.cmu.staged = none → t.cmu = s.cmu
  activated : ∀ k, s.cmu.staged = some k →
    t.cmu = { s.cmu with active := k, compGen := s.cmu.compGen + 1, staged := none }
  snapshot : t.svp.snapshot = some (snapshotOf u kind s.cmu) ∨ t.svp.snapshot = some (snapshotOf u kind t.cmu)
  port : t.svp = { u.svp with snapshot := t.svp.snapshot, delivered := false, read := t.svp.read }
  abandoned : (∃ bits, s.svp.read = .reading bits) → t.svp.read = .spent
  noRead : (¬ ∃ bits, s.svp.read = .reading bits) → t.svp.read = s.svp.read
  marks : ∀ a, t.phu.get a =
    if (u.svp.layout.any (fun d => d.source.dependsOn a)) = true then
      { s.phu.get a with saturated := false, bridged := false } else s.phu.get a
  checks : ∀ a, t.fru.checks.get a = { s.fru.checks.get a with
    tally := 0, lockAtLast := decide ((s.slr.get a).link = .locked)
    last := {
      tally := (s.fru.checks.get a).tally
      checked := decide ((s.fru.checks.get a).expect ≠ 0) && (s.fru.checks.get a).lockAtLast &&
        decide ((s.slr.get a).link = .locked)
      failed := (t.fru.checks.get a).last.failed } }
  failed : ∀ a, (t.fru.checks.get a).last.failed = true ↔ checkFails s a
  frameUnit : t.fru = { u.fru with checks := t.fru.checks, notifyCount := t.fru.notifyCount }
  notify : t.fru.notifyCount =
    if s.fru.notifyN = 0 then s.fru.notifyCount
    else if s.fru.notifyN ≤ s.fru.notifyCount + 1 then 0 else s.fru.notifyCount + 1
  flags : ∀ i, i < 27 → (t.hpt.flags.getLsbD i = true ↔ s.hpt.flags.getLsbD i = true ∨
    (i = 25 ∧ ∃ r, s.svp.read = .reading r) ∨ (i = 20 ∧ s.cmu.staged ≠ none) ∨
    (∃ a : Axis, i = 21 + a.toNat ∧ checkFails s a) ∨
    (i = 15 ∧ s.fru.notifyN ≠ 0 ∧ s.fru.notifyN ≤ s.fru.notifyCount + 1))
  host : t.hpt = { s.hpt with flags := t.hpt.flags, attn := t.hpt.attn }
  attn : s.hpt.attn = (s.hpt.flags &&& s.hpt.mask != 0) → t.hpt.attn = (t.hpt.flags &&& s.hpt.mask != 0)
  others : t.tick = s.tick ∧ t.slr = s.slr ∧ t.mEpoch = s.mEpoch ∧ t.lcu = s.lcu ∧ t.msl = s.msl ∧ t.mnu = s.mnu ∧
    t.alc = s.alc ∧ t.pending = s.pending

/-- A SYNC edge does nothing in Internal-Only mode, restarts the watch timer and makes a SYNC frame event in EXTERNAL, and
restores the source in INTERNAL; the frame timer makes a TIMER frame event when its period has passed, and restarts
(R83, R89 to R91, R93 to R95, R98, R100, R106, R107, R114; that an expiry of the frame timer that is not due leaves the state
unchanged is the model's choice, log entry 5). -/
def Obligations.FrameEvents : Prop :=
  ∀ s : State,
    (s.fru.mode = .internalOnly → exec .syncEdge s = .next s) ∧
    (s.fru.mode = .externalWithFallback → s.fru.source = .external →
      ∃ u t, exec .syncEdge s = .next t ∧
        FrameEventDone { s with fru := { s.fru with watch := some s.tick } } u t .sync) ∧
    (s.fru.mode = .externalWithFallback → s.fru.source = .internal →
      ∃ u t, exec .syncEdge s = .next t ∧
        FrameEventDone { raised s 17 with fru := { s.fru with
          source := .external, timer := none, watch := some s.tick } } u t .sync) ∧
    (ranOut s.tick s.fru.timer (s.fru.period * 100) = false → exec .frameTimerExpiry s = .next s) ∧
    (ranOut s.tick s.fru.timer (s.fru.period * 100) = true →
      ∃ u t, exec .frameTimerExpiry s = .next t ∧
        FrameEventDone { s with fru := { s.fru with timer := some s.tick } } u t .timer)

/-- A command word selects an axis: its fourth bit for A0 to its seventh for A3 (Formats, Servo frame). -/
def Sys2Proof.Claims.selectedBy (w : BitVec 8) (a : Axis) : Bool := w.getLsbD (5 - a.toNat)

/-- The first clock of a selection begins a read of the snapshot, bit by bit as Formats lays it out, with REPEAT set once it has
been delivered and the CRC of this content, or of zeros where there is none; the next clocks shift out its bits and assemble the command word in the first eight; the last completes
it, which marks the snapshot delivered and hands the word to the phase units it selects, which ARM from UNREFERENCED with the
preset and DISARM from ARMED; clocks beyond it read ones, and a deselection ends the read with nothing done (R54, R104, R112,
R113, R115, R116). That a completion with no read in progress, or with a word that the bits taken do not begin, does nothing
is the model's choice, log entries 5 and 19; that one sets the delivered mark where no snapshot exists, as R113 has it of
every read, is log entry 10. -/
def Obligations.ServoReads : Prop :=
  ∀ s : State,
    (∀ sdi, s.svp.read = .idle → exec (.servoReadStart sdi) s = .next { s with svp := { s.svp with read := (.reading {
      content := readContent s.svp, clocks := 1, word := [sdi] }) } }) ∧
    (∀ sdi, s.svp.read ≠ .idle → exec (.servoReadStart sdi) s = .next s) ∧
    exec .servoDeselect s = .next { s with svp := { s.svp with read := .idle } } ∧
    (∀ (w : BitVec 8) (c : Instr), c = .servoReadComplete w ∨ c = .servoArm w ∨ c = .servoDisarm w →
      ((∀ r, s.svp.read = .reading r → ¬ r.word <+: field 8 w.toNat) → exec c s = .next s) ∧
      (∀ r, s.svp.read = .reading r → r.word <+: field 8 w.toNat → ∃ t, exec c s = .next t ∧
        t = { s with svp := { s.svp with read := .spent, delivered := true }, phu := t.phu } ∧
        ∀ a, t.phu.get a =
          (if selectedBy w a = true ∧ w.extractLsb' 6 2 = 1 ∧ (s.phu.get a).state = .unreferenced then
            { s.phu.get a with state := .armed, armed := some (s.phu.get a).preset }
          else if selectedBy w a = true ∧ w.extractLsb' 6 2 = 2 ∧ (s.phu.get a).state = .armed then
            { s.phu.get a with state := .unreferenced, armed := none }
          else s.phu.get a))) ∧
    (∀ sdi, s.svp.read = .idle → lineStep (.servoClock sdi) s = exec (.servoReadStart sdi) s) ∧
    (∀ sdi, s.svp.read = .spent → lineStep (.servoClock sdi) s = .next s ∧ s.svp.clockOut = true) ∧
    (∀ (sdi : Bool) (r : ServoRead) (u : State), s.svp.read = .reading r →
      u = { s with svp := { s.svp with read := .reading { r with
        clocks := r.clocks + 1, word := if r.word.length < 8 then r.word ++ [sdi] else r.word } } } →
      (r.clocks < r.content.length → s.svp.clockOut = r.content.getD r.clocks true) ∧
      (r.clocks + 1 < r.content.length → lineStep (.servoClock sdi) s = .next u) ∧
      (∀ w : BitVec 8, r.clocks + 1 = r.content.length → r.word = field 8 w.toNat →
        lineStep (.servoClock sdi) s = exec (if w.extractLsb' 6 2 = 1 then .servoArm w
          else if w.extractLsb' 6 2 = 2 then .servoDisarm w else .servoReadComplete w) u))

/-- The length of a source on the active K set, rounded once, before any clamp (R84 to R86). -/
def Sys2Proof.Claims.lengthNow (s : State) (x : Source) : Int :=
  match x with
  | .phys a => roundDiv (countOf (s.phu.get a) * s.cmu.active.get a) 65536
  | .m => roundDiv (countOf (s.phu.get .q0) * s.cmu.active.get .q0 + countOf (s.phu.get .q1) * s.cmu.active.get .q1) 131072
  | .w => roundDiv (countOf (s.phu.get .q0) * s.cmu.active.get .q0 - countOf (s.phu.get .q1) * s.cmu.active.get .q1) 65536

/-- The count of a source in steps (R61). -/
def Sys2Proof.Claims.stepsNow (s : State) (x : Source) : Int :=
  match x with
  | .phys a => countOf (s.phu.get a)
  | .m => roundDiv (countOf (s.phu.get .q0) + countOf (s.phu.get .q1)) 2
  | .w => countOf (s.phu.get .q0) - countOf (s.phu.get .q1)

/-- A slot field of a pair or of one axis: every axis the source is formed from has it. -/
def Sys2Proof.Claims.onAll (s : State) (x : Source) (p : PhaseUnit → Prop) : Prop := ∀ a, x.dependsOn a = true → p (s.phu.get a)

/-- A slot field of a pair or of one axis: some axis the source is formed from has it. -/
def Sys2Proof.Claims.onSome (s : State) (x : Source) (p : PhaseUnit → Prop) : Prop :=
  ∃ a, x.dependsOn a = true ∧ p (s.phu.get a)

/-- The slots of a snapshot: a source whose axes are all OFF gives zeros; any other gives its count or length, clamped to
its field, with VALID only for REFERENCED and LOCKED axes and a length that fits; a held source gives the held values with
HELD set, VALID clear and the other flags live (R60, R61, R63, R64, R85 to R87, R108 to R110). -/
def Obligations.SnapshotSlots : Prop :=
  ∀ (s : State) (d : SlotDesc),
    (s.svp.holds.get d.source = none → onAll s d.source (fun p => p.state = .off) → s.slotOf d =
      { value := 0, valid := false, held := false, fault := false, armed := false, bridged := false, saturated := false,
        locked := false, monitor := false, epoch := 0 }) ∧
    (s.svp.holds.get d.source = none → onSome s d.source (fun p => p.state ≠ .off) →
      (s.slotOf d).held = false ∧ (s.slotOf d).epoch = (match d.source with
        | .phys a => (s.phu.get a).epoch | .m => s.mEpoch | .w => s.mEpoch) ∧
      (d.unit = .steps → (s.slotOf d).value = stepsNow s d.source ∧
        ((s.slotOf d).valid = true ↔ onAll s d.source (fun p => p.state = .referenced ∧ p.lockView = true))) ∧
      (d.unit = .pm →
        (s.slotOf d).value = max (-8796093022207) (min 8796093022207 (lengthNow s d.source)) ∧
        ((s.slotOf d).valid = true ↔ onAll s d.source (fun p => p.state = .referenced ∧ p.lockView = true) ∧
          -8796093022207 ≤ lengthNow s d.source ∧ lengthNow s d.source ≤ 8796093022207))) ∧
    (∀ h, s.svp.holds.get d.source = some h →
      (s.slotOf d).held = true ∧ (s.slotOf d).valid = false ∧ (s.slotOf d).epoch = h.epoch ∧
      (d.unit = .steps → (s.slotOf d).value = h.steps) ∧
      (d.unit = .pm → (s.slotOf d).value = max (-8796093022207) (min 8796093022207 h.pm))) ∧
    (onSome s d.source (fun p => p.state ≠ .off) →
      ((s.slotOf d).fault = true ↔ onSome s d.source (fun p => p.state = .faulted)) ∧
      ((s.slotOf d).armed = true ↔ onSome s d.source (fun p => p.state = .armed)) ∧
      ((s.slotOf d).bridged = true ↔ onSome s d.source (fun p => p.bridged = true)) ∧
      ((s.slotOf d).saturated = true ↔ onSome s d.source (fun p => p.saturated = true)) ∧
      ((s.slotOf d).locked = true ↔ onAll s d.source (fun p => p.lockView = true)) ∧
      ((s.slotOf d).monitor = true ↔ ∃ m, (s.mnu.get m).tripped = true ∧ (s.mnu.get m).source = d.source))

/-- The slot descriptions that pairs of bytes spell: a source 0..5 and a unit 0 or 1 each. -/
def Sys2Proof.Claims.describes : List Byte → List SlotDesc → Prop
  | [], [] => True
  | x :: u :: rest, d :: ds =>
    d.source.toNat = x.toNat ∧ d.unit = (if u = 1 then .steps else .pm) ∧ u.toNat ≤ 1 ∧ describes rest ds
  | _, _ => False

/-- HOLD_OUTPUT: HOLD enters or replaces the entry of each source of the mask with its value in steps, its length before any
clamp and its epoch of this moment; RELEASE removes it; every other entry stands (R64; that the table keeps a length unclamped
is the model's choice, log entry 23). SET_LAYOUT stages one to four slots whose sources strictly increase, replacing a layout
staged before; a count outside 1..4 is refused BAD_VALUE whatever LEN says, and any other length than 1 + 2 × count is
BAD_LENGTH (R105, R163; that a LEN of 0 is BAD_LENGTH whatever follows it is the model's choice, log entry 8). -/
def Obligations.HoldOutputsAndLayouts : Prop :=
  (∀ (s : State) (m act : Byte) (extra : List Byte) (c : Instr),
    c = .holdOutput (frame [m, act] extra) ∨ c = .holdOutputRelease (frame [m, act] extra) →
    ∃ holds : Six (Option HoldEntry),
      (∀ x, holds.get x = if picksSource m x = true then
          (if act = 1 then none else some { steps := stepsNow s x, pm := lengthNow s x, epoch := (match x with
            | .phys a => (s.phu.get a).epoch | .m => s.mEpoch | .w => s.mEpoch) })
        else s.svp.holds.get x) ∧
      exec c s = .next (checked s 0x15 (1 ≤ m.toNat ∧ m.toNat ≤ 63 ∧ act.toNat ≤ 1)
        { s with svp := { s.svp with holds := holds } })) ∧
  (∀ (s : State) (n : Byte) (ps extra : List Byte) (ds : List SlotDesc), 1 ≤ n.toNat → n.toNat ≤ 4 →
    ps.length = 2 * n.toNat → describes ps ds → ds.Pairwise (fun x y => x.source.toNat < y.source.toNat) →
    exec (.setLayout (frame (n :: ps) extra)) s =
      .next (taken s (accepted s 0x20 [] { s with svp := { s.svp with staged := some ds } }))) ∧
  (∀ (s : State) (n : Byte) (ps extra : List Byte), 1 ≤ n.toNat → n.toNat ≤ 4 → ps.length = 2 * n.toNat →
    ¬ (∃ ds, describes ps ds ∧ ds.Pairwise (fun x y => x.source.toNat < y.source.toNat)) →
    exec (.setLayout (frame (n :: ps) extra)) s = .next (taken s (refused s 0x20 .badValue))) ∧
  (∀ (s : State) (len n : Byte) (rest : List Byte), 1 ≤ len.toNat → ¬ (1 ≤ n.toNat ∧ n.toNat ≤ 4) →
    exec (.setLayout (len :: n :: rest)) s = .next (taken s (refused s 0x20 .badValue))) ∧
  (∀ (s : State) (len n : Byte) (rest : List Byte), 1 ≤ n.toNat → n.toNat ≤ 4 →
    ¬ lengthFits (1 + 2 * n.toNat) (len :: n :: rest) →
    exec (.setLayout (len :: n :: rest)) s = .next (taken s (refused s 0x20 .badLength))) ∧
  (∀ (s : State) (n : Byte) (rest : List Byte), ¬ (1 ≤ n.toNat ∧ n.toNat ≤ 4) →
    exec (.setLayout (0 :: n :: rest)) s = .next (taken s (refused s 0x20 .badLength))) ∧
  (∀ (s : State) (body : List Byte), body.length ≤ 1 →
    exec (.setLayout body) s = .next (taken s (refused s 0x20 .badLength)))

/-- SET_FRAME, SET_SAMPLE_CHECK and SET_NOTIFY: entering Internal-Only from EXTERNAL starts the frame timer; a shorter period
that has already passed expires the running timer at once; a new NOTIFY_N clears the counter (R92, R93, R96, R99, R101; that
R96's second row judges the timer only where the period changed, in its fourth to sixth rows too, is read from it, log entry
22). -/
def Obligations.FrameSettings : Prop :=
  (∀ (s : State) (m p1 p0 : Byte) (extra : List Byte) (u : State),
    u = { s with fru := { s.fru with
      mode := if m = 1 then .internalOnly else .externalWithFallback, period := bytesToNat [p1, p0] } } →
    exec (.setFrame (frame [m, p1, p0] extra)) s = .next (checked s 0x1C
      (m.toNat ≤ 1 ∧ 20 ≤ bytesToNat [p1, p0] ∧ bytesToNat [p1, p0] ≤ 10000)
      (if s.fru.source = .external ∧ m = 1 then
        { u with fru := { u.fru with source := .internal, watch := none, timer := some s.tick } }
      else if s.fru.period = bytesToNat [p1, p0] then u
      else (if ranOut s.tick s.fru.watch (2 * (bytesToNat [p1, p0] * 100)) = true then
          raised { u with fru := { u.fru with source := .internal, watch := none, timer := some s.tick } } 16
        else if ranOut s.tick s.fru.timer (bytesToNat [p1, p0] * 100) = true then
          ({ u with fru := { u.fru with timer := some s.tick } } : State).frameEvent .timer
        else u)))) ∧
  (∀ (s : State) (a e1 e0 t : Byte) (extra : List Byte),
    exec (.setSampleCheck (frame [a, e1, e0, t] extra)) s = .next (checked s 0x1D (a.toNat ≤ 3)
      { s with fru := { s.fru with checks := (s.fru.checks.set (quadAt a)
          { s.fru.checks.get (quadAt a) with expect := bytesToNat [e1, e0], tol := t.toNat }) } })) ∧
  (∀ (s : State) (n : Byte) (extra : List Byte),
    exec (.setNotify (frame [n] extra)) s = .next (taken s (accepted s 0x1E []
      { s with fru := { s.fru with notifyN := n.toNat, notifyCount := 0 } })))

/-! ## Line capture -/

/-- A message offered to the outgoing queue: discarded and counted when the queue holds 4, and begun at once when it is alone
(R145). -/
def Sys2Proof.Claims.offered (s : State) (m : List Byte) : State :=
  { s with msl :=
    if 4 ≤ s.msl.out.length then { s.msl with outDiscards := min 65535 (s.msl.outDiscards + 1) }
    else { s.msl with out := s.msl.out ++ [m], tx := if s.msl.out = [] then .sending s.tick else s.msl.tx } }

/-- An edge lies inside the dead time of its input (R119). -/
def Sys2Proof.Claims.inDeadTime (s : State) (i : TrigInput) : Prop :=
  ∃ start, (s.lcu.triggers.get i).deadFrom = some start ∧
    (s.tick - start).toInt < ((s.lcu.triggers.get i).dead : Int)

/-- The state with the dead time of an input started (R119). -/
def Sys2Proof.Claims.deadStarted (s : State) (i : TrigInput) : State :=
  { s with lcu := { s.lcu with triggers := (s.lcu.triggers.set i
      { s.lcu.triggers.get i with deadFrom := some s.tick }) } }

/-- An edge matches a context (R124). -/
def Sys2Proof.Claims.matchesEdge (c : Context) (i : TrigInput) (e : EdgeDir) : Prop :=
  c.input = i ∧ (c.edge = .both ∨ (c.edge = .rise ∧ e = .rise) ∨ (c.edge = .fall ∧ e = .fall))

/-- The progress of the entry of an axis that a capture with trigger instant `t` follows, as judged at its opening (R127,
R129). -/
structure Sys2Proof.Claims.JudgedAtOpening (c : Capture) (a : Axis) (p : PhaseUnit) (progress : EntryProgress) : Prop where
  notReferenced : p.state ≠ .referenced → progress = .settled .notValid 0 0
  empty : p.state = .referenced → p.history = [] → progress = .waiting none
  tooOld : ∀ oldest rest, p.state = .referenced → p.history = oldest :: rest →
    (c.tTrig - oldest.instant).toInt ≤ 0 → progress = .settled .tooOld 0 0
  waits : ∀ oldest newest, p.state = .referenced → p.history.head? = some oldest → p.history.getLast? = some newest →
    0 < (c.tTrig - oldest.instant).toInt → (∀ h ∈ p.history, (h.instant - c.tTrig).toInt ≤ 0) →
    progress = .waiting (some newest)
  settles : ∀ oldest pre before after post, p.state = .referenced → p.history.head? = some oldest →
    0 < (c.tTrig - oldest.instant).toInt → p.history = pre ++ before :: after :: post →
    (∀ h ∈ pre ++ [before], (h.instant - c.tTrig).toInt ≤ 0) → (∀ h ∈ after :: post, 0 < (h.instant - c.tTrig).toInt) →
    progress = settleEntry c a .referenced p.epoch before after

/-- A trigger edge: one inside the dead time does nothing, and every other starts the dead time; one that finds no matching
head context does no more; one that finds a capture in flight is counted and makes a miss request; any other uses one index
of the head context and opens a capture, which completes at once if nothing in it waits (R119, R124 to R127). -/
def Obligations.TriggerEdges : Prop :=
  ∀ (s : State) (i : TrigInput) (e : EdgeDir),
    (inDeadTime s i → exec (.triggerEdge i e) s = .next s) ∧
    (¬ inDeadTime s i → (∀ head rest, s.lcu.contexts = head :: rest → ¬ matchesEdge head i e) →
      exec (.triggerEdge i e) s = .next (deadStarted s i)) ∧
    (∀ head rest c u, ¬ inDeadTime s i → s.lcu.contexts = head :: rest → matchesEdge head i e →
      s.lcu.capture = some c →
      u = { deadStarted s i with lcu := { (deadStarted s i).lcu with missed := min 255 (s.lcu.missed + 1) } } →
      exec (.triggerEdge i e) s = .next (if s.alc.pulseOnMiss = true then pulsed u else u)) ∧
    (∀ head rest, ¬ inDeadTime s i → s.lcu.contexts = head :: rest → matchesEdge head i e → s.lcu.capture = none →
      ∃ c : Capture,
        c = { tag := head.tag, origin := head.origin, echo := head.echo, sources := head.sources
              index := if head.remaining = 0 then head.count else head.count - head.remaining + 1
              input := i, edge := e, edgeTick := s.tick
              tTrig := s.tick - BitVec.ofNat 48 (s.lcu.triggers.get i).delay
              kset := s.cmu.active, compGen := s.cmu.compGen, phys := c.phys, mEpoch := s.mEpoch } ∧
        (∀ a : Axis, (¬ ∃ x : Source, head.sources.getLsbD x.toNat = true ∧ x.dependsOn a = true) →
          c.phys.get a = none) ∧
        (∀ a : Axis, (∃ x : Source, head.sources.getLsbD x.toNat = true ∧ x.dependsOn a = true) →
          ∃ progress, c.phys.get a = some { epoch := (s.phu.get a).epoch, progress := progress } ∧
            JudgedAtOpening c a (s.phu.get a) progress) ∧
        exec (.triggerEdge i e) s = .next ({ deadStarted s i with lcu := { (deadStarted s i).lcu with
          capture := some c
          contexts :=
            if 1 < head.remaining then { head with remaining := head.remaining - 1 } :: rest
            else if head.standing = true ∧ rest = [] then [{ head with remaining := 0 }]
            else rest } } : State).completeIfSettled)

/-- What the completion of a capture, settled as `c` has it, makes of the part: the record of its entries, one per source in
their order, with the missed count, queued by the policy, RECORDS_READY following the depth, CAPTURE_OVERFLOW for a full queue,
and an ECHO of the first entry where it is asked for (R133 to R135, R138). -/
structure Sys2Proof.Claims.CaptureCompleted (s t : State) (c : Capture) (r : Record) : Prop where
  entries : r.entries = (six.filter (fun x => c.sources.getLsbD x.toNat)).filterMap (entryOf c)
  fields : r = { number := s.lcu.recordNo, tag := c.tag, origin := c.origin, index := c.index, input := c.input,
                 edge := c.edge, tTrig := c.tTrig, missed := s.lcu.missed, compGen := c.compGen, entries := r.entries }
  order : r.entries.Pairwise (fun x y => x.source.toNat < y.source.toNat)
  sources : ∀ y ∈ r.entries, c.sources.getLsbD y.source.toNat = true
  unit : t.lcu = { s.lcu with
    capture := none, missed := 0, recordNo := s.lcu.recordNo + 1
    records :=
      if s.lcu.records.length < 32 then s.lcu.records ++ [r]
      else match s.lcu.policy with
        | .keepOldest => s.lcu.records
        | .keepNewest => s.lcu.records.drop 1 ++ [r] }
  ready : t.hpt.flags.getLsbD 0 = decide (t.lcu.readyLevel ≤ t.lcu.records.length)
  overflow : t.hpt.flags.getLsbD 1 = (s.hpt.flags.getLsbD 1 || decide (32 ≤ s.lcu.records.length))
  otherFlags : ∀ i, 2 ≤ i → t.hpt.flags.getLsbD i = s.hpt.flags.getLsbD i
  noEcho : c.echo = false → t.msl = s.msl
  echoed : ∀ y rest, c.echo = true → r.entries = y :: rest → t.msl = (offered s (echoData r y)).msl
  others : t.tick = s.tick ∧ t.slr = s.slr ∧ t.phu = s.phu ∧ t.mEpoch = s.mEpoch ∧ t.cmu = s.cmu ∧ t.fru = s.fru ∧
    t.svp = s.svp ∧ t.mnu = s.mnu ∧ t.alc = s.alc ∧ t.pending = s.pending

/-- The status and count with which an entry leaves a capture that times out: TIMEOUT where it waits (R131). -/
def Sys2Proof.Claims.timedOut (y : PhysEntry) : Status × Int :=
  match y.progress with
  | .waiting _ => (.timeout, 0)
  | .settled st x16 _ => (st, x16)

/-- The capture timeout: every entry that waits settles TIMEOUT, settled entries stand, an entry of M or W takes its status and
position from its two constituents, and the capture completes (R131 to R135, R138). That an expiry before its period changes
nothing is the model's choice, log entry 5. -/
def Obligations.CaptureTimesOut : Prop :=
  ∀ s : State,
    (ranOut s.tick (s.lcu.capture.map (fun c => c.edgeTick)) (s.lcu.timeout * 100) = false →
      exec .captureTimeoutExpiry s = .next s) ∧
    (∀ c c', s.lcu.capture = some c → ranOut s.tick (some c.edgeTick) (s.lcu.timeout * 100) = true →
      c' = { c with phys := c'.phys } →
      (∀ a, c'.phys.get a = (c.phys.get a).map (fun y => { y with progress := (match y.progress with
        | .waiting _ => .settled .timeout 0 0
        | .settled st x16 pos => .settled st x16 pos) })) →
      ∃ t r, exec .captureTimeoutExpiry s = .next t ∧ CaptureCompleted s t c' r ∧
        (∀ a x b, c.sources.getLsbD a.toNat = true → c.phys.get a = some x → x.progress = .waiting b →
          { source := .phys a, status := .timeout, epoch := x.epoch, position := 0 } ∈ r.entries) ∧
        (∀ a x st x16 pos, c.sources.getLsbD a.toNat = true → c.phys.get a = some x → x.progress = .settled st x16 pos →
          { source := .phys a, status := st, epoch := x.epoch, position := pos } ∈ r.entries) ∧
        (∀ (x : Source) (y0 y1 : PhysEntry), x = .m ∨ x = .w → c.sources.getLsbD x.toNat = true →
          c.phys.get .q0 = some y0 → c.phys.get .q1 = some y1 →
          { source := x, status := (pairEntry c.kset x (timedOut y0).1 (timedOut y1).1 (timedOut y0).2 (timedOut y1).2).1,
            epoch := c.mEpoch,
            position := (pairEntry c.kset x (timedOut y0).1 (timedOut y1).1 (timedOut y0).2 (timedOut y1).2).2 } ∈ r.entries))

/-- An entry settled between its before and after entries: DATUM where an epoch differs, NOT_VALID where the axis is not
REFERENCED or the length does not fit, and else OK or BRIDGED with the interpolated count and its length; the interpolated
count lies between the counts of the two entries (R129). An entry of M or W takes status and position from those of A0 and
A1 (R86, R87, R132). -/
def Obligations.EntriesSettleByInterpolation : Prop :=
  ∀ (c : Capture) (a : Axis) (st : AxisState) (epoch : BitVec 4) (before after : HistEntry) (x16 len : Int),
    x16 = 16 * before.acc + roundDiv (16 * (after.acc - before.acc) * (c.tTrig - before.instant).toInt)
      (after.instant - before.instant).toInt →
    len = roundDiv (x16 * c.kset.get a) 1048576 →
    (before.epoch ≠ epoch ∨ after.epoch ≠ epoch → settleEntry c a st epoch before after = .settled .datum 0 0) ∧
    (before.epoch = epoch → after.epoch = epoch → st ≠ .referenced →
      settleEntry c a st epoch before after = .settled .notValid 0 0) ∧
    (before.epoch = epoch → after.epoch = epoch → st = .referenced →
      (settleEntry c a st epoch before after =
        if len < -140737488355327 ∨ 140737488355327 < len then .settled .notValid 0 0
        else if before.kind = .bridged ∨ (after.kind = .bridged ∧ 0 < (c.tTrig - before.instant).toInt) then
          .settled .bridged x16 len
        else .settled .ok x16 len)) ∧
    (∀ (x : Source) (s0 s1 : Status) (x0 x1 : Int), x = .m ∨ x = .w →
      derivedOutcome c x s0 s1 x0 x1 = pairEntry c.kset x s0 s1 x0 x1) ∧
    (0 ≤ (c.tTrig - before.instant).toInt → 0 < (after.instant - c.tTrig).toInt →
      (after.instant - before.instant).toInt = (c.tTrig - before.instant).toInt + (after.instant - c.tTrig).toInt →
      min (16 * before.acc) (16 * after.acc) ≤ x16 ∧ x16 ≤ max (16 * before.acc) (16 * after.acc))

/-- A report of the axis state machine settles the waiting entry of its axis LOST, or DATUM for an epoch change, and a new
history entry settles it when it is later than the trigger instant and becomes its before entry otherwise; no other entry
changes. A report or an entry of an axis with no waiting entry changes nothing: where no capture is in flight, where the axis has
no entry in it, and where its entry is already settled. The capture completes when nothing in it waits, and its record holds
every source as it settled, M and W formed from A0 and A1 (R128 to R130, R132, R133). -/
def Obligations.ReportsAndSamplesSettleEntries : Prop :=
  (∀ (s : State) (a : Axis),
    (s.lcu.capture = none ∨ ∃ c, s.lcu.capture = some c ∧ (c.phys.get a = none ∨
      ∃ x st x16 pos, c.phys.get a = some x ∧ x.progress = .settled st x16 pos)) →
    (∀ report, s.reportToCapture a report = s) ∧ ∀ h, s.offerToCapture a h = s) ∧
  (∀ (s : State) (c : Capture), s.lcu.capture = some c →
    ((∃ a x b, c.phys.get a = some x ∧ x.progress = .waiting b) → s.completeIfSettled = s) ∧
    ((∀ a x b, c.phys.get a = some x → x.progress ≠ .waiting b) →
      ∃ r, CaptureCompleted s s.completeIfSettled c r)) ∧
  ∀ (s : State) (a : Axis) (c : Capture) (x : PhysEntry) (b : Option HistEntry),
    s.lcu.capture = some c → c.phys.get a = some x → x.progress = .waiting b →
    (∀ (report : AxisReport) (progress : EntryProgress),
      progress = .settled (if report = .epochChange then .datum else .lost) 0 0 →
      ((∃ a' x' b', a' ≠ a ∧ c.phys.get a' = some x' ∧ x'.progress = .waiting b') →
        s.reportToCapture a report = { s with lcu := { s.lcu with
          capture := some { c with phys := c.phys.set a (some { x with progress := progress }) } } }) ∧
      ((∀ a' x' b', a' ≠ a → c.phys.get a' = some x' → x'.progress ≠ .waiting b') →
        ∃ r, CaptureCompleted s (s.reportToCapture a report)
            { c with phys := c.phys.set a (some { x with progress := progress }) } r ∧
          (c.sources.getLsbD a.toNat = true →
            { source := .phys a, status := if report = .epochChange then .datum else .lost, epoch := x.epoch,
              position := 0 } ∈ r.entries))) ∧
    (∀ h : HistEntry, (h.instant - c.tTrig).toInt ≤ 0 →
      s.offerToCapture a h = { s with lcu := { s.lcu with
        capture := some { c with phys := c.phys.set a (some { x with progress := .waiting (some h) }) } } }) ∧
    (∀ (h before : HistEntry) (progress : EntryProgress), 0 < (h.instant - c.tTrig).toInt → b = some before →
      progress = settleEntry c a (s.phu.get a).state x.epoch before h →
      s.offerToCapture a h = ({ s with lcu := { s.lcu with
        capture := some { c with phys := c.phys.set a (some { x with progress := progress }) } } } : State).completeIfSettled) ∧
    (∀ h : HistEntry, 0 < (h.instant - c.tTrig).toInt → b = none →
      s.offerToCapture a h = ({ s with lcu := { s.lcu with
        capture := some { c with phys := c.phys.set a (some { x with progress := .settled .tooOld 0 0 }) } } } :
          State).completeIfSettled)

/-- SET_TRIGGER and SET_CAPTURE: a dead time that a lowered TRIG_DEAD has outrun ends at once, RECORDS_READY is judged against
the new level, and a capture in flight that a shorter timeout has outrun times out at once (R119, R120, R131, R135, R136). -/
def Obligations.CaptureSettings : Prop :=
  (∀ (s : State) (i d1 d0 e1 e0 : Byte) (extra : List Byte),
    exec (.setTrigger (frame [i, d1, d0, e1, e0] extra)) s = .next (checked s 0x22
      (i.toNat ≤ 1 ∧ bytesToNat [d1, d0] ≤ 1023)
      { s with lcu := { s.lcu with triggers := (s.lcu.triggers.set (if i = 1 then .t1 else .t0)
        { delay := bytesToNat [d1, d0], dead := bytesToNat [e1, e0]
          deadFrom :=
            if ranOut s.tick (s.lcu.triggers.get (if i = 1 then .t1 else .t0)).deadFrom (bytesToNat [e1, e0]) = true then none
            else (s.lcu.triggers.get (if i = 1 then .t1 else .t0)).deadFrom }) } })) ∧
  (∀ (s : State) (p r t1 t0 : Byte) (extra : List Byte) (u : State),
    u = readyJudged { s with lcu := { s.lcu with
        policy := if p = 1 then .keepNewest else .keepOldest, readyLevel := r.toNat, timeout := bytesToNat [t1, t0] } } →
    exec (.setCapture (frame [p, r, t1, t0] extra)) s = .next (checked s 0x25
      (p.toNat ≤ 1 ∧ 1 ≤ r.toNat ∧ r.toNat ≤ 32 ∧ 1 ≤ bytesToNat [t1, t0])
      (if ranOut s.tick (s.lcu.capture.map (fun c => c.edgeTick)) (bytesToNat [t1, t0] * 100) = true then u.timeOutCapture
        else u)))

/-- The context that 8 parameter bytes spell, and whether they are in range (R121, R176). -/
def Sys2Proof.Claims.contextSpelled (origin : Origin) (src input edge t1 t0 count standing echo : Byte) : Context where
  sources := BitVec.ofNat 6 src.toNat
  input := if input = 1 then .t1 else .t0
  edge := if edge = 0 then .rise else if edge = 1 then .fall else .both
  tag := BitVec.ofNat 16 (bytesToNat [t1, t0])
  count := count.toNat
  remaining := count.toNat
  standing := isSet standing
  echo := isSet echo
  origin := origin

/-- The bytes of a context are in range (R121, R176). -/
def Sys2Proof.Claims.contextInRange (src input edge count standing echo : Byte) : Prop :=
  1 ≤ src.toNat ∧ src.toNat ≤ 63 ∧ input.toNat ≤ 1 ∧ edge.toNat ≤ 2 ∧ 1 ≤ count.toNat ∧ standing.toNat ≤ 1 ∧ echo.toNat ≤ 1

/-- A STANDING context that is alone with its count used up (R122). -/
def Sys2Proof.Claims.standsAlone (q : List Context) : Prop := ∃ c, q = [c] ∧ c.standing = true ∧ c.remaining = 0

/-- QUEUE_CONTEXT enters a context behind those that wait, or in place of a lone exhausted standing one; a full queue refuses
it and raises CONTEXT_REFUSED; FLUSH_CONTEXTS removes the contexts of the origin it names; both return the depth (R121 to
R123). -/
def Obligations.ContextRequests : Prop :=
  (∀ (s : State) (src input edge t1 t0 count standing echo : Byte) (extra : List Byte) (ctx : Context),
    ctx = contextSpelled .host src input edge t1 t0 count standing echo →
    (¬ contextInRange src input edge count standing echo →
      exec (.queueContext (frame [src, input, edge, t1, t0, count, standing, echo] extra)) s =
        .next (taken s (refused s 0x23 .badValue))) ∧
    (contextInRange src input edge count standing echo → standsAlone s.lcu.contexts →
      exec (.queueContext (frame [src, input, edge, t1, t0, count, standing, echo] extra)) s =
        .next (taken s (accepted s 0x23 [1] { s with lcu := { s.lcu with contexts := [ctx] } }))) ∧
    (contextInRange src input edge count standing echo → ¬ standsAlone s.lcu.contexts → s.lcu.contexts.length < 4 →
      exec (.queueContext (frame [src, input, edge, t1, t0, count, standing, echo] extra)) s =
        .next (taken s (accepted s 0x23 [BitVec.ofNat 8 (s.lcu.contexts.length + 1)]
          { s with lcu := { s.lcu with contexts := s.lcu.contexts ++ [ctx] } }))) ∧
    (contextInRange src input edge count standing echo → 4 ≤ s.lcu.contexts.length →
      exec (.queueContext (frame [src, input, edge, t1, t0, count, standing, echo] extra)) s =
        .next (taken s (refused (raised s 2) 0x23 .queueFull)))) ∧
  (∀ (s : State) (w : Byte) (extra : List Byte) (q : List Context),
    q = (if w = 0 then [] else if w = 1 then s.lcu.contexts.filter (fun c => c.origin == .microscope)
      else s.lcu.contexts.filter (fun c => c.origin == .host)) →
    exec (.flushContexts (frame [w] extra)) s = .next (taken s
      (if w.toNat ≤ 2 then accepted s 0x24 [BitVec.ofNat 8 q.length] { s with lcu := { s.lcu with contexts := q } }
        else refused s 0x24 .badValue)))

/-- READ_CAPTURES returns the oldest records, whole and in order, as many as are asked for and fit in 1020 bytes; REMOVE takes
exactly those out of the queue and judges RECORDS_READY, KEEP changes nothing (R135, R137; that REMOVE is coded 0 and KEEP 1 is
the model's choice, log entry 9). -/
def Obligations.ReadCaptures : Prop :=
  ∀ (s : State) (m o : Byte) (extra : List Byte),
    ∃ k : Nat,
      k ≤ m.toNat ∧ k ≤ s.lcu.records.length ∧
      ((s.lcu.records.take k).flatMap recordData).length ≤ 1020 ∧
      (k < m.toNat → k < s.lcu.records.length → 1020 < ((s.lcu.records.take (k + 1)).flatMap recordData).length) ∧
      exec (.readCaptures (frame [m, o] extra)) s = .next (taken s
        (if 1 ≤ m.toNat ∧ m.toNat ≤ 32 ∧ o.toNat ≤ 1 then
          accepted s 0x26 ((s.lcu.records.take k).flatMap recordData)
            (if o = 1 then s else readyJudged { s with lcu := { s.lcu with records := s.lcu.records.drop k } })
        else refused s 0x26 .badValue))

/-! ## Microscope link -/

/-- Complete messages are counted and each is answered with one offered message: ACCEPTED with the depth, REFUSED with its
code, or STATE (R121 to R123, R144, R145). While the receiver waits for silence or assembles another message no message
completes; that such a row leaves the state wholly unchanged, the silence measure too, is the model's choice, log entries 5 and
19. -/
def Obligations.MicroMessages : Prop :=
  (∀ (s : State) (c : Instr) (params : List Byte) (code : Byte), s.msl.rx ≠ .idle →
    c = .microQueueContext params ∨ c = .flushOwn params ∨ c = .query params ∨ c = .microUnknownCode code params →
    exec c s = .next s) ∧
  ∀ (s u : State), s.msl.rx = .idle → u = { s with msl := { s.msl with messages := s.msl.messages + 1 } } →
    (∀ (src input edge t1 t0 count standing echo : Byte) (ctx : Context),
      ctx = contextSpelled .microscope src input edge t1 t0 count standing echo →
      (¬ contextInRange src input edge count standing echo →
        exec (.microQueueContext [src, input, edge, t1, t0, count, standing, echo]) s =
          .next (offered u [0x02, 0xA2, 0x02])) ∧
      (contextInRange src input edge count standing echo → standsAlone s.lcu.contexts →
        exec (.microQueueContext [src, input, edge, t1, t0, count, standing, echo]) s =
          .next (offered { u with lcu := { s.lcu with contexts := [ctx] } } [0x02, 0xA1, 0x01])) ∧
      (contextInRange src input edge count standing echo → ¬ standsAlone s.lcu.contexts → s.lcu.contexts.length < 4 →
        exec (.microQueueContext [src, input, edge, t1, t0, count, standing, echo]) s =
          .next (offered { u with lcu := { s.lcu with contexts := s.lcu.contexts ++ [ctx] } }
            [0x02, 0xA1, BitVec.ofNat 8 (s.lcu.contexts.length + 1)])) ∧
      (contextInRange src input edge count standing echo → 4 ≤ s.lcu.contexts.length →
        exec (.microQueueContext [src, input, edge, t1, t0, count, standing, echo]) s =
          .next (offered u [0x02, 0xA2, 0x01]))) ∧
    (∀ params : List Byte, params.length ≠ 8 →
      exec (.microQueueContext params) s = .next (offered u [0x02, 0xA2, 0x02])) ∧
    (∀ q : List Context, q = s.lcu.contexts.filter (fun c => c.origin == .host) →
      exec (.flushOwn []) s =
        .next (offered { u with lcu := { s.lcu with contexts := q } } [0x02, 0xA1, BitVec.ofNat 8 q.length])) ∧
    exec (.query []) s = .next (offered u (0x09 :: 0xA4 :: BitVec.ofNat 8 s.lcu.contexts.length ::
      BitVec.ofNat 8 (s.lcu.contexts.filter (fun c => c.origin == .microscope)).length ::
      (match s.lcu.capture with
        | some c => 1 :: natBytes 2 c.tag.toNat ++ [BitVec.ofNat 8 c.index]
        | none => [0, 0, 0, 0]) ++ [BitVec.ofNat 8 s.lcu.missed, BitVec.ofNat 8 s.lcu.records.length])) ∧
    (∀ params : List Byte, params ≠ [] →
      exec (.flushOwn params) s = .next (offered u [0x02, 0xA2, 0x02]) ∧
      exec (.query params) s = .next (offered u [0x02, 0xA2, 0x02])) ∧
    (∀ (code : Byte) (params : List Byte), code ≠ 0x21 → code ≠ 0x22 → code ≠ 0x23 →
      exec (.microUnknownCode code params) s = .next (offered u [0x02, 0xA2, 0x04]))

/-- Line errors, characters while the receiver waits, gap discards, the end of the wait and of a message sent: what each
counts, raises, offers and makes of the receiver and the outgoing queue (R142, R143, R145). That an event that is not due, or
that the receiver cannot meet, changes nothing is the model's choice, log entry 5; that a bad LEN is no line error while the
receiver waits is read from R143, log entry 17; and the whole ticks of a cut character are the model's choice, log entry 13. -/
def Obligations.MicroLineEvents : Prop :=
  (∀ (s : State) (fault : LineFault) (began : Tick), (∀ was, s.msl.rx ≠ .waiting was) →
    ((∀ len, fault = .badLen len → s.msl.rx = .idle ∧ (len.toNat = 0 ∨ 23 < len.toNat)) →
      exec (.lineError fault began) s = .next (offered (raised
        { s with msl := { s.msl with lineErrors := min 65535 (s.msl.lineErrors + 1), rx := .waiting began } } 26)
        [0x02, 0xA2, 0x03])) ∧
    (∀ len, fault = .badLen len → s.msl.rx ≠ .idle ∨ (1 ≤ len.toNat ∧ len.toNat ≤ 23) →
      exec (.lineError fault began) s = .next s)) ∧
  (∀ (s : State) (bad : Bool) (fault : LineFault) (began was : Tick), s.msl.rx = .waiting was →
    (bad = true ↔ fault = .parity ∨ fault = .stopBit) →
    exec (.characterWhileWaitingForSilence bad began) s = .next { s with msl := { s.msl with
      rx := .waiting began
      lineErrors := if bad = true then min 65535 (s.msl.lineErrors + 1) else s.msl.lineErrors } } ∧
    exec (.lineError fault began) s = exec (.characterWhileWaitingForSilence bad began) s) ∧
  (∀ (s : State) (bad : Bool) (began : Tick), (∀ was, s.msl.rx ≠ .waiting was) →
    exec (.characterWhileWaitingForSilence bad began) s = .next s) ∧
  (∀ (s : State) (chars : List Byte) (began : Tick), s.msl.rx = .assembling chars began → isSilent s began →
    exec .gapDiscard s = .next (raised
      { s with msl := { s.msl with rx := .idle, gapDiscards := min 65535 (s.msl.gapDiscards + 1) } } 26)) ∧
  (∀ s : State, (∀ chars began, s.msl.rx = .assembling chars began → ¬ isSilent s began) →
    exec .gapDiscard s = .next s) ∧
  (∀ (s : State) (began : Tick), s.msl.rx = .waiting began → isSilent s began →
    exec .silenceWaitEnd s = .next { s with msl := { s.msl with rx := .idle } }) ∧
  (∀ s : State, (∀ began, s.msl.rx = .waiting began → ¬ isSilent s began) → exec .silenceWaitEnd s = .next s) ∧
  (∀ (s : State) (m : List Byte) (rest : List (List Byte)) (start : Tick),
    s.msl.out = m :: rest → s.msl.tx = .sending start →
    exec .messageSent s = .next
      (if ((m.length * 11 * 100000000 : Nat) : Int) ≤ (s.tick - start).toInt * s.msl.rate then
        { s with msl := { s.msl with out := rest, tx := if rest = [] then .quiet else .sending s.tick } } else s)) ∧
  (∀ (s : State) (m : List Byte) (rest : List (List Byte)) (finish : Tick),
    s.msl.out = m :: rest → s.msl.tx = .cutting finish → 0 ≤ (s.tick - finish).toInt →
    exec .messageSent s = .next
      { s with msl := { s.msl with out := rest, tx := if rest = [] then .quiet else .sending s.tick } })

/-- The receiver of the microscope link, character by character: the silence is measured from the beginning of each; a good
character is the LEN byte of a new message, or joins the one being assembled, or is ignored; the message that has its LEN bytes
is taken as the row of its CODE with the receiver idle; and a bad character or LEN is a line error (R142 to R144). That a good
character of any value, a bad LEN too, is no line error while the receiver waits is read from R143, log entry 17; that a
character comes as two line events, and that an end with none under way does nothing, are the model's choices, log entries 5
and 19. -/
def Obligations.MicroCharactersMakeMessages : Prop :=
  (∀ s : State, lineStep .microBegins s = .next { s with msl := { s.msl with
    underWay := some s.tick
    rx := (match s.msl.rx with
      | .idle => .idle
      | .assembling chars _ => .assembling chars s.tick
      | .waiting _ => .waiting s.tick) } }) ∧
  (∀ (s : State) (byte : Byte) (parityOk stopOk : Bool), s.msl.underWay = none →
    lineStep (.microEnds byte parityOk stopOk) s = .next s) ∧
  ∀ (s u : State) (byte : Byte) (began : Tick), s.msl.underWay = some began →
    u = { s with msl := { s.msl with underWay := none } } →
    (∀ (parityOk stopOk : Bool), ¬ (parityOk = true ∧ stopOk = true) →
      (∀ was, s.msl.rx = .waiting was →
        lineStep (.microEnds byte parityOk stopOk) s = exec (.characterWhileWaitingForSilence true began) u) ∧
      ((∀ was, s.msl.rx ≠ .waiting was) → lineStep (.microEnds byte parityOk stopOk) s =
        exec (.lineError (if parityOk = true then .stopBit else .parity) began) u)) ∧
    (∀ was, s.msl.rx = .waiting was →
      lineStep (.microEnds byte true true) s = exec (.characterWhileWaitingForSilence false began) u) ∧
    (s.msl.rx = .idle → 1 ≤ byte.toNat → byte.toNat ≤ 23 →
      lineStep (.microEnds byte true true) s = .next { u with msl := { u.msl with rx := .assembling [byte] began } }) ∧
    (s.msl.rx = .idle → byte.toNat = 0 ∨ 23 < byte.toNat →
      lineStep (.microEnds byte true true) s = exec (.lineError (.badLen byte) began) u) ∧
    (∀ len rest was, s.msl.rx = .assembling (len :: rest) was → rest.length + 1 < len.toNat →
      lineStep (.microEnds byte true true) s =
        .next { u with msl := { u.msl with rx := .assembling (len :: rest ++ [byte]) began } }) ∧
    (∀ len rest was code params, s.msl.rx = .assembling (len :: rest) was → rest.length + 1 = len.toNat →
      rest ++ [byte] = code :: params →
      lineStep (.microEnds byte true true) s = exec
        (if code = 0x21 then .microQueueContext params else if code = 0x22 then .flushOwn params
          else if code = 0x23 then .query params else .microUnknownCode code params)
        { u with msl := { u.msl with rx := .idle } })

/-! ## Monitors and ALERT -/

/-- The staleness timer, the SYNC watch timer and the two dead times do their work once their time has passed; a response in
preparation becomes ready; the end of a pulse starts the gap, the end of a gap releases the line, and the end of the minimum
ends a level whose condition is false and lets one whose condition is true go on (R77, R78, R92, R119, R154, R157, R164). That
an expiry that is not due does nothing, and that RESPONSE_READY may be taken at any moment of the preparation, are the model's
choices, log entries 5 and 4. -/
def Obligations.Expiries : Prop :=
  (∀ s : State,
    (exec .stalenessTimerExpiry s = .next
      (if ranOut s.tick s.cmu.staleness (s.cmu.condTimeout * 100000000) = true then
        { (if s.cmu.stale = true then s else raised s 18) with cmu := { s.cmu with stale := true, staleness := none } }
      else s)) ∧
    (exec .syncWatchExpiry s = .next
      (if ranOut s.tick s.fru.watch (2 * (s.fru.period * 100)) = true then
        raised { s with fru := { s.fru with source := .internal, watch := none, timer := some s.tick } } 16 else s)) ∧
    (∀ i, exec (.deadTimeEnd i) s = .next
      (if ranOut s.tick (s.lcu.triggers.get i).deadFrom (s.lcu.triggers.get i).dead = true then
        { s with lcu := { s.lcu with triggers := s.lcu.triggers.set i { s.lcu.triggers.get i with deadFrom := none } } }
      else s)) ∧
    (∀ r since, s.hpt.response = .preparing r since →
      exec .responseReady s = .next { s with hpt := { s.hpt with response := .ready r } }) ∧
    ((∀ r since, s.hpt.response ≠ .preparing r since) → exec .responseReady s = .next s)) ∧
  (∀ (s : State) (start : Tick), s.alc.state = .pulse start → exec .pulseTimerExpiry s = .next
    (if hasPassed s.tick start (s.alc.pulseTime * 100) then { s with alc := { s.alc with state := .gap s.tick } } else s)) ∧
  (∀ (s : State) (start : Tick), s.alc.state = .gap start → exec .gapTimerExpiry s = .next
    (if hasPassed s.tick start (s.alc.pulseTime * 100) then { s with alc := { s.alc with state := .released } } else s)) ∧
  (∀ s : State, s.alc.state = .level false → exec .minimumLevelExpiry s = .next
    (if ¬ hasPassed s.tick s.alc.wentLow (s.alc.levelMin * 100) then s
    else if s.levelCondition = true then { s with alc := { s.alc with state := .level true } }
    else { s with alc := { s.alc with state := .gap s.tick } })) ∧
  (∀ s : State, (∀ start, s.alc.state ≠ .pulse start) → exec .pulseTimerExpiry s = .next s) ∧
  (∀ s : State, (∀ start, s.alc.state ≠ .gap start) → exec .gapTimerExpiry s = .next s) ∧
  (∀ s : State, s.alc.state ≠ .level false → exec .minimumLevelExpiry s = .next s)

/-- The level condition is the one of R155; judged true it enters LEVEL and the line goes low where it was not, judged false it
ends a level whose minimum is over; and a pulse request is accepted by guard mask and pulse-on-bridge, or pulse-on-miss, and
then starts a pulse or is counted (R126, R153 to R158). -/
def Obligations.AlertJudgements : Prop :=
  ∀ s : State,
    (s.levelCondition = true ↔ levelTrue s) ∧
    (levelTrue s → ∃ ended, s.judgeLevel = { s with alc := { s.alc with
      state := .level ended, wentLow := if s.alc.drive = true then s.alc.wentLow else s.tick } } ∧
      ((∃ was, s.alc.state = .level was) → s.alc.state = .level ended) ∧
      ((¬ ∃ was, s.alc.state = .level was) → ended = false)) ∧
    (¬ levelTrue s → s.alc.state = .level true →
      s.judgeLevel = { s with alc := { s.alc with state := .gap s.tick } }) ∧
    (¬ levelTrue s → s.alc.state ≠ .level true → s.judgeLevel = s) ∧
    (s.alc.drive = true ↔ (∃ start, s.alc.state = .pulse start) ∨ (∃ m, s.alc.state = .level m)) ∧
    (∀ a, s.bridgeRequest a =
      if s.alc.guard.getLsbD a.toNat = true ∧ s.alc.pulseOnBridge = true then pulsed s else s) ∧
    (s.missRequest = if s.alc.pulseOnMiss = true then pulsed s else s)

/-- The signed number of six bytes. -/
def Sys2Proof.Claims.count6 (b5 b4 b3 b2 b1 b0 : Byte) : Int := bytesToInt [b5, b4, b3, b2, b1, b0]

/-- SET_MONITOR, CLEAR_MONITOR, SET_ALERT and SET_MICRO_LINK: their checks and settings; a monitor written or cleared is not
tripped and the level condition is judged anew; SET_ALERT's settings are at work at once; a changed rate cuts the message
being sent, and one half received is a line error (R141, R143, R147, R151, R152; the order of SET_ALERT's judgements and the
cut in whole ticks are the model's choices, log entries 12 and 13). -/
def Obligations.MonitorAlertLinkSettings : Prop :=
  (∀ (s : State) (m src l5 l4 l3 l2 l1 l0 h5 h4 h3 h2 h1 h0 mode act en : Byte) (extra : List Byte) (source : Source),
    source.toNat = min 5 src.toNat →
    exec (.setMonitor (frame [m, src, l5, l4, l3, l2, l1, l0, h5, h4, h3, h2, h1, h0, mode, act, en] extra)) s =
      .next (checked s 0x29
        (m.toNat ≤ 3 ∧ src.toNat ≤ 5 ∧ -1099511627775 ≤ count6 l5 l4 l3 l2 l1 l0 ∧
          count6 l5 l4 l3 l2 l1 l0 ≤ count6 h5 h4 h3 h2 h1 h0 ∧ count6 h5 h4 h3 h2 h1 h0 ≤ 1099511627775 ∧
          mode.toNat ≤ 1 ∧ act.toNat ≤ 1 ∧ en.toNat ≤ 1)
        ({ s with mnu := (s.mnu.set (quadAt m)
          { source := source, low := count6 l5 l4 l3 l2 l1 l0, high := count6 h5 h4 h3 h2 h1 h0
            mode := if mode = 1 then .tripInside else .tripOutside, action := if act = 1 then .alert else .event
            enabled := isSet en, tripped := false }) } : State).judgeLevel)) ∧
  (∀ (s : State) (m : Byte) (extra : List Byte), ∃ mnu : Four Monitor,
    (∀ i, mnu.get i = if picks m i = true then { s.mnu.get i with tripped := false } else s.mnu.get i) ∧
    exec (.clearMonitor (frame [m] extra)) s = .next (checked s 0x2A (1 ≤ m.toNat ∧ m.toNat ≤ 15)
      ({ s with mnu := mnu } : State).judgeLevel)) ∧
  (∀ (s : State) (g b m p l : Byte) (extra : List Byte) (u v : State),
    u = { s with alc := { s.alc with
      guard := BitVec.ofNat 4 g.toNat, pulseOnBridge := isSet b, pulseOnMiss := isSet m, pulseTime := p.toNat,
      levelMin := l.toNat } } →
    v = (if s.alc.state = .level false ∧ hasPassed s.tick s.alc.wentLow (l.toNat * 100) then
        { u with alc := { u.alc with state := .level true } } else u).judgeLevel →
    exec (.setAlert (frame [g, b, m, p, l] extra)) s = .next (checked s 0x2B
      (g.toNat ≤ 15 ∧ b.toNat ≤ 1 ∧ m.toNat ≤ 1 ∧ 1 ≤ p.toNat ∧ p.toNat ≤ 10 ∧ 4 * p.toNat ≤ l.toNat)
      (match v.alc.state with
        | .pulse start =>
          if hasPassed s.tick start (p.toNat * 100) then { v with alc := { v.alc with state := .gap s.tick } } else v
        | .gap start =>
          if hasPassed s.tick start (p.toNat * 100) then { v with alc := { v.alc with state := .released } } else v
        | .released => v
        | .level _ => v))) ∧
  (∀ (s : State) (r2 r1 r0 : Byte) (extra : List Byte) (u : State),
    u = { s with msl := (match s.msl.tx, s.msl.out with
      | .sending start, m :: _ => { s.msl with tx := .cutting (charEnd s.msl.rate m.length start s.tick) }
      | _, _ => s.msl) } →
    exec (.setMicroLink (frame [r2, r1, r0] extra)) s = .next (checked s 0x28
      (115200 ≤ bytesToNat [r2, r1, r0] ∧ bytesToNat [r2, r1, r0] ≤ 2000000)
      (if bytesToNat [r2, r1, r0] = s.msl.rate then s
      else
        let v := match s.msl.rx with
          | .assembling _ began => offered (raised { u with msl := { u.msl with
              lineErrors := min 65535 (u.msl.lineErrors + 1), rx := .waiting began } } 26) [0x02, 0xA2, 0x03]
          | _ => u
        { v with msl := { v.msl with rate := bytesToNat [r2, r1, r0] } })))

/-! ## Host port -/

/-- The host commands whose length is fixed, with their CODE and the number of parameter bytes they require, for given levels
of the HSEL and ALERT pins (R175, Formats). -/
def Sys2Proof.Claims.fixedCommands (hsel low : Bool) : List ((List Byte → Instr) × Byte × Nat) :=
  [(fun b => .resetUnit b hsel, 0x01, 0), (fun b => .readStatus b low, 0x02, 0), (.readPosition, 0x03, 2),
   (.clearEvents, 0x04, 4), (.setEventMask, 0x05, 4), (.setLink, 0x06, 5), (.readLinkCounters, 0x07, 2),
   (.setCorrection, 0x08, 11), (.setAmplitude, 0x09, 5), (.setDirection, 0x0A, 2), (.setBridge, 0x0B, 2),
   (.readTracking, 0x0C, 1), (.enableAxis, 0x0D, 1), (.disableAxis, 0x0E, 1), (.ackFault, 0x0F, 1),
   (.datumNow, 0x10, 7), (.setDatumPreset, 0x11, 8), (.datumAtMark, 0x12, 8), (.releaseAxis, 0x13, 1),
   (.axisRestart, 0x14, 1), (.holdOutput, 0x15, 2), (.holdOutputRelease, 0x15, 2), (.setOptics, 0x16, 7),
   (.setConditions, 0x17, 7), (.setExpansion, 0x18, 3), (.setPlausibility, 0x19, 11), (.setProbe, 0x1A, 9),
   (.readConditions, 0x1B, 1), (.setFrame, 0x1C, 3), (.setSampleCheck, 0x1D, 4), (.setNotify, 0x1E, 1),
   (.readFrameState, 0x1F, 0), (.readServoState, 0x21, 0), (.setTrigger, 0x22, 5),
   (.queueContext, 0x23, 8), (.flushContexts, 0x24, 1), (.setCapture, 0x25, 4), (.readCaptures, 0x26, 2),
   (.readCaptureState, 0x27, 1), (.setMicroLink, 0x28, 3),
   (.setMonitor, 0x29, 17), (.clearMonitor, 0x2A, 1), (.setAlert, 0x2B, 5), (fun b => .readAlertState b low, 0x2C, 1)]

/-- A command frame whose LEN is not what its command requires, or that holds fewer bytes than LEN, is refused BAD_LENGTH and
does nothing else; bytes beyond the parameters change nothing; a CODE that names no command is refused UNKNOWN (R162 to
R164, R166, R172). -/
def Obligations.HostChecks : Prop :=
  (∀ (hsel low : Bool) (c : (List Byte → Instr) × Byte × Nat), c ∈ fixedCommands hsel low →
    (∀ (s : State) (body : List Byte), ¬ lengthFits c.2.2 body →
      exec (c.1 body) s = .next (taken s (refused s c.2.1 .badLength))) ∧
    (∀ (s : State) (ps extra : List Byte), ps.length = c.2.2 →
      exec (c.1 (frame ps extra)) s = exec (c.1 (frame ps [])) s)) ∧
  (∀ (s : State) (code : Byte) (body : List Byte), 0x2C < code.toNat →
    exec (.unknownCommand code body) s = .next (taken s (refused s code .unknown)))

/-- What a FETCH returns: the response that is ready, or BUSY with the CODE of the command in preparation, or NONE, each with
the lost mark (R164 to R166, Formats). -/
def Sys2Proof.Claims.fetchBytes (h : HostPort) : List Byte :=
  match h.response with
  | .none => [if h.lost = true then 0x82 else 0x02, 0, 0, 0]
  | .preparing r _ => [if h.lost = true then 0x81 else 0x01, r.code, 0, 0]
  | .ready r =>
    (BitVec.ofNat 8 ((match r.refusal with
      | none => 0
      | some .badLength => 7
      | some .badValue => 11
      | some .state => 15
      | some .noLock => 19
      | some .queueFull => 23
      | some .unknown => 27) + (if h.lost = true then 128 else 0)) : Byte) :: r.code ::
    BitVec.ofNat 8 (r.data.length / 256) :: BitVec.ofNat 8 r.data.length :: r.data

/-- The pending response is ready. -/
def Sys2Proof.Claims.isReady (h : HostPort) : Bool :=
  match h.response with
  | .ready _ => true
  | _ => false

/-- The host port after a FETCH frame that returned `bytes`, of a ready response or not, and carried `n` bytes after its CODE:
HDO carried the response and then ones (R165, R166). -/
def Sys2Proof.Claims.fetched (h : HostPort) (bytes : List Byte) (ready : Bool) (n : Nat) : HostPort :=
  { h with
    frame := .idle
    response := if ready = true ∧ bytes.length ≤ n then .none else h.response
    lost := if ready = true ∧ bytes.length ≤ n then false else h.lost
    hdo := (bytes ++ List.replicate (n - bytes.length) 0xFF).take n }

/-- A FETCH shifts out the response that is ready, or BUSY, or NONE, and then ones; one that has taken every byte of a ready
response leaves none pending and clears the lost mark, and every other leaves both (R164 to R166; that the bytes HDO carried
are kept in a field, and that a FETCH row does nothing while a selection is under way, are the model's choices, log entries 16
and 19). -/
def Obligations.FetchReturns : Prop :=
  ∀ (s : State) (n : Nat),
    exec (.fetch n) s = .next (taken s { s with hpt := fetched s.hpt (fetchBytes s.hpt) (isReady s.hpt) n })

/-- A selection of the host port, bit by bit: eight clocks make a byte, the CODE byte of FETCH fixes what the frame returns
from the pending response at that moment, and every other frame is a command frame, during which HDO carries ones; the frame
ends when HSEL goes high, after its last whole byte, with the row of its CODE; a selection without a whole byte does nothing;
and after a reset nothing is taken until HSEL has gone high, which ends the wait (R162, R163, R165, R172, R175). That HDO
carries ones in the CODE byte of a FETCH frame too is the model's choice, log entry 16, and that clocks and HSEL going high
arrive as line events is log entry 19. -/
def Obligations.HostClocksMakeFrames : Prop :=
  ∀ (s : State) (low : Bool),
    (s.hpt.waitHsel = true → lineStep (.hostDeselect low) s = exec .hselSeenHigh s ∧
      ∀ b, lineStep (.hostClock b) s = .next s) ∧
    (s.hpt.waitHsel = false → s.hpt.frame = .idle → s.hpt.clockOut = true ∧ lineStep (.hostDeselect low) s = .next s ∧
      ∀ b, lineStep (.hostClock b) s = .next { s with hpt := { s.hpt with frame := .receiving [b] } }) ∧
    (∀ bits, s.hpt.waitHsel = false → s.hpt.frame = .receiving bits → s.hpt.clockOut = true ∧
      (∀ b, bits.length = 7 → bits ++ [b] = List.replicate 8 false →
        lineStep (.hostClock b) s = .next { s with hpt := { s.hpt with
          frame := .sending { bytes := fetchBytes s.hpt, ready := isReady s.hpt } 0 } }) ∧
      (∀ b, bits.length ≠ 7 ∨ bits ++ [b] ≠ List.replicate 8 false →
        lineStep (.hostClock b) s = .next { s with hpt := { s.hpt with frame := .receiving (bits ++ [b]) } }) ∧
      (bits.length < 8 → lineStep (.hostDeselect low) s = .next { s with hpt := { s.hpt with frame := .idle } }) ∧
      (∀ (code : Byte) (body : List Byte) (rest : List Bool) (u : State), rest.length < 8 →
        bits = bytesToBits (code :: body) ++ rest → u = { s with hpt := { s.hpt with frame := .idle } } →
        (∀ c ∈ fixedCommands false low, c.2.1 = code → lineStep (.hostDeselect low) s = exec (c.1 body) u) ∧
        (code = 0x20 → lineStep (.hostDeselect low) s = exec (.setLayout body) u) ∧
        (0x2C < code.toNat → lineStep (.hostDeselect low) s = exec (.unknownCommand code body) u))) ∧
    (∀ f clocks, s.hpt.waitHsel = false → s.hpt.frame = .sending f clocks →
      s.hpt.clockOut = (bytesToBits f.bytes).getD clocks true ∧
      (∀ b, lineStep (.hostClock b) s = .next { s with hpt := { s.hpt with frame := .sending f (clocks + 1) } }) ∧
      lineStep (.hostDeselect low) s = .next { s with hpt := fetched s.hpt f.bytes f.ready (clocks / 8) })

/-- Power-on reset gives every block its values after reset in one act; RESET_UNIT does the same and leaves its own response
ready with the lost mark it made; what the links had assembled is discarded, and a selection of the servo port outlasts
both, with ones on SDO; after either the port takes no frame while HSEL is low, until it has been high (R72, R116, R146, R172,
R173; the level of HSEL is an operand, and the commands and line events that wait and the count of open choices are the model's
own, log entries 1, 3, 6 and 19). -/
def Obligations.Resets : Prop :=
  (∀ (s : State) (low : Bool),
    exec (.powerOnReset low) s = .next { State.reset with
      svp := { State.reset.svp with read := if s.svp.read = .idle then .idle else .spent }
      hpt := { State.reset.hpt with waitHsel := low }
      choices := s.choices, pending := s.pending, lines := s.lines }) ∧
  (∀ (s : State) (low : Bool) (extra : List Byte),
    exec (.resetUnit (frame [] extra) low) s = .next (taken s { State.reset with
      svp := { State.reset.svp with read := if s.svp.read = .idle then .idle else .spent }
      hpt := { State.reset.hpt with
        waitHsel := low, response := .ready { refusal := none, code := 0x01, data := [] }
        lost := s.hpt.lost || decide (s.hpt.response ≠ .none) }
      choices := s.choices, pending := s.pending, lines := s.lines })) ∧
  (∀ s : State, exec .hselSeenHigh s = .next { s with hpt := { s.hpt with waitHsel := false } })

/-- CLEAR_EVENTS returns all flags as they stood and clears those that its mask selects but RECORDS_READY, ATTN following (R164,
R168, R169; that the row does nothing while a selection is under way is the model's choice, log entry 19). -/
def Obligations.ClearEventsClearsSelectedFlags : Prop :=
  ∀ (s : State) (b3 b2 b1 b0 : Byte) (extra : List Byte), ∃ flags : BitVec 27,
    (∀ i, flags.getLsbD i = (s.hpt.flags.getLsbD i && !((bytesToNat [b3, b2, b1, b0]).testBit i && decide (i ≠ 0)))) ∧
    exec (.clearEvents (frame [b3, b2, b1, b0] extra)) s = .next (taken s
      (accepted s 0x04 (natBytes 4 s.hpt.flags.toNat) (withFlagsOf s flags)))

/-- SET_EVENT_MASK replaces the mask, bits 27 to 31 ignored, and ATTN follows at once (R169, R176; that the row does nothing
while a selection is under way is the model's choice, log entry 19). -/
def Obligations.SetEventMaskReplacesTheMask : Prop :=
  ∀ (s : State) (b3 b2 b1 b0 : Byte) (extra : List Byte) (mask : BitVec 27),
    mask = BitVec.ofNat 27 (bytesToNat [b3, b2, b1, b0]) →
    exec (.setEventMask (frame [b3, b2, b1, b0] extra)) s = .next (taken s (accepted s 0x05 []
      { s with hpt := { s.hpt with mask := mask, attn := s.hpt.flags &&& mask != 0 } }))

/-- The READ commands that clear nothing answer with their data and change nothing else: READ_STATUS, READ_POSITION,
READ_TRACKING, READ_FRAME_STATE and READ_SERVO_STATE (R43, R87, R102, R117, R170, R171, R175; the points of the codings that the
spec leaves open are the model's choices, log entry 9). -/
def Obligations.PlainReads : Prop :=
  (∀ (s : State) (low : Bool) (extra : List Byte),
    exec (.readStatus (frame [] extra) low) s = .next (taken s (accepted s 0x02
      (natBytes 6 s.tick.toNat ++ natBytes 4 s.hpt.flags.toNat ++ natBytes 4 s.hpt.mask.toNat ++ [flagByte s.hpt.attn] ++
        four.flatMap (fun a => axisData (s.slr.get a) (s.phu.get a)) ++
        [BitVec.ofNat 8 s.mEpoch.toNat, flagByte (s.cmu.heldN || s.cmu.heldT || s.cmu.stale), flagByte s.cmu.heldN,
          flagByte s.cmu.heldT, flagByte s.cmu.stale, s.cmu.compGen] ++ natBytes 2 s.fru.frameNo.toNat ++
        [s.fru.source.code, flagByte s.lcu.capture.isSome, BitVec.ofNat 8 s.lcu.contexts.length,
          BitVec.ofNat 8 s.lcu.records.length, s.alc.state.code, flagByte s.alc.drive, if low = true then 0 else 1]) s))) ∧
  (∀ (s : State) (m u : Byte) (extra : List Byte),
    exec (.readPosition (frame [m, u] extra)) s = .next (taken s
      (if 1 ≤ m.toNat ∧ m.toNat ≤ 63 ∧ u.toNat ≤ 1 then accepted s 0x03 ([s.cmu.compGen] ++ natBytes 6 s.tick.toNat ++
        ([Source.phys .q0, .phys .q1, .phys .q2, .phys .q3, .m, .w].filter (fun x => picksSource m x)).flatMap (fun x =>
          intBytes 6 (if u = 1 then stepsNow s x
            else max (-140737488355327) (min 140737488355327 (lengthNow s x))) ++
          [one (if allOf s x (fun p => decide (p.state = .off)) = true then 0 else (match x with
              | .phys a => (s.phu.get a).epoch.toNat
              | .m => s.mEpoch.toNat
              | .w => s.mEpoch.toNat)),
            one (
              (if allOf s x (fun p => decide (p.state = .referenced) && p.lockView) = true ∧
                (u = 1 ∨ (-140737488355327 ≤ lengthNow s x ∧ lengthNow s x ≤ 140737488355327)) then 1 else 0) +
              (if anyOf s x (fun p => decide (p.state = .faulted)) = true then 2 else 0) +
              (if anyOf s x (fun p => decide (p.state = .armed)) = true then 4 else 0) +
              (if allOf s x (fun p => decide (p.state = .off)) = false ∧ allOf s x (fun p => p.lockView) = true then 8
                else 0))])) s
      else refused s 0x03 .badValue))) ∧
  (∀ (s : State) (a : Byte) (extra : List Byte),
    exec (.readTracking (frame [a] extra)) s = .next (taken s (if a.toNat ≤ 3 then
      accepted s 0x0C (trackingData (s.phu.get (quadAt a))) s else refused s 0x0C .badValue))) ∧
  (∀ (s : State) (extra : List Byte),
    exec (.readFrameState (frame [] extra)) s = .next (taken s (accepted s 0x1F (frameData s.fru) s))) ∧
  (∀ (s : State) (extra : List Byte),
    exec (.readServoState (frame [] extra)) s = .next (taken s (accepted s 0x21 (servoData s.svp) s)))

/-- The READ commands with a clear option answer with their data as it stood; CLEAR clears the counters they name in the same
act, and NO_CLEAR nothing: READ_LINK_COUNTERS, READ_CONDITIONS, READ_CAPTURE_STATE and READ_ALERT_STATE (R15, R79, R139,
R160, R175; the points of the codings that the spec leaves open are the model's choices, log entry 9). -/
def Obligations.ClearingReads : Prop :=
  (∀ (s : State) (m c : Byte) (extra : List Byte), ∃ slr : Four Receiver,
    (∀ a, slr.get a = if c = 1 ∧ picks m a = true then
      { s.slr.get a with goodFrames := 0, crcErrors := 0, gaps := 0, outOfOrder := 0, lockLosses := 0 }
      else s.slr.get a) ∧
    exec (.readLinkCounters (frame [m, c] extra)) s = .next (taken s
      (if 1 ≤ m.toNat ∧ m.toNat ≤ 15 ∧ c.toNat ≤ 1 then accepted s 0x07
        (([Quad.q0, .q1, .q2, .q3].filter (fun a => picks m a)).flatMap (fun a =>
          (s.slr.get a).link.code :: natBytes 4 (s.slr.get a).goodFrames.toNat ++ natBytes 2 (s.slr.get a).crcErrors ++
            natBytes 2 (s.slr.get a).gaps ++ natBytes 2 (s.slr.get a).outOfOrder ++
            [BitVec.ofNat 8 (s.slr.get a).lockLosses])) { s with slr := slr }
      else refused s 0x07 .badValue))) ∧
  (∀ (s : State) (c : Byte) (extra : List Byte),
    exec (.readConditions (frame [c] extra)) s = .next (taken s (if c.toNat ≤ 1 then accepted s 0x1B (conditionsData s.cmu)
      (if c = 1 then { s with cmu := { s.cmu with accepted := 0, crcErrors := 0, duplicates := 0 } } else s)
      else refused s 0x1B .badValue))) ∧
  (∀ (s : State) (c : Byte) (extra : List Byte),
    exec (.readCaptureState (frame [c] extra)) s = .next (taken s (if c.toNat ≤ 1 then
      accepted s 0x27 (captureData s.lcu s.msl)
        (if c = 1 then { s with msl := { s.msl with messages := 0, lineErrors := 0, gapDiscards := 0, outDiscards := 0 } }
          else s)
      else refused s 0x27 .badValue))) ∧
  (∀ (s : State) (c : Byte) (low : Bool) (extra : List Byte) (faulted tripped : List Quad),
    faulted = four.filter (fun a => s.alc.guard.getLsbD a.toNat && decide ((s.phu.get a).state = .faulted)) →
    tripped = four.filter (fun m => (s.mnu.get m).tripped && decide ((s.mnu.get m).action = .alert)) →
    exec (.readAlertState (frame [c] extra) low) s = .next (taken s (if c.toNat ≤ 1 then
      accepted s 0x2C (alertData s low faulted tripped) (if c = 1 then { s with alc := { s.alc with coalesced := 0 } } else s)
      else refused s 0x2C .badValue)))

/-! ## Links and axes -/

/-- SET_LINK writes the three settings; a changed delay drops the link, and a timeout that has already passed expires at once:
an ACQUIRING link goes to DOWN, a LOCKED one loses lock, and one in DOWN stays. An axis that is not OFF then takes lock lost
with the tick of the command: the loss LINK by its state, with its event, then the tracking restart (R12, R16, R19, R48,
R49, R59). -/
def Obligations.SetLinkWritesAndDrops : Prop :=
  ∀ (s : State) (a limit timeout d1 d0 : Byte) (extra : List Byte) (u : State),
    u = withSlr s (quadAt a) { s.slr.get (quadAt a) with
      badRunLimit := limit.toNat, linkTimeout := timeout.toNat, sampleDelay := bytesToNat [d1, d0] } →
    ∃ v, exec (.setLink (frame [a, limit, timeout, d1, d0] extra)) s = .next (checked s 0x06
        (a.toNat ≤ 3 ∧ 1 ≤ limit.toNat ∧ limit.toNat ≤ 7 ∧ 1 ≤ timeout.toNat ∧ bytesToNat [d1, d0] ≤ 1023) v) ∧
      ((s.slr.get (quadAt a)).sampleDelay = bytesToNat [d1, d0] →
        ranOut s.tick (s.slr.get (quadAt a)).silence (timeout.toNat * 100) = false → v = u) ∧
      ((s.slr.get (quadAt a)).sampleDelay ≠ bytesToNat [d1, d0] ∨
          ranOut s.tick (s.slr.get (quadAt a)).silence (timeout.toNat * 100) = true →
        ((s.slr.get (quadAt a)).link = .down → v = u) ∧
        ((s.slr.get (quadAt a)).link = .acquiring → v = withSlr u (quadAt a) { u.slr.get (quadAt a) with
          link := .down, lastSeq := none, goodRun := 0, badRun := 0, silence := none }) ∧
        (∀ w : State, (s.slr.get (quadAt a)).link = .locked →
          w = withSlr u (quadAt a) { u.slr.get (quadAt a) with
            link := .down, lastSeq := none, goodRun := 0, badRun := 0, silence := none,
            lockLosses := min 255 ((u.slr.get (quadAt a)).lockLosses + 1) } →
          v.slr = w.slr ∧
          ((s.phu.get (quadAt a)).state = .off → v = w) ∧
          ((s.phu.get (quadAt a)).state ≠ .off → v = lockLostAt w (quadAt a) ∧ LockLostTaken s v (quadAt a))))

/-- SET_CORRECTION, SET_AMPLITUDE, SET_DATUM_PRESET, SET_DIRECTION and SET_BRIDGE: their checks and the settings they write; a
direction is refused STATE outside OFF and UNREFERENCED, and a budget waits for a missing run to end (R21, R23, R30, R37,
R52). -/
def Obligations.AxisSettings : Prop :=
  (∀ (s : State) (a o1 o0 c1 c0 g1 g0 h1 h0 q1 q0 : Byte) (extra : List Byte),
    exec (.setCorrection (frame [a, o1, o0, c1, c0, g1, g0, h1, h0, q1, q0] extra)) s = .next (checked s 0x08
      (a.toNat ≤ 3 ∧ -4096 ≤ bytesToInt [o1, o0] ∧ bytesToInt [o1, o0] ≤ 4095 ∧ -4096 ≤ bytesToInt [c1, c0] ∧
        bytesToInt [c1, c0] ≤ 4095 ∧ 8192 ≤ bytesToNat [g1, g0] ∧ bytesToNat [g1, g0] ≤ 24575 ∧
        8192 ≤ bytesToNat [h1, h0] ∧ bytesToNat [h1, h0] ≤ 24575 ∧ -2048 ≤ bytesToInt [q1, q0] ∧
        bytesToInt [q1, q0] ≤ 2047)
      (withPhu s (quadAt a) { s.phu.get (quadAt a) with correction := {
        os := bytesToInt [o1, o0], oc := bytesToInt [c1, c0], gs := bytesToNat [g1, g0], gc := bytesToNat [h1, h0],
        q := bytesToInt [q1, q0] } }))) ∧
  (∀ (s : State) (a l1 l0 h1 h0 : Byte) (extra : List Byte),
    exec (.setAmplitude (frame [a, l1, l0, h1, h0] extra)) s = .next (checked s 0x09
      (a.toNat ≤ 3 ∧ bytesToNat [l1, l0] < bytesToNat [h1, h0] ∧ bytesToNat [h1, h0] ≤ 32767)
      (withPhu s (quadAt a) { s.phu.get (quadAt a) with
        ampLow := bytesToNat [l1, l0], ampHigh := bytesToNat [h1, h0] }))) ∧
  (∀ (s : State) (a v5 v4 v3 v2 v1 v0 d : Byte) (extra : List Byte),
    exec (.setDatumPreset (frame [a, v5, v4, v3, v2, v1, v0, d] extra)) s = .next (checked s 0x11
      (a.toNat ≤ 3 ∧ -549755813888 ≤ count6 v5 v4 v3 v2 v1 v0 ∧ count6 v5 v4 v3 v2 v1 v0 ≤ 549755813887 ∧ d.toNat ≤ 2)
      (withPhu s (quadAt a) { s.phu.get (quadAt a) with preset := {
        value := count6 v5 v4 v3 v2 v1 v0
        direction := if d = 0 then .positive else if d = 1 then .negative else .any } }))) ∧
  (∀ (s : State) (a d : Byte) (extra : List Byte),
    exec (.setDirection (frame [a, d] extra)) s = .next (taken s
      (if ¬ (a.toNat ≤ 3 ∧ (d = 0x01 ∨ d = 0xFF)) then refused s 0x0A .badValue
      else if (s.phu.get (quadAt a)).state = .off ∨ (s.phu.get (quadAt a)).state = .unreferenced then
        accepted s 0x0A [] (withPhu s (quadAt a)
          { s.phu.get (quadAt a) with dir := if d = 0x01 then .plus else .minus })
      else refused s 0x0A .state))) ∧
  (∀ (s : State) (a n : Byte) (extra : List Byte),
    exec (.setBridge (frame [a, n] extra)) s = .next (checked s 0x0B (a.toNat ≤ 3 ∧ n.toNat ≤ 3)
      (withPhu s (quadAt a)
        (if (s.phu.get (quadAt a)).missing = 0 then
          { s.phu.get (quadAt a) with bridgeMax := n.toNat, pendingBridgeMax := none }
        else { s.phu.get (quadAt a) with pendingBridgeMax := some n.toNat }))))

/-- ENABLE_AXIS, RELEASE_AXIS, DATUM_AT_MARK and DATUM_NOW: the states each is accepted in, and the state each leaves;
DATUM_NOW needs a LOCKED lock view, loads ACC, advances the epoch, and reports the change to the capture in flight (R45,
R46, R51, R53, R56, R58, R59, R62). -/
def Obligations.AxisStateCommands : Prop :=
  (∀ (s : State) (a : Byte) (extra : List Byte),
    exec (.enableAxis (frame [a] extra)) s = .next (taken s
      (if 3 < a.toNat then refused s 0x0D .badValue
      else if (s.phu.get (quadAt a)).state = .off then accepted s 0x0D [] (withPhu s (quadAt a)
        { restarted (s.phu.get (quadAt a)) with
          state := .unreferenced, lockView := decide ((s.slr.get (quadAt a)).link = .locked) })
      else refused s 0x0D .state))) ∧
  (∀ (s : State) (a : Byte) (extra : List Byte),
    exec (.releaseAxis (frame [a] extra)) s = .next (taken s
      (if 3 < a.toNat then refused s 0x13 .badValue
      else if (s.phu.get (quadAt a)).state = .armed then accepted s 0x13 [] (withPhu s (quadAt a)
        { s.phu.get (quadAt a) with state := .unreferenced, armed := none })
      else if (s.phu.get (quadAt a)).state = .referenced then accepted s 0x13 [] (withPhu s (quadAt a)
        { s.phu.get (quadAt a) with state := .unreferenced })
      else refused s 0x13 .state))) ∧
  (∀ (s : State) (a v5 v4 v3 v2 v1 v0 d : Byte) (extra : List Byte),
    exec (.datumAtMark (frame [a, v5, v4, v3, v2, v1, v0, d] extra)) s = .next (taken s
      (if ¬ (a.toNat ≤ 3 ∧ -549755813888 ≤ count6 v5 v4 v3 v2 v1 v0 ∧ count6 v5 v4 v3 v2 v1 v0 ≤ 549755813887 ∧
          d.toNat ≤ 2) then refused s 0x12 .badValue
      else if (s.phu.get (quadAt a)).state = .unreferenced then accepted s 0x12 [] (withPhu s (quadAt a)
        { s.phu.get (quadAt a) with state := .armed, armed := some {
            value := count6 v5 v4 v3 v2 v1 v0
            direction := if d = 0 then .positive else if d = 1 then .negative else .any } })
      else refused s 0x12 .state))) ∧
  (∀ (s : State) (a v5 v4 v3 v2 v1 v0 : Byte) (extra : List Byte),
    exec (.datumNow (frame [a, v5, v4, v3, v2, v1, v0] extra)) s = .next (taken s
      (if ¬ (a.toNat ≤ 3 ∧ -549755813888 ≤ count6 v5 v4 v3 v2 v1 v0 ∧ count6 v5 v4 v3 v2 v1 v0 ≤ 549755813887) then
        refused s 0x10 .badValue
      else if (s.phu.get (quadAt a)).state = .off ∨ (s.phu.get (quadAt a)).state = .faulted then refused s 0x10 .state
      else if (s.phu.get (quadAt a)).lockView = false then refused s 0x10 .noLock
      else accepted s 0x10 [] (({ withPhu s (quadAt a) { s.phu.get (quadAt a) with
          acc := count6 v5 v4 v3 v2 v1 v0, state := .referenced, armed := none
          epoch := (s.phu.get (quadAt a)).epoch + 1 } with
        mEpoch := mEpochAfter s (quadAt a) } : State).reportToCapture (quadAt a) .epochChange))))

/-- ACK_FAULT, DISABLE_AXIS and AXIS_RESTART: the record each leaves, the epochs, the report to the capture in flight, and the
level condition judged anew; DISABLE_AXIS and AXIS_RESTART do nothing to an axis in OFF (R47, R50, R57 to R59, R62). -/
def Obligations.AxisClearing : Prop :=
  (∀ (s : State) (a : Byte) (extra : List Byte),
    exec (.ackFault (frame [a] extra)) s = .next (taken s
      (if 3 < a.toNat then refused s 0x0F .badValue
      else if (s.phu.get (quadAt a)).state = .faulted then accepted s 0x0F [] (withPhu s (quadAt a)
        { s.phu.get (quadAt a) with state := .unreferenced, fault := none, hold := 0 }).judgeLevel
      else refused s 0x0F .state))) ∧
  (∀ (s : State) (a : Byte) (extra : List Byte),
    exec (.disableAxis (frame [a] extra)) s = .next (taken s
      (if 3 < a.toNat then refused s 0x0E .badValue
      else if (s.phu.get (quadAt a)).state = .off then accepted s 0x0E [] s
      else accepted s 0x0E [] ((({ withPhu s (quadAt a) { restarted (s.phu.get (quadAt a)) with
          state := .off, acc := 0, fault := none, hold := 0, armed := none, saturated := false, bridged := false
          lockView := false, epoch := (s.phu.get (quadAt a)).epoch + 1 } with
        mEpoch := mEpochAfter s (quadAt a) } : State).reportToCapture (quadAt a) .disable).judgeLevel)))) ∧
  (∀ (s : State) (a : Byte) (extra : List Byte),
    exec (.axisRestart (frame [a] extra)) s = .next (taken s
      (if 3 < a.toNat then refused s 0x14 .badValue
      else if (s.phu.get (quadAt a)).state = .off then accepted s 0x14 [] s
      else accepted s 0x14 [] ((({ withPhu s (quadAt a) { restarted (s.phu.get (quadAt a)) with
          state := .unreferenced, acc := 0, fault := none, hold := 0, armed := none
          epoch := (s.phu.get (quadAt a)).epoch + 1 } with
        mEpoch := mEpochAfter s (quadAt a) } : State).reportToCapture (quadAt a) .restart).judgeLevel))))
end

