-- ==== Sys2Proof/Laws/State.lean ====
section
/-! SUPPORT. One lemma per field of State for each update of one block, and what reading a member of a group gives after a
member was replaced: no later proof unfolds an update. -/

namespace Sys2Proof

/-! ## Groups -/

@[simp] theorem Four.get_set_self {α : Type} (f : Four α) (i : Quad) (x : α) : (f.set i x).get i = x := by cases i <;> rfl

theorem Four.get_set {α : Type} (f : Four α) (i j : Quad) (x : α) : (f.set i x).get j = if j = i then x else f.get j := by
  cases i <;> cases j <;> rfl

@[simp] theorem Four.get_set_ne {α : Type} (f : Four α) {i j : Quad} (x : α) (h : j ≠ i) : (f.set i x).get j = f.get j := by
  rw [Four.get_set, if_neg h]

@[simp] theorem Four.set_get {α : Type} (f : Four α) (i : Quad) : f.set i (f.get i) = f := by cases i <;> rfl

@[simp] theorem Four.set_set {α : Type} (f : Four α) (i : Quad) (x y : α) : (f.set i x).set i y = f.set i y := by
  cases i <;> rfl

@[simp] theorem Four.get_mapIdx {α β : Type} (g : Quad → α → β) (f : Four α) (i : Quad) : (f.mapIdx g).get i = g i (f.get i) := by
  cases i <;> rfl

@[simp] theorem Four.get_replicate {α : Type} (x : α) (i : Quad) : (Four.replicate x).get i = x := by cases i <;> rfl

theorem Four.ext_get {α : Type} (f g : Four α) (h : ∀ i, f.get i = g.get i) : f = g := by
  cases f; cases g
  have h0 := h .q0; have h1 := h .q1; have h2 := h .q2; have h3 := h .q3
  simp only [Four.get] at h0 h1 h2 h3
  simp [h0, h1, h2, h3]

@[simp] theorem Two.get_set_self {α : Type} (f : Two α) (i : TrigInput) (x : α) : (f.set i x).get i = x := by cases i <;> rfl

theorem Two.get_set {α : Type} (f : Two α) (i j : TrigInput) (x : α) : (f.set i x).get j = if j = i then x else f.get j := by
  cases i <;> cases j <;> rfl

theorem Six.get_set {α : Type} (f : Six α) (x y : Source) (v : α) : (f.set x v).get y = if y = x then v else f.get y := by
  rcases x with a | _ | _ <;> rcases y with b | _ | _ <;> try rfl
  simp [Six.set, Six.get, Four.get_set]

/-! ## Updates of one block -/

namespace Machine

@[simp] theorem State.modPhu_tick (s : State) (a : Axis) (f : PhaseUnit → PhaseUnit) : (s.modPhu a f).tick = s.tick := rfl
@[simp] theorem State.modPhu_slr (s : State) (a : Axis) (f : PhaseUnit → PhaseUnit) : (s.modPhu a f).slr = s.slr := rfl
@[simp] theorem State.modPhu_phu (s : State) (a : Axis) (f : PhaseUnit → PhaseUnit) : (s.modPhu a f).phu = s.phu.set a (f (s.phu.get a)) := rfl
@[simp] theorem State.modPhu_mEpoch (s : State) (a : Axis) (f : PhaseUnit → PhaseUnit) : (s.modPhu a f).mEpoch = s.mEpoch := rfl
@[simp] theorem State.modPhu_cmu (s : State) (a : Axis) (f : PhaseUnit → PhaseUnit) : (s.modPhu a f).cmu = s.cmu := rfl
@[simp] theorem State.modPhu_fru (s : State) (a : Axis) (f : PhaseUnit → PhaseUnit) : (s.modPhu a f).fru = s.fru := rfl
@[simp] theorem State.modPhu_svp (s : State) (a : Axis) (f : PhaseUnit → PhaseUnit) : (s.modPhu a f).svp = s.svp := rfl
@[simp] theorem State.modPhu_lcu (s : State) (a : Axis) (f : PhaseUnit → PhaseUnit) : (s.modPhu a f).lcu = s.lcu := rfl
@[simp] theorem State.modPhu_msl (s : State) (a : Axis) (f : PhaseUnit → PhaseUnit) : (s.modPhu a f).msl = s.msl := rfl
@[simp] theorem State.modPhu_mnu (s : State) (a : Axis) (f : PhaseUnit → PhaseUnit) : (s.modPhu a f).mnu = s.mnu := rfl
@[simp] theorem State.modPhu_alc (s : State) (a : Axis) (f : PhaseUnit → PhaseUnit) : (s.modPhu a f).alc = s.alc := rfl
@[simp] theorem State.modPhu_hpt (s : State) (a : Axis) (f : PhaseUnit → PhaseUnit) : (s.modPhu a f).hpt = s.hpt := rfl
@[simp] theorem State.modPhu_choices (s : State) (a : Axis) (f : PhaseUnit → PhaseUnit) : (s.modPhu a f).choices = s.choices := rfl
@[simp] theorem State.modPhu_pending (s : State) (a : Axis) (f : PhaseUnit → PhaseUnit) : (s.modPhu a f).pending = s.pending := rfl
@[simp] theorem State.modPhu_lines (s : State) (a : Axis) (f : PhaseUnit → PhaseUnit) : (s.modPhu a f).lines = s.lines := rfl

@[simp] theorem State.modSlr_tick (s : State) (a : Axis) (f : Receiver → Receiver) : (s.modSlr a f).tick = s.tick := rfl
@[simp] theorem State.modSlr_slr (s : State) (a : Axis) (f : Receiver → Receiver) : (s.modSlr a f).slr = s.slr.set a (f (s.slr.get a)) := rfl
@[simp] theorem State.modSlr_phu (s : State) (a : Axis) (f : Receiver → Receiver) : (s.modSlr a f).phu = s.phu := rfl
@[simp] theorem State.modSlr_mEpoch (s : State) (a : Axis) (f : Receiver → Receiver) : (s.modSlr a f).mEpoch = s.mEpoch := rfl
@[simp] theorem State.modSlr_cmu (s : State) (a : Axis) (f : Receiver → Receiver) : (s.modSlr a f).cmu = s.cmu := rfl
@[simp] theorem State.modSlr_fru (s : State) (a : Axis) (f : Receiver → Receiver) : (s.modSlr a f).fru = s.fru := rfl
@[simp] theorem State.modSlr_svp (s : State) (a : Axis) (f : Receiver → Receiver) : (s.modSlr a f).svp = s.svp := rfl
@[simp] theorem State.modSlr_lcu (s : State) (a : Axis) (f : Receiver → Receiver) : (s.modSlr a f).lcu = s.lcu := rfl
@[simp] theorem State.modSlr_msl (s : State) (a : Axis) (f : Receiver → Receiver) : (s.modSlr a f).msl = s.msl := rfl
@[simp] theorem State.modSlr_mnu (s : State) (a : Axis) (f : Receiver → Receiver) : (s.modSlr a f).mnu = s.mnu := rfl
@[simp] theorem State.modSlr_alc (s : State) (a : Axis) (f : Receiver → Receiver) : (s.modSlr a f).alc = s.alc := rfl
@[simp] theorem State.modSlr_hpt (s : State) (a : Axis) (f : Receiver → Receiver) : (s.modSlr a f).hpt = s.hpt := rfl
@[simp] theorem State.modSlr_choices (s : State) (a : Axis) (f : Receiver → Receiver) : (s.modSlr a f).choices = s.choices := rfl
@[simp] theorem State.modSlr_pending (s : State) (a : Axis) (f : Receiver → Receiver) : (s.modSlr a f).pending = s.pending := rfl
@[simp] theorem State.modSlr_lines (s : State) (a : Axis) (f : Receiver → Receiver) : (s.modSlr a f).lines = s.lines := rfl

@[simp] theorem State.modCmu_tick (s : State) (f : Compensation → Compensation) : (s.modCmu f).tick = s.tick := rfl
@[simp] theorem State.modCmu_slr (s : State) (f : Compensation → Compensation) : (s.modCmu f).slr = s.slr := rfl
@[simp] theorem State.modCmu_phu (s : State) (f : Compensation → Compensation) : (s.modCmu f).phu = s.phu := rfl
@[simp] theorem State.modCmu_mEpoch (s : State) (f : Compensation → Compensation) : (s.modCmu f).mEpoch = s.mEpoch := rfl
@[simp] theorem State.modCmu_cmu (s : State) (f : Compensation → Compensation) : (s.modCmu f).cmu = f s.cmu := rfl
@[simp] theorem State.modCmu_fru (s : State) (f : Compensation → Compensation) : (s.modCmu f).fru = s.fru := rfl
@[simp] theorem State.modCmu_svp (s : State) (f : Compensation → Compensation) : (s.modCmu f).svp = s.svp := rfl
@[simp] theorem State.modCmu_lcu (s : State) (f : Compensation → Compensation) : (s.modCmu f).lcu = s.lcu := rfl
@[simp] theorem State.modCmu_msl (s : State) (f : Compensation → Compensation) : (s.modCmu f).msl = s.msl := rfl
@[simp] theorem State.modCmu_mnu (s : State) (f : Compensation → Compensation) : (s.modCmu f).mnu = s.mnu := rfl
@[simp] theorem State.modCmu_alc (s : State) (f : Compensation → Compensation) : (s.modCmu f).alc = s.alc := rfl
@[simp] theorem State.modCmu_hpt (s : State) (f : Compensation → Compensation) : (s.modCmu f).hpt = s.hpt := rfl
@[simp] theorem State.modCmu_choices (s : State) (f : Compensation → Compensation) : (s.modCmu f).choices = s.choices := rfl
@[simp] theorem State.modCmu_pending (s : State) (f : Compensation → Compensation) : (s.modCmu f).pending = s.pending := rfl
@[simp] theorem State.modCmu_lines (s : State) (f : Compensation → Compensation) : (s.modCmu f).lines = s.lines := rfl

@[simp] theorem State.modFru_tick (s : State) (f : FrameUnit → FrameUnit) : (s.modFru f).tick = s.tick := rfl
@[simp] theorem State.modFru_slr (s : State) (f : FrameUnit → FrameUnit) : (s.modFru f).slr = s.slr := rfl
@[simp] theorem State.modFru_phu (s : State) (f : FrameUnit → FrameUnit) : (s.modFru f).phu = s.phu := rfl
@[simp] theorem State.modFru_mEpoch (s : State) (f : FrameUnit → FrameUnit) : (s.modFru f).mEpoch = s.mEpoch := rfl
@[simp] theorem State.modFru_cmu (s : State) (f : FrameUnit → FrameUnit) : (s.modFru f).cmu = s.cmu := rfl
@[simp] theorem State.modFru_fru (s : State) (f : FrameUnit → FrameUnit) : (s.modFru f).fru = f s.fru := rfl
@[simp] theorem State.modFru_svp (s : State) (f : FrameUnit → FrameUnit) : (s.modFru f).svp = s.svp := rfl
@[simp] theorem State.modFru_lcu (s : State) (f : FrameUnit → FrameUnit) : (s.modFru f).lcu = s.lcu := rfl
@[simp] theorem State.modFru_msl (s : State) (f : FrameUnit → FrameUnit) : (s.modFru f).msl = s.msl := rfl
@[simp] theorem State.modFru_mnu (s : State) (f : FrameUnit → FrameUnit) : (s.modFru f).mnu = s.mnu := rfl
@[simp] theorem State.modFru_alc (s : State) (f : FrameUnit → FrameUnit) : (s.modFru f).alc = s.alc := rfl
@[simp] theorem State.modFru_hpt (s : State) (f : FrameUnit → FrameUnit) : (s.modFru f).hpt = s.hpt := rfl
@[simp] theorem State.modFru_choices (s : State) (f : FrameUnit → FrameUnit) : (s.modFru f).choices = s.choices := rfl
@[simp] theorem State.modFru_pending (s : State) (f : FrameUnit → FrameUnit) : (s.modFru f).pending = s.pending := rfl
@[simp] theorem State.modFru_lines (s : State) (f : FrameUnit → FrameUnit) : (s.modFru f).lines = s.lines := rfl

@[simp] theorem State.modSvp_tick (s : State) (f : ServoPort → ServoPort) : (s.modSvp f).tick = s.tick := rfl
@[simp] theorem State.modSvp_slr (s : State) (f : ServoPort → ServoPort) : (s.modSvp f).slr = s.slr := rfl
@[simp] theorem State.modSvp_phu (s : State) (f : ServoPort → ServoPort) : (s.modSvp f).phu = s.phu := rfl
@[simp] theorem State.modSvp_mEpoch (s : State) (f : ServoPort → ServoPort) : (s.modSvp f).mEpoch = s.mEpoch := rfl
@[simp] theorem State.modSvp_cmu (s : State) (f : ServoPort → ServoPort) : (s.modSvp f).cmu = s.cmu := rfl
@[simp] theorem State.modSvp_fru (s : State) (f : ServoPort → ServoPort) : (s.modSvp f).fru = s.fru := rfl
@[simp] theorem State.modSvp_svp (s : State) (f : ServoPort → ServoPort) : (s.modSvp f).svp = f s.svp := rfl
@[simp] theorem State.modSvp_lcu (s : State) (f : ServoPort → ServoPort) : (s.modSvp f).lcu = s.lcu := rfl
@[simp] theorem State.modSvp_msl (s : State) (f : ServoPort → ServoPort) : (s.modSvp f).msl = s.msl := rfl
@[simp] theorem State.modSvp_mnu (s : State) (f : ServoPort → ServoPort) : (s.modSvp f).mnu = s.mnu := rfl
@[simp] theorem State.modSvp_alc (s : State) (f : ServoPort → ServoPort) : (s.modSvp f).alc = s.alc := rfl
@[simp] theorem State.modSvp_hpt (s : State) (f : ServoPort → ServoPort) : (s.modSvp f).hpt = s.hpt := rfl
@[simp] theorem State.modSvp_choices (s : State) (f : ServoPort → ServoPort) : (s.modSvp f).choices = s.choices := rfl
@[simp] theorem State.modSvp_pending (s : State) (f : ServoPort → ServoPort) : (s.modSvp f).pending = s.pending := rfl
@[simp] theorem State.modSvp_lines (s : State) (f : ServoPort → ServoPort) : (s.modSvp f).lines = s.lines := rfl

@[simp] theorem State.modLcu_tick (s : State) (f : LineCapture → LineCapture) : (s.modLcu f).tick = s.tick := rfl
@[simp] theorem State.modLcu_slr (s : State) (f : LineCapture → LineCapture) : (s.modLcu f).slr = s.slr := rfl
@[simp] theorem State.modLcu_phu (s : State) (f : LineCapture → LineCapture) : (s.modLcu f).phu = s.phu := rfl
@[simp] theorem State.modLcu_mEpoch (s : State) (f : LineCapture → LineCapture) : (s.modLcu f).mEpoch = s.mEpoch := rfl
@[simp] theorem State.modLcu_cmu (s : State) (f : LineCapture → LineCapture) : (s.modLcu f).cmu = s.cmu := rfl
@[simp] theorem State.modLcu_fru (s : State) (f : LineCapture → LineCapture) : (s.modLcu f).fru = s.fru := rfl
@[simp] theorem State.modLcu_svp (s : State) (f : LineCapture → LineCapture) : (s.modLcu f).svp = s.svp := rfl
@[simp] theorem State.modLcu_lcu (s : State) (f : LineCapture → LineCapture) : (s.modLcu f).lcu = f s.lcu := rfl
@[simp] theorem State.modLcu_msl (s : State) (f : LineCapture → LineCapture) : (s.modLcu f).msl = s.msl := rfl
@[simp] theorem State.modLcu_mnu (s : State) (f : LineCapture → LineCapture) : (s.modLcu f).mnu = s.mnu := rfl
@[simp] theorem State.modLcu_alc (s : State) (f : LineCapture → LineCapture) : (s.modLcu f).alc = s.alc := rfl
@[simp] theorem State.modLcu_hpt (s : State) (f : LineCapture → LineCapture) : (s.modLcu f).hpt = s.hpt := rfl
@[simp] theorem State.modLcu_choices (s : State) (f : LineCapture → LineCapture) : (s.modLcu f).choices = s.choices := rfl
@[simp] theorem State.modLcu_pending (s : State) (f : LineCapture → LineCapture) : (s.modLcu f).pending = s.pending := rfl
@[simp] theorem State.modLcu_lines (s : State) (f : LineCapture → LineCapture) : (s.modLcu f).lines = s.lines := rfl

@[simp] theorem State.modMsl_tick (s : State) (f : MicroLink → MicroLink) : (s.modMsl f).tick = s.tick := rfl
@[simp] theorem State.modMsl_slr (s : State) (f : MicroLink → MicroLink) : (s.modMsl f).slr = s.slr := rfl
@[simp] theorem State.modMsl_phu (s : State) (f : MicroLink → MicroLink) : (s.modMsl f).phu = s.phu := rfl
@[simp] theorem State.modMsl_mEpoch (s : State) (f : MicroLink → MicroLink) : (s.modMsl f).mEpoch = s.mEpoch := rfl
@[simp] theorem State.modMsl_cmu (s : State) (f : MicroLink → MicroLink) : (s.modMsl f).cmu = s.cmu := rfl
@[simp] theorem State.modMsl_fru (s : State) (f : MicroLink → MicroLink) : (s.modMsl f).fru = s.fru := rfl
@[simp] theorem State.modMsl_svp (s : State) (f : MicroLink → MicroLink) : (s.modMsl f).svp = s.svp := rfl
@[simp] theorem State.modMsl_lcu (s : State) (f : MicroLink → MicroLink) : (s.modMsl f).lcu = s.lcu := rfl
@[simp] theorem State.modMsl_msl (s : State) (f : MicroLink → MicroLink) : (s.modMsl f).msl = f s.msl := rfl
@[simp] theorem State.modMsl_mnu (s : State) (f : MicroLink → MicroLink) : (s.modMsl f).mnu = s.mnu := rfl
@[simp] theorem State.modMsl_alc (s : State) (f : MicroLink → MicroLink) : (s.modMsl f).alc = s.alc := rfl
@[simp] theorem State.modMsl_hpt (s : State) (f : MicroLink → MicroLink) : (s.modMsl f).hpt = s.hpt := rfl
@[simp] theorem State.modMsl_choices (s : State) (f : MicroLink → MicroLink) : (s.modMsl f).choices = s.choices := rfl
@[simp] theorem State.modMsl_pending (s : State) (f : MicroLink → MicroLink) : (s.modMsl f).pending = s.pending := rfl
@[simp] theorem State.modMsl_lines (s : State) (f : MicroLink → MicroLink) : (s.modMsl f).lines = s.lines := rfl

@[simp] theorem State.modMonitor_tick (s : State) (m : MonitorId) (f : Monitor → Monitor) : (s.modMonitor m f).tick = s.tick := rfl
@[simp] theorem State.modMonitor_slr (s : State) (m : MonitorId) (f : Monitor → Monitor) : (s.modMonitor m f).slr = s.slr := rfl
@[simp] theorem State.modMonitor_phu (s : State) (m : MonitorId) (f : Monitor → Monitor) : (s.modMonitor m f).phu = s.phu := rfl
@[simp] theorem State.modMonitor_mEpoch (s : State) (m : MonitorId) (f : Monitor → Monitor) : (s.modMonitor m f).mEpoch = s.mEpoch := rfl
@[simp] theorem State.modMonitor_cmu (s : State) (m : MonitorId) (f : Monitor → Monitor) : (s.modMonitor m f).cmu = s.cmu := rfl
@[simp] theorem State.modMonitor_fru (s : State) (m : MonitorId) (f : Monitor → Monitor) : (s.modMonitor m f).fru = s.fru := rfl
@[simp] theorem State.modMonitor_svp (s : State) (m : MonitorId) (f : Monitor → Monitor) : (s.modMonitor m f).svp = s.svp := rfl
@[simp] theorem State.modMonitor_lcu (s : State) (m : MonitorId) (f : Monitor → Monitor) : (s.modMonitor m f).lcu = s.lcu := rfl
@[simp] theorem State.modMonitor_msl (s : State) (m : MonitorId) (f : Monitor → Monitor) : (s.modMonitor m f).msl = s.msl := rfl
@[simp] theorem State.modMonitor_mnu (s : State) (m : MonitorId) (f : Monitor → Monitor) : (s.modMonitor m f).mnu = s.mnu.set m (f (s.mnu.get m)) := rfl
@[simp] theorem State.modMonitor_alc (s : State) (m : MonitorId) (f : Monitor → Monitor) : (s.modMonitor m f).alc = s.alc := rfl
@[simp] theorem State.modMonitor_hpt (s : State) (m : MonitorId) (f : Monitor → Monitor) : (s.modMonitor m f).hpt = s.hpt := rfl
@[simp] theorem State.modMonitor_choices (s : State) (m : MonitorId) (f : Monitor → Monitor) : (s.modMonitor m f).choices = s.choices := rfl
@[simp] theorem State.modMonitor_pending (s : State) (m : MonitorId) (f : Monitor → Monitor) : (s.modMonitor m f).pending = s.pending := rfl
@[simp] theorem State.modMonitor_lines (s : State) (m : MonitorId) (f : Monitor → Monitor) : (s.modMonitor m f).lines = s.lines := rfl

@[simp] theorem State.modAlc_tick (s : State) (f : Alert → Alert) : (s.modAlc f).tick = s.tick := rfl
@[simp] theorem State.modAlc_slr (s : State) (f : Alert → Alert) : (s.modAlc f).slr = s.slr := rfl
@[simp] theorem State.modAlc_phu (s : State) (f : Alert → Alert) : (s.modAlc f).phu = s.phu := rfl
@[simp] theorem State.modAlc_mEpoch (s : State) (f : Alert → Alert) : (s.modAlc f).mEpoch = s.mEpoch := rfl
@[simp] theorem State.modAlc_cmu (s : State) (f : Alert → Alert) : (s.modAlc f).cmu = s.cmu := rfl
@[simp] theorem State.modAlc_fru (s : State) (f : Alert → Alert) : (s.modAlc f).fru = s.fru := rfl
@[simp] theorem State.modAlc_svp (s : State) (f : Alert → Alert) : (s.modAlc f).svp = s.svp := rfl
@[simp] theorem State.modAlc_lcu (s : State) (f : Alert → Alert) : (s.modAlc f).lcu = s.lcu := rfl
@[simp] theorem State.modAlc_msl (s : State) (f : Alert → Alert) : (s.modAlc f).msl = s.msl := rfl
@[simp] theorem State.modAlc_mnu (s : State) (f : Alert → Alert) : (s.modAlc f).mnu = s.mnu := rfl
@[simp] theorem State.modAlc_alc (s : State) (f : Alert → Alert) : (s.modAlc f).alc = f s.alc := rfl
@[simp] theorem State.modAlc_hpt (s : State) (f : Alert → Alert) : (s.modAlc f).hpt = s.hpt := rfl
@[simp] theorem State.modAlc_choices (s : State) (f : Alert → Alert) : (s.modAlc f).choices = s.choices := rfl
@[simp] theorem State.modAlc_pending (s : State) (f : Alert → Alert) : (s.modAlc f).pending = s.pending := rfl
@[simp] theorem State.modAlc_lines (s : State) (f : Alert → Alert) : (s.modAlc f).lines = s.lines := rfl

@[simp] theorem State.modHpt_tick (s : State) (f : HostPort → HostPort) : (s.modHpt f).tick = s.tick := rfl
@[simp] theorem State.modHpt_slr (s : State) (f : HostPort → HostPort) : (s.modHpt f).slr = s.slr := rfl
@[simp] theorem State.modHpt_phu (s : State) (f : HostPort → HostPort) : (s.modHpt f).phu = s.phu := rfl
@[simp] theorem State.modHpt_mEpoch (s : State) (f : HostPort → HostPort) : (s.modHpt f).mEpoch = s.mEpoch := rfl
@[simp] theorem State.modHpt_cmu (s : State) (f : HostPort → HostPort) : (s.modHpt f).cmu = s.cmu := rfl
@[simp] theorem State.modHpt_fru (s : State) (f : HostPort → HostPort) : (s.modHpt f).fru = s.fru := rfl
@[simp] theorem State.modHpt_svp (s : State) (f : HostPort → HostPort) : (s.modHpt f).svp = s.svp := rfl
@[simp] theorem State.modHpt_lcu (s : State) (f : HostPort → HostPort) : (s.modHpt f).lcu = s.lcu := rfl
@[simp] theorem State.modHpt_msl (s : State) (f : HostPort → HostPort) : (s.modHpt f).msl = s.msl := rfl
@[simp] theorem State.modHpt_mnu (s : State) (f : HostPort → HostPort) : (s.modHpt f).mnu = s.mnu := rfl
@[simp] theorem State.modHpt_alc (s : State) (f : HostPort → HostPort) : (s.modHpt f).alc = s.alc := rfl
@[simp] theorem State.modHpt_hpt (s : State) (f : HostPort → HostPort) : (s.modHpt f).hpt = f s.hpt := rfl
@[simp] theorem State.modHpt_choices (s : State) (f : HostPort → HostPort) : (s.modHpt f).choices = s.choices := rfl
@[simp] theorem State.modHpt_pending (s : State) (f : HostPort → HostPort) : (s.modHpt f).pending = s.pending := rfl
@[simp] theorem State.modHpt_lines (s : State) (f : HostPort → HostPort) : (s.modHpt f).lines = s.lines := rfl

@[simp] theorem State.withPending_tick (s : State) (q : List Instr) : (s.withPending q).tick = s.tick := rfl
@[simp] theorem State.withPending_slr (s : State) (q : List Instr) : (s.withPending q).slr = s.slr := rfl
@[simp] theorem State.withPending_phu (s : State) (q : List Instr) : (s.withPending q).phu = s.phu := rfl
@[simp] theorem State.withPending_mEpoch (s : State) (q : List Instr) : (s.withPending q).mEpoch = s.mEpoch := rfl
@[simp] theorem State.withPending_cmu (s : State) (q : List Instr) : (s.withPending q).cmu = s.cmu := rfl
@[simp] theorem State.withPending_fru (s : State) (q : List Instr) : (s.withPending q).fru = s.fru := rfl
@[simp] theorem State.withPending_svp (s : State) (q : List Instr) : (s.withPending q).svp = s.svp := rfl
@[simp] theorem State.withPending_lcu (s : State) (q : List Instr) : (s.withPending q).lcu = s.lcu := rfl
@[simp] theorem State.withPending_msl (s : State) (q : List Instr) : (s.withPending q).msl = s.msl := rfl
@[simp] theorem State.withPending_mnu (s : State) (q : List Instr) : (s.withPending q).mnu = s.mnu := rfl
@[simp] theorem State.withPending_alc (s : State) (q : List Instr) : (s.withPending q).alc = s.alc := rfl
@[simp] theorem State.withPending_hpt (s : State) (q : List Instr) : (s.withPending q).hpt = s.hpt := rfl
@[simp] theorem State.withPending_choices (s : State) (q : List Instr) : (s.withPending q).choices = s.choices := rfl
@[simp] theorem State.withPending_pending (s : State) (q : List Instr) : (s.withPending q).pending = q := rfl
@[simp] theorem State.withPending_lines (s : State) (q : List Instr) : (s.withPending q).lines = s.lines := rfl

@[simp] theorem State.withLines_tick (s : State) (q : List LineEvent) : (s.withLines q).tick = s.tick := rfl
@[simp] theorem State.withLines_slr (s : State) (q : List LineEvent) : (s.withLines q).slr = s.slr := rfl
@[simp] theorem State.withLines_phu (s : State) (q : List LineEvent) : (s.withLines q).phu = s.phu := rfl
@[simp] theorem State.withLines_mEpoch (s : State) (q : List LineEvent) : (s.withLines q).mEpoch = s.mEpoch := rfl
@[simp] theorem State.withLines_cmu (s : State) (q : List LineEvent) : (s.withLines q).cmu = s.cmu := rfl
@[simp] theorem State.withLines_fru (s : State) (q : List LineEvent) : (s.withLines q).fru = s.fru := rfl
@[simp] theorem State.withLines_svp (s : State) (q : List LineEvent) : (s.withLines q).svp = s.svp := rfl
@[simp] theorem State.withLines_lcu (s : State) (q : List LineEvent) : (s.withLines q).lcu = s.lcu := rfl
@[simp] theorem State.withLines_msl (s : State) (q : List LineEvent) : (s.withLines q).msl = s.msl := rfl
@[simp] theorem State.withLines_mnu (s : State) (q : List LineEvent) : (s.withLines q).mnu = s.mnu := rfl
@[simp] theorem State.withLines_alc (s : State) (q : List LineEvent) : (s.withLines q).alc = s.alc := rfl
@[simp] theorem State.withLines_hpt (s : State) (q : List LineEvent) : (s.withLines q).hpt = s.hpt := rfl
@[simp] theorem State.withLines_choices (s : State) (q : List LineEvent) : (s.withLines q).choices = s.choices := rfl
@[simp] theorem State.withLines_pending (s : State) (q : List LineEvent) : (s.withLines q).pending = s.pending := rfl
@[simp] theorem State.withLines_lines (s : State) (q : List LineEvent) : (s.withLines q).lines = q := rfl

@[simp] theorem State.pushFront_tick (s : State) (c : Instr) : (s.pushFront c).tick = s.tick := rfl
@[simp] theorem State.pushFront_slr (s : State) (c : Instr) : (s.pushFront c).slr = s.slr := rfl
@[simp] theorem State.pushFront_phu (s : State) (c : Instr) : (s.pushFront c).phu = s.phu := rfl
@[simp] theorem State.pushFront_mEpoch (s : State) (c : Instr) : (s.pushFront c).mEpoch = s.mEpoch := rfl
@[simp] theorem State.pushFront_cmu (s : State) (c : Instr) : (s.pushFront c).cmu = s.cmu := rfl
@[simp] theorem State.pushFront_fru (s : State) (c : Instr) : (s.pushFront c).fru = s.fru := rfl
@[simp] theorem State.pushFront_svp (s : State) (c : Instr) : (s.pushFront c).svp = s.svp := rfl
@[simp] theorem State.pushFront_lcu (s : State) (c : Instr) : (s.pushFront c).lcu = s.lcu := rfl
@[simp] theorem State.pushFront_msl (s : State) (c : Instr) : (s.pushFront c).msl = s.msl := rfl
@[simp] theorem State.pushFront_mnu (s : State) (c : Instr) : (s.pushFront c).mnu = s.mnu := rfl
@[simp] theorem State.pushFront_alc (s : State) (c : Instr) : (s.pushFront c).alc = s.alc := rfl
@[simp] theorem State.pushFront_hpt (s : State) (c : Instr) : (s.pushFront c).hpt = s.hpt := rfl
@[simp] theorem State.pushFront_choices (s : State) (c : Instr) : (s.pushFront c).choices = s.choices := rfl
@[simp] theorem State.pushFront_pending (s : State) (c : Instr) : (s.pushFront c).pending = c :: s.pending := rfl
@[simp] theorem State.pushFront_lines (s : State) (c : Instr) : (s.pushFront c).lines = s.lines := rfl

@[simp] theorem State.enqueue_tick (s : State) (c : Instr) : (s.enqueue c).tick = s.tick := rfl
@[simp] theorem State.enqueue_slr (s : State) (c : Instr) : (s.enqueue c).slr = s.slr := rfl
@[simp] theorem State.enqueue_phu (s : State) (c : Instr) : (s.enqueue c).phu = s.phu := rfl
@[simp] theorem State.enqueue_mEpoch (s : State) (c : Instr) : (s.enqueue c).mEpoch = s.mEpoch := rfl
@[simp] theorem State.enqueue_cmu (s : State) (c : Instr) : (s.enqueue c).cmu = s.cmu := rfl
@[simp] theorem State.enqueue_fru (s : State) (c : Instr) : (s.enqueue c).fru = s.fru := rfl
@[simp] theorem State.enqueue_svp (s : State) (c : Instr) : (s.enqueue c).svp = s.svp := rfl
@[simp] theorem State.enqueue_lcu (s : State) (c : Instr) : (s.enqueue c).lcu = s.lcu := rfl
@[simp] theorem State.enqueue_msl (s : State) (c : Instr) : (s.enqueue c).msl = s.msl := rfl
@[simp] theorem State.enqueue_mnu (s : State) (c : Instr) : (s.enqueue c).mnu = s.mnu := rfl
@[simp] theorem State.enqueue_alc (s : State) (c : Instr) : (s.enqueue c).alc = s.alc := rfl
@[simp] theorem State.enqueue_hpt (s : State) (c : Instr) : (s.enqueue c).hpt = s.hpt := rfl
@[simp] theorem State.enqueue_choices (s : State) (c : Instr) : (s.enqueue c).choices = s.choices := rfl
@[simp] theorem State.enqueue_pending (s : State) (c : Instr) : (s.enqueue c).pending = s.pending ++ [c] := rfl
@[simp] theorem State.enqueue_lines (s : State) (c : Instr) : (s.enqueue c).lines = s.lines := rfl

@[simp] theorem State.advanceTick_tick (s : State) : s.advanceTick.tick = s.tick + 1 := rfl
@[simp] theorem State.advanceTick_slr (s : State) : s.advanceTick.slr = s.slr := rfl
@[simp] theorem State.advanceTick_phu (s : State) : s.advanceTick.phu = s.phu := rfl
@[simp] theorem State.advanceTick_mEpoch (s : State) : s.advanceTick.mEpoch = s.mEpoch := rfl
@[simp] theorem State.advanceTick_cmu (s : State) : s.advanceTick.cmu = s.cmu := rfl
@[simp] theorem State.advanceTick_fru (s : State) : s.advanceTick.fru = s.fru := rfl
@[simp] theorem State.advanceTick_svp (s : State) : s.advanceTick.svp = s.svp := rfl
@[simp] theorem State.advanceTick_lcu (s : State) : s.advanceTick.lcu = s.lcu := rfl
@[simp] theorem State.advanceTick_msl (s : State) : s.advanceTick.msl = s.msl := rfl
@[simp] theorem State.advanceTick_mnu (s : State) : s.advanceTick.mnu = s.mnu := rfl
@[simp] theorem State.advanceTick_alc (s : State) : s.advanceTick.alc = s.alc := rfl
@[simp] theorem State.advanceTick_hpt (s : State) : s.advanceTick.hpt = s.hpt := rfl
@[simp] theorem State.advanceTick_choices (s : State) : s.advanceTick.choices = s.choices := rfl
@[simp] theorem State.advanceTick_pending (s : State) : s.advanceTick.pending = s.pending := rfl
@[simp] theorem State.advanceTick_lines (s : State) : s.advanceTick.lines = s.lines := rfl

@[simp] theorem State.withContexts_tick (s : State) (q : List Context) : (s.withContexts q).tick = s.tick := rfl
@[simp] theorem State.withContexts_slr (s : State) (q : List Context) : (s.withContexts q).slr = s.slr := rfl
@[simp] theorem State.withContexts_phu (s : State) (q : List Context) : (s.withContexts q).phu = s.phu := rfl
@[simp] theorem State.withContexts_mEpoch (s : State) (q : List Context) : (s.withContexts q).mEpoch = s.mEpoch := rfl
@[simp] theorem State.withContexts_cmu (s : State) (q : List Context) : (s.withContexts q).cmu = s.cmu := rfl
@[simp] theorem State.withContexts_fru (s : State) (q : List Context) : (s.withContexts q).fru = s.fru := rfl
@[simp] theorem State.withContexts_svp (s : State) (q : List Context) : (s.withContexts q).svp = s.svp := rfl
@[simp] theorem State.withContexts_lcu (s : State) (q : List Context) : (s.withContexts q).lcu = { s.lcu with contexts := q } := rfl
@[simp] theorem State.withContexts_msl (s : State) (q : List Context) : (s.withContexts q).msl = s.msl := rfl
@[simp] theorem State.withContexts_mnu (s : State) (q : List Context) : (s.withContexts q).mnu = s.mnu := rfl
@[simp] theorem State.withContexts_alc (s : State) (q : List Context) : (s.withContexts q).alc = s.alc := rfl
@[simp] theorem State.withContexts_hpt (s : State) (q : List Context) : (s.withContexts q).hpt = s.hpt := rfl
@[simp] theorem State.withContexts_choices (s : State) (q : List Context) : (s.withContexts q).choices = s.choices := rfl
@[simp] theorem State.withContexts_pending (s : State) (q : List Context) : (s.withContexts q).pending = s.pending := rfl
@[simp] theorem State.withContexts_lines (s : State) (q : List Context) : (s.withContexts q).lines = s.lines := rfl

end Machine

end Sys2Proof
end

