-- ==== Sys2Proof/Laws/FrameOps.lean ====
section
/-! SUPPORT. What each shared operation leaves alone. Each lemma names every field of State that no case of the operation changes. -/

namespace Sys2Proof.Machine

@[simp] theorem State.withFlags_frame (s : State) (v : BitVec 27) :
    (s.withFlags v).tick = s.tick ∧
    (s.withFlags v).slr = s.slr ∧
    (s.withFlags v).phu = s.phu ∧
    (s.withFlags v).mEpoch = s.mEpoch ∧
    (s.withFlags v).cmu = s.cmu ∧
    (s.withFlags v).fru = s.fru ∧
    (s.withFlags v).svp = s.svp ∧
    (s.withFlags v).lcu = s.lcu ∧
    (s.withFlags v).msl = s.msl ∧
    (s.withFlags v).mnu = s.mnu ∧
    (s.withFlags v).alc = s.alc ∧
    (s.withFlags v).choices = s.choices ∧
    (s.withFlags v).pending = s.pending ∧
    (s.withFlags v).lines = s.lines := by
  simp only [State.withFlags]
  simp

@[simp] theorem State.withMask_frame (s : State) (v : BitVec 27) :
    (s.withMask v).tick = s.tick ∧
    (s.withMask v).slr = s.slr ∧
    (s.withMask v).phu = s.phu ∧
    (s.withMask v).mEpoch = s.mEpoch ∧
    (s.withMask v).cmu = s.cmu ∧
    (s.withMask v).fru = s.fru ∧
    (s.withMask v).svp = s.svp ∧
    (s.withMask v).lcu = s.lcu ∧
    (s.withMask v).msl = s.msl ∧
    (s.withMask v).mnu = s.mnu ∧
    (s.withMask v).alc = s.alc ∧
    (s.withMask v).choices = s.choices ∧
    (s.withMask v).pending = s.pending ∧
    (s.withMask v).lines = s.lines := by
  simp only [State.withMask]
  simp

@[simp] theorem State.raise_frame (s : State) (f : Flag) :
    (s.raise f).tick = s.tick ∧
    (s.raise f).slr = s.slr ∧
    (s.raise f).phu = s.phu ∧
    (s.raise f).mEpoch = s.mEpoch ∧
    (s.raise f).cmu = s.cmu ∧
    (s.raise f).fru = s.fru ∧
    (s.raise f).svp = s.svp ∧
    (s.raise f).lcu = s.lcu ∧
    (s.raise f).msl = s.msl ∧
    (s.raise f).mnu = s.mnu ∧
    (s.raise f).alc = s.alc ∧
    (s.raise f).choices = s.choices ∧
    (s.raise f).pending = s.pending ∧
    (s.raise f).lines = s.lines := by
  simp only [State.raise]
  simp

@[simp] theorem State.raiseIf_frame (s : State) (b : Bool) (f : Flag) :
    (s.raiseIf b f).tick = s.tick ∧
    (s.raiseIf b f).slr = s.slr ∧
    (s.raiseIf b f).phu = s.phu ∧
    (s.raiseIf b f).mEpoch = s.mEpoch ∧
    (s.raiseIf b f).cmu = s.cmu ∧
    (s.raiseIf b f).fru = s.fru ∧
    (s.raiseIf b f).svp = s.svp ∧
    (s.raiseIf b f).lcu = s.lcu ∧
    (s.raiseIf b f).msl = s.msl ∧
    (s.raiseIf b f).mnu = s.mnu ∧
    (s.raiseIf b f).alc = s.alc ∧
    (s.raiseIf b f).choices = s.choices ∧
    (s.raiseIf b f).pending = s.pending ∧
    (s.raiseIf b f).lines = s.lines := by
  simp only [State.raiseIf]
  (repeat' split) <;> simp

@[simp] theorem State.judgeReady_frame (s : State) :
    s.judgeReady.tick = s.tick ∧
    s.judgeReady.slr = s.slr ∧
    s.judgeReady.phu = s.phu ∧
    s.judgeReady.mEpoch = s.mEpoch ∧
    s.judgeReady.cmu = s.cmu ∧
    s.judgeReady.fru = s.fru ∧
    s.judgeReady.svp = s.svp ∧
    s.judgeReady.lcu = s.lcu ∧
    s.judgeReady.msl = s.msl ∧
    s.judgeReady.mnu = s.mnu ∧
    s.judgeReady.alc = s.alc ∧
    s.judgeReady.choices = s.choices ∧
    s.judgeReady.pending = s.pending ∧
    s.judgeReady.lines = s.lines := by
  simp only [State.judgeReady]
  (repeat' split) <;> simp

@[simp] theorem State.endLevel_frame (s : State) :
    s.endLevel.tick = s.tick ∧
    s.endLevel.slr = s.slr ∧
    s.endLevel.phu = s.phu ∧
    s.endLevel.mEpoch = s.mEpoch ∧
    s.endLevel.cmu = s.cmu ∧
    s.endLevel.fru = s.fru ∧
    s.endLevel.svp = s.svp ∧
    s.endLevel.lcu = s.lcu ∧
    s.endLevel.msl = s.msl ∧
    s.endLevel.mnu = s.mnu ∧
    s.endLevel.hpt = s.hpt ∧
    s.endLevel.choices = s.choices ∧
    s.endLevel.pending = s.pending ∧
    s.endLevel.lines = s.lines := by
  simp only [State.endLevel]
  simp

@[simp] theorem State.enterLevel_frame (s : State) :
    s.enterLevel.tick = s.tick ∧
    s.enterLevel.slr = s.slr ∧
    s.enterLevel.phu = s.phu ∧
    s.enterLevel.mEpoch = s.mEpoch ∧
    s.enterLevel.cmu = s.cmu ∧
    s.enterLevel.fru = s.fru ∧
    s.enterLevel.svp = s.svp ∧
    s.enterLevel.lcu = s.lcu ∧
    s.enterLevel.msl = s.msl ∧
    s.enterLevel.mnu = s.mnu ∧
    s.enterLevel.hpt = s.hpt ∧
    s.enterLevel.choices = s.choices ∧
    s.enterLevel.pending = s.pending ∧
    s.enterLevel.lines = s.lines := by
  simp only [State.enterLevel]
  simp

@[simp] theorem State.judgeLevel_frame (s : State) :
    s.judgeLevel.tick = s.tick ∧
    s.judgeLevel.slr = s.slr ∧
    s.judgeLevel.phu = s.phu ∧
    s.judgeLevel.mEpoch = s.mEpoch ∧
    s.judgeLevel.cmu = s.cmu ∧
    s.judgeLevel.fru = s.fru ∧
    s.judgeLevel.svp = s.svp ∧
    s.judgeLevel.lcu = s.lcu ∧
    s.judgeLevel.msl = s.msl ∧
    s.judgeLevel.mnu = s.mnu ∧
    s.judgeLevel.hpt = s.hpt ∧
    s.judgeLevel.choices = s.choices ∧
    s.judgeLevel.pending = s.pending ∧
    s.judgeLevel.lines = s.lines := by
  simp only [State.judgeLevel]
  (repeat' split) <;> simp

@[simp] theorem State.pulseRequest_frame (s : State) :
    s.pulseRequest.tick = s.tick ∧
    s.pulseRequest.slr = s.slr ∧
    s.pulseRequest.phu = s.phu ∧
    s.pulseRequest.mEpoch = s.mEpoch ∧
    s.pulseRequest.cmu = s.cmu ∧
    s.pulseRequest.fru = s.fru ∧
    s.pulseRequest.svp = s.svp ∧
    s.pulseRequest.lcu = s.lcu ∧
    s.pulseRequest.msl = s.msl ∧
    s.pulseRequest.mnu = s.mnu ∧
    s.pulseRequest.hpt = s.hpt ∧
    s.pulseRequest.choices = s.choices ∧
    s.pulseRequest.pending = s.pending ∧
    s.pulseRequest.lines = s.lines := by
  simp only [State.pulseRequest]
  simp

@[simp] theorem State.bridgeRequest_frame (s : State) (a : Axis) :
    (s.bridgeRequest a).tick = s.tick ∧
    (s.bridgeRequest a).slr = s.slr ∧
    (s.bridgeRequest a).phu = s.phu ∧
    (s.bridgeRequest a).mEpoch = s.mEpoch ∧
    (s.bridgeRequest a).cmu = s.cmu ∧
    (s.bridgeRequest a).fru = s.fru ∧
    (s.bridgeRequest a).svp = s.svp ∧
    (s.bridgeRequest a).lcu = s.lcu ∧
    (s.bridgeRequest a).msl = s.msl ∧
    (s.bridgeRequest a).mnu = s.mnu ∧
    (s.bridgeRequest a).hpt = s.hpt ∧
    (s.bridgeRequest a).choices = s.choices ∧
    (s.bridgeRequest a).pending = s.pending ∧
    (s.bridgeRequest a).lines = s.lines := by
  simp only [State.bridgeRequest]
  (repeat' split) <;> simp

@[simp] theorem State.missRequest_frame (s : State) :
    s.missRequest.tick = s.tick ∧
    s.missRequest.slr = s.slr ∧
    s.missRequest.phu = s.phu ∧
    s.missRequest.mEpoch = s.mEpoch ∧
    s.missRequest.cmu = s.cmu ∧
    s.missRequest.fru = s.fru ∧
    s.missRequest.svp = s.svp ∧
    s.missRequest.lcu = s.lcu ∧
    s.missRequest.msl = s.msl ∧
    s.missRequest.mnu = s.mnu ∧
    s.missRequest.hpt = s.hpt ∧
    s.missRequest.choices = s.choices ∧
    s.missRequest.pending = s.pending ∧
    s.missRequest.lines = s.lines := by
  simp only [State.missRequest]
  (repeat' split) <;> simp

@[simp] theorem State.offerMessage_frame (s : State) (m : List Byte) :
    (s.offerMessage m).tick = s.tick ∧
    (s.offerMessage m).slr = s.slr ∧
    (s.offerMessage m).phu = s.phu ∧
    (s.offerMessage m).mEpoch = s.mEpoch ∧
    (s.offerMessage m).cmu = s.cmu ∧
    (s.offerMessage m).fru = s.fru ∧
    (s.offerMessage m).svp = s.svp ∧
    (s.offerMessage m).lcu = s.lcu ∧
    (s.offerMessage m).mnu = s.mnu ∧
    (s.offerMessage m).alc = s.alc ∧
    (s.offerMessage m).hpt = s.hpt ∧
    (s.offerMessage m).choices = s.choices ∧
    (s.offerMessage m).pending = s.pending ∧
    (s.offerMessage m).lines = s.lines := by
  simp only [State.offerMessage]
  simp

@[simp] theorem State.completeCapture_frame (s : State) (c : Capture) :
    (s.completeCapture c).tick = s.tick ∧
    (s.completeCapture c).slr = s.slr ∧
    (s.completeCapture c).phu = s.phu ∧
    (s.completeCapture c).mEpoch = s.mEpoch ∧
    (s.completeCapture c).cmu = s.cmu ∧
    (s.completeCapture c).fru = s.fru ∧
    (s.completeCapture c).svp = s.svp ∧
    (s.completeCapture c).mnu = s.mnu ∧
    (s.completeCapture c).alc = s.alc ∧
    (s.completeCapture c).choices = s.choices ∧
    (s.completeCapture c).pending = s.pending ∧
    (s.completeCapture c).lines = s.lines := by
  simp only [State.completeCapture]
  (repeat' split) <;> simp

@[simp] theorem State.completeIfSettled_frame (s : State) :
    s.completeIfSettled.tick = s.tick ∧
    s.completeIfSettled.slr = s.slr ∧
    s.completeIfSettled.phu = s.phu ∧
    s.completeIfSettled.mEpoch = s.mEpoch ∧
    s.completeIfSettled.cmu = s.cmu ∧
    s.completeIfSettled.fru = s.fru ∧
    s.completeIfSettled.svp = s.svp ∧
    s.completeIfSettled.mnu = s.mnu ∧
    s.completeIfSettled.alc = s.alc ∧
    s.completeIfSettled.choices = s.choices ∧
    s.completeIfSettled.pending = s.pending ∧
    s.completeIfSettled.lines = s.lines := by
  simp only [State.completeIfSettled]
  (repeat' split) <;> simp

@[simp] theorem State.progressEntry_frame (s : State) (a : Axis) (f : Capture → PhysEntry → Option HistEntry → EntryProgress) :
    (s.progressEntry a f).tick = s.tick ∧
    (s.progressEntry a f).slr = s.slr ∧
    (s.progressEntry a f).phu = s.phu ∧
    (s.progressEntry a f).mEpoch = s.mEpoch ∧
    (s.progressEntry a f).cmu = s.cmu ∧
    (s.progressEntry a f).fru = s.fru ∧
    (s.progressEntry a f).svp = s.svp ∧
    (s.progressEntry a f).mnu = s.mnu ∧
    (s.progressEntry a f).alc = s.alc ∧
    (s.progressEntry a f).choices = s.choices ∧
    (s.progressEntry a f).pending = s.pending ∧
    (s.progressEntry a f).lines = s.lines := by
  simp only [State.progressEntry]
  (repeat' split) <;> simp

@[simp] theorem State.reportToCapture_frame (s : State) (a : Axis) (r : AxisReport) :
    (s.reportToCapture a r).tick = s.tick ∧
    (s.reportToCapture a r).slr = s.slr ∧
    (s.reportToCapture a r).phu = s.phu ∧
    (s.reportToCapture a r).mEpoch = s.mEpoch ∧
    (s.reportToCapture a r).cmu = s.cmu ∧
    (s.reportToCapture a r).fru = s.fru ∧
    (s.reportToCapture a r).svp = s.svp ∧
    (s.reportToCapture a r).mnu = s.mnu ∧
    (s.reportToCapture a r).alc = s.alc ∧
    (s.reportToCapture a r).choices = s.choices ∧
    (s.reportToCapture a r).pending = s.pending ∧
    (s.reportToCapture a r).lines = s.lines := by
  simp only [State.reportToCapture]
  simp

@[simp] theorem State.offerToCapture_frame (s : State) (a : Axis) (h : HistEntry) :
    (s.offerToCapture a h).tick = s.tick ∧
    (s.offerToCapture a h).slr = s.slr ∧
    (s.offerToCapture a h).phu = s.phu ∧
    (s.offerToCapture a h).mEpoch = s.mEpoch ∧
    (s.offerToCapture a h).cmu = s.cmu ∧
    (s.offerToCapture a h).fru = s.fru ∧
    (s.offerToCapture a h).svp = s.svp ∧
    (s.offerToCapture a h).mnu = s.mnu ∧
    (s.offerToCapture a h).alc = s.alc ∧
    (s.offerToCapture a h).choices = s.choices ∧
    (s.offerToCapture a h).pending = s.pending ∧
    (s.offerToCapture a h).lines = s.lines := by
  simp only [State.offerToCapture]
  simp

@[simp] theorem State.advanceEpoch_frame (s : State) (a : Axis) :
    (s.advanceEpoch a).tick = s.tick ∧
    (s.advanceEpoch a).slr = s.slr ∧
    (s.advanceEpoch a).cmu = s.cmu ∧
    (s.advanceEpoch a).fru = s.fru ∧
    (s.advanceEpoch a).svp = s.svp ∧
    (s.advanceEpoch a).lcu = s.lcu ∧
    (s.advanceEpoch a).msl = s.msl ∧
    (s.advanceEpoch a).mnu = s.mnu ∧
    (s.advanceEpoch a).alc = s.alc ∧
    (s.advanceEpoch a).hpt = s.hpt ∧
    (s.advanceEpoch a).choices = s.choices ∧
    (s.advanceEpoch a).pending = s.pending ∧
    (s.advanceEpoch a).lines = s.lines := by
  simp only [State.advanceEpoch]
  (repeat' split) <;> simp

@[simp] theorem State.loadDatum_frame (s : State) (a : Axis) (v : Int) :
    (s.loadDatum a v).tick = s.tick ∧
    (s.loadDatum a v).slr = s.slr ∧
    (s.loadDatum a v).cmu = s.cmu ∧
    (s.loadDatum a v).fru = s.fru ∧
    (s.loadDatum a v).svp = s.svp ∧
    (s.loadDatum a v).lcu = s.lcu ∧
    (s.loadDatum a v).msl = s.msl ∧
    (s.loadDatum a v).mnu = s.mnu ∧
    (s.loadDatum a v).alc = s.alc ∧
    (s.loadDatum a v).hpt = s.hpt ∧
    (s.loadDatum a v).choices = s.choices ∧
    (s.loadDatum a v).pending = s.pending ∧
    (s.loadDatum a v).lines = s.lines := by
  simp only [State.loadDatum]
  simp

@[simp] theorem State.integrityLoss_frame (s : State) (a : Axis) (c : Cause) (t : Tick) (h : Int) :
    (s.integrityLoss a c t h).tick = s.tick ∧
    (s.integrityLoss a c t h).slr = s.slr ∧
    (s.integrityLoss a c t h).mEpoch = s.mEpoch ∧
    (s.integrityLoss a c t h).cmu = s.cmu ∧
    (s.integrityLoss a c t h).fru = s.fru ∧
    (s.integrityLoss a c t h).svp = s.svp ∧
    (s.integrityLoss a c t h).mnu = s.mnu ∧
    (s.integrityLoss a c t h).choices = s.choices ∧
    (s.integrityLoss a c t h).pending = s.pending ∧
    (s.integrityLoss a c t h).lines = s.lines := by
  simp only [State.integrityLoss]
  (repeat' split) <;> simp

@[simp] theorem State.kUpdate_frame (s : State) :
    s.kUpdate.tick = s.tick ∧
    s.kUpdate.slr = s.slr ∧
    s.kUpdate.phu = s.phu ∧
    s.kUpdate.mEpoch = s.mEpoch ∧
    s.kUpdate.fru = s.fru ∧
    s.kUpdate.svp = s.svp ∧
    s.kUpdate.lcu = s.lcu ∧
    s.kUpdate.msl = s.msl ∧
    s.kUpdate.mnu = s.mnu ∧
    s.kUpdate.alc = s.alc ∧
    s.kUpdate.hpt = s.hpt ∧
    s.kUpdate.choices = s.choices ∧
    s.kUpdate.pending = s.pending ∧
    s.kUpdate.lines = s.lines := by
  simp only [State.kUpdate]
  simp

@[simp] theorem State.kUpdateIf_frame (s : State) (b : Bool) :
    (s.kUpdateIf b).tick = s.tick ∧
    (s.kUpdateIf b).slr = s.slr ∧
    (s.kUpdateIf b).phu = s.phu ∧
    (s.kUpdateIf b).mEpoch = s.mEpoch ∧
    (s.kUpdateIf b).fru = s.fru ∧
    (s.kUpdateIf b).svp = s.svp ∧
    (s.kUpdateIf b).lcu = s.lcu ∧
    (s.kUpdateIf b).msl = s.msl ∧
    (s.kUpdateIf b).mnu = s.mnu ∧
    (s.kUpdateIf b).alc = s.alc ∧
    (s.kUpdateIf b).hpt = s.hpt ∧
    (s.kUpdateIf b).choices = s.choices ∧
    (s.kUpdateIf b).pending = s.pending ∧
    (s.kUpdateIf b).lines = s.lines := by
  simp only [State.kUpdateIf]
  (repeat' split) <;> simp

@[simp] theorem State.respond_frame (s : State) (p : PendingResponse) :
    (s.respond p).tick = s.tick ∧
    (s.respond p).slr = s.slr ∧
    (s.respond p).phu = s.phu ∧
    (s.respond p).mEpoch = s.mEpoch ∧
    (s.respond p).cmu = s.cmu ∧
    (s.respond p).fru = s.fru ∧
    (s.respond p).svp = s.svp ∧
    (s.respond p).lcu = s.lcu ∧
    (s.respond p).msl = s.msl ∧
    (s.respond p).mnu = s.mnu ∧
    (s.respond p).alc = s.alc ∧
    (s.respond p).choices = s.choices ∧
    (s.respond p).pending = s.pending ∧
    (s.respond p).lines = s.lines := by
  simp only [State.respond]
  simp

@[simp] theorem State.answer_frame (s : State) (code : Byte) (r : Reply) :
    (s.answer code r).tick = s.tick ∧
    (s.answer code r).slr = s.slr ∧
    (s.answer code r).phu = s.phu ∧
    (s.answer code r).mEpoch = s.mEpoch ∧
    (s.answer code r).cmu = s.cmu ∧
    (s.answer code r).fru = s.fru ∧
    (s.answer code r).svp = s.svp ∧
    (s.answer code r).lcu = s.lcu ∧
    (s.answer code r).msl = s.msl ∧
    (s.answer code r).mnu = s.mnu ∧
    (s.answer code r).alc = s.alc ∧
    (s.answer code r).choices = s.choices ∧
    (s.answer code r).pending = s.pending ∧
    (s.answer code r).lines = s.lines := by
  simp only [State.answer]
  (repeat' split) <;> simp

end Sys2Proof.Machine
end

