-- ==== Sys2Proof/Laws/FrameCounting.lean ====
section
/-! SUPPORT. What each operation of the sample path leaves alone. Each lemma names every field of State that no case of the operation changes. -/

namespace Sys2Proof.Machine

@[simp] theorem State.tripMonitor_frame (s : State) (i : MonitorId) :
    (s.tripMonitor i).tick = s.tick ∧
    (s.tripMonitor i).slr = s.slr ∧
    (s.tripMonitor i).phu = s.phu ∧
    (s.tripMonitor i).mEpoch = s.mEpoch ∧
    (s.tripMonitor i).cmu = s.cmu ∧
    (s.tripMonitor i).fru = s.fru ∧
    (s.tripMonitor i).svp = s.svp ∧
    (s.tripMonitor i).lcu = s.lcu ∧
    (s.tripMonitor i).msl = s.msl ∧
    (s.tripMonitor i).choices = s.choices ∧
    (s.tripMonitor i).pending = s.pending ∧
    (s.tripMonitor i).lines = s.lines := by
  simp only [State.tripMonitor]
  (repeat' split) <;> simp

@[simp] theorem State.evaluateMonitor_frame (s : State) (a : Axis) (i : MonitorId) :
    (s.evaluateMonitor a i).tick = s.tick ∧
    (s.evaluateMonitor a i).slr = s.slr ∧
    (s.evaluateMonitor a i).phu = s.phu ∧
    (s.evaluateMonitor a i).mEpoch = s.mEpoch ∧
    (s.evaluateMonitor a i).cmu = s.cmu ∧
    (s.evaluateMonitor a i).fru = s.fru ∧
    (s.evaluateMonitor a i).svp = s.svp ∧
    (s.evaluateMonitor a i).lcu = s.lcu ∧
    (s.evaluateMonitor a i).msl = s.msl ∧
    (s.evaluateMonitor a i).choices = s.choices ∧
    (s.evaluateMonitor a i).pending = s.pending ∧
    (s.evaluateMonitor a i).lines = s.lines := by
  simp only [State.evaluateMonitor]
  (repeat' split) <;> simp

@[simp] theorem State.evaluateMonitors_frame (s : State) (a : Axis) :
    (s.evaluateMonitors a).tick = s.tick ∧
    (s.evaluateMonitors a).slr = s.slr ∧
    (s.evaluateMonitors a).phu = s.phu ∧
    (s.evaluateMonitors a).mEpoch = s.mEpoch ∧
    (s.evaluateMonitors a).cmu = s.cmu ∧
    (s.evaluateMonitors a).fru = s.fru ∧
    (s.evaluateMonitors a).svp = s.svp ∧
    (s.evaluateMonitors a).lcu = s.lcu ∧
    (s.evaluateMonitors a).msl = s.msl ∧
    (s.evaluateMonitors a).choices = s.choices ∧
    (s.evaluateMonitors a).pending = s.pending ∧
    (s.evaluateMonitors a).lines = s.lines := by
  simp only [State.evaluateMonitors]
  simp

@[simp] theorem State.pushHistory_frame (s : State) (a : Axis) (e : HistEntry) :
    (s.pushHistory a e).tick = s.tick ∧
    (s.pushHistory a e).slr = s.slr ∧
    (s.pushHistory a e).mEpoch = s.mEpoch ∧
    (s.pushHistory a e).cmu = s.cmu ∧
    (s.pushHistory a e).fru = s.fru ∧
    (s.pushHistory a e).svp = s.svp ∧
    (s.pushHistory a e).lcu = s.lcu ∧
    (s.pushHistory a e).msl = s.msl ∧
    (s.pushHistory a e).mnu = s.mnu ∧
    (s.pushHistory a e).alc = s.alc ∧
    (s.pushHistory a e).hpt = s.hpt ∧
    (s.pushHistory a e).choices = s.choices ∧
    (s.pushHistory a e).pending = s.pending ∧
    (s.pushHistory a e).lines = s.lines := by
  simp only [State.pushHistory]
  simp

@[simp] theorem State.offerUpdate_frame (s : State) (a : Axis) (e : HistEntry) :
    (s.offerUpdate a e).tick = s.tick ∧
    (s.offerUpdate a e).slr = s.slr ∧
    (s.offerUpdate a e).phu = s.phu ∧
    (s.offerUpdate a e).mEpoch = s.mEpoch ∧
    (s.offerUpdate a e).cmu = s.cmu ∧
    (s.offerUpdate a e).fru = s.fru ∧
    (s.offerUpdate a e).svp = s.svp ∧
    (s.offerUpdate a e).choices = s.choices ∧
    (s.offerUpdate a e).pending = s.pending ∧
    (s.offerUpdate a e).lines = s.lines := by
  simp only [State.offerUpdate]
  simp

@[simp] theorem State.enterSample_frame (s : State) (a : Axis) (t : Tick) (k : SampleKind) :
    (s.enterSample a t k).tick = s.tick ∧
    (s.enterSample a t k).slr = s.slr ∧
    (s.enterSample a t k).mEpoch = s.mEpoch ∧
    (s.enterSample a t k).cmu = s.cmu ∧
    (s.enterSample a t k).fru = s.fru ∧
    (s.enterSample a t k).svp = s.svp ∧
    (s.enterSample a t k).choices = s.choices ∧
    (s.enterSample a t k).pending = s.pending ∧
    (s.enterSample a t k).lines = s.lines := by
  simp only [State.enterSample]
  simp

@[simp] theorem State.rangeLoss_frame (s : State) (a : Axis) (change : Int) (t : Tick) :
    (s.rangeLoss a change t).tick = s.tick ∧
    (s.rangeLoss a change t).slr = s.slr ∧
    (s.rangeLoss a change t).mEpoch = s.mEpoch ∧
    (s.rangeLoss a change t).cmu = s.cmu ∧
    (s.rangeLoss a change t).fru = s.fru ∧
    (s.rangeLoss a change t).svp = s.svp ∧
    (s.rangeLoss a change t).mnu = s.mnu ∧
    (s.rangeLoss a change t).choices = s.choices ∧
    (s.rangeLoss a change t).pending = s.pending ∧
    (s.rangeLoss a change t).lines = s.lines := by
  simp only [State.rangeLoss]
  (repeat' split) <;> simp

@[simp] theorem State.anchorSample_frame (s : State) (a : Axis) (p : BitVec 9) (t : Tick) :
    (s.anchorSample a p t).tick = s.tick ∧
    (s.anchorSample a p t).slr = s.slr ∧
    (s.anchorSample a p t).mEpoch = s.mEpoch ∧
    (s.anchorSample a p t).cmu = s.cmu ∧
    (s.anchorSample a p t).fru = s.fru ∧
    (s.anchorSample a p t).svp = s.svp ∧
    (s.anchorSample a p t).choices = s.choices ∧
    (s.anchorSample a p t).pending = s.pending ∧
    (s.anchorSample a p t).lines = s.lines := by
  simp only [State.anchorSample]
  simp

@[simp] theorem State.stepViolation_frame (s : State) (a : Axis) (p : BitVec 9) (t : Tick) :
    (s.stepViolation a p t).tick = s.tick ∧
    (s.stepViolation a p t).slr = s.slr ∧
    (s.stepViolation a p t).mEpoch = s.mEpoch ∧
    (s.stepViolation a p t).cmu = s.cmu ∧
    (s.stepViolation a p t).fru = s.fru ∧
    (s.stepViolation a p t).svp = s.svp ∧
    (s.stepViolation a p t).choices = s.choices ∧
    (s.stepViolation a p t).pending = s.pending ∧
    (s.stepViolation a p t).lines = s.lines := by
  simp only [State.stepViolation]
  simp

@[simp] theorem State.countSample_frame (s : State) (a : Axis) (mark : Bool) (p : BitVec 9) (d : Int) (t : Tick) :
    (s.countSample a mark p d t).tick = s.tick ∧
    (s.countSample a mark p d t).slr = s.slr ∧
    (s.countSample a mark p d t).cmu = s.cmu ∧
    (s.countSample a mark p d t).fru = s.fru ∧
    (s.countSample a mark p d t).svp = s.svp ∧
    (s.countSample a mark p d t).choices = s.choices ∧
    (s.countSample a mark p d t).pending = s.pending ∧
    (s.countSample a mark p d t).lines = s.lines := by
  simp only [State.countSample]
  (repeat' split) <;> simp

@[simp] theorem State.bridgeSample_frame (s : State) (a : Axis) (tn t : Tick) :
    (s.bridgeSample a tn t).tick = s.tick ∧
    (s.bridgeSample a tn t).slr = s.slr ∧
    (s.bridgeSample a tn t).mEpoch = s.mEpoch ∧
    (s.bridgeSample a tn t).cmu = s.cmu ∧
    (s.bridgeSample a tn t).fru = s.fru ∧
    (s.bridgeSample a tn t).svp = s.svp ∧
    (s.bridgeSample a tn t).choices = s.choices ∧
    (s.bridgeSample a tn t).pending = s.pending ∧
    (s.bridgeSample a tn t).lines = s.lines := by
  simp only [State.bridgeSample]
  simp

@[simp] theorem State.bridgeSamples_frame (a : Axis) (tn : Tick) (ts : List Tick) : ∀ s : State,
    (s.bridgeSamples a tn ts).tick = s.tick ∧
    (s.bridgeSamples a tn ts).slr = s.slr ∧
    (s.bridgeSamples a tn ts).mEpoch = s.mEpoch ∧
    (s.bridgeSamples a tn ts).cmu = s.cmu ∧
    (s.bridgeSamples a tn ts).fru = s.fru ∧
    (s.bridgeSamples a tn ts).svp = s.svp ∧
    (s.bridgeSamples a tn ts).choices = s.choices ∧
    (s.bridgeSamples a tn ts).pending = s.pending ∧
    (s.bridgeSamples a tn ts).lines = s.lines := by
  induction ts with
  | nil => intro s; exact ⟨rfl, rfl, rfl, rfl, rfl, rfl, rfl, rfl, rfl⟩
  | cons t ts ih =>
    intro s
    have h := ih (s.bridgeSample a tn t)
    have e : s.bridgeSamples a tn (t :: ts) = (s.bridgeSample a tn t).bridgeSamples a tn ts := rfl
    simp only [State.bridgeSample_frame] at h
    simp only [e]
    exact h

@[simp] theorem State.failBridge_frame (s : State) (a : Axis) (r : MissingReason) (tn : Tick) :
    (s.failBridge a r tn).tick = s.tick ∧
    (s.failBridge a r tn).slr = s.slr ∧
    (s.failBridge a r tn).mEpoch = s.mEpoch ∧
    (s.failBridge a r tn).cmu = s.cmu ∧
    (s.failBridge a r tn).fru = s.fru ∧
    (s.failBridge a r tn).svp = s.svp ∧
    (s.failBridge a r tn).mnu = s.mnu ∧
    (s.failBridge a r tn).choices = s.choices ∧
    (s.failBridge a r tn).pending = s.pending ∧
    (s.failBridge a r tn).lines = s.lines := by
  simp only [State.failBridge]
  simp

@[simp] theorem State.takeNotice_frame (s : State) (a : Axis) (r : MissingReason) (g : Nat) (tn : Tick) :
    (s.takeNotice a r g tn).tick = s.tick ∧
    (s.takeNotice a r g tn).slr = s.slr ∧
    (s.takeNotice a r g tn).mEpoch = s.mEpoch ∧
    (s.takeNotice a r g tn).cmu = s.cmu ∧
    (s.takeNotice a r g tn).fru = s.fru ∧
    (s.takeNotice a r g tn).svp = s.svp ∧
    (s.takeNotice a r g tn).choices = s.choices ∧
    (s.takeNotice a r g tn).pending = s.pending ∧
    (s.takeNotice a r g tn).lines = s.lines := by
  simp only [State.takeNotice]
  (repeat' split) <;> simp

@[simp] theorem State.takePhase_frame (s : State) (a : Axis) (mark : Bool) (p : BitVec 9) (t : Tick) :
    (s.takePhase a mark p t).tick = s.tick ∧
    (s.takePhase a mark p t).slr = s.slr ∧
    (s.takePhase a mark p t).cmu = s.cmu ∧
    (s.takePhase a mark p t).fru = s.fru ∧
    (s.takePhase a mark p t).svp = s.svp ∧
    (s.takePhase a mark p t).choices = s.choices ∧
    (s.takePhase a mark p t).pending = s.pending ∧
    (s.takePhase a mark p t).lines = s.lines := by
  simp only [State.takePhase]
  (repeat' split) <;> simp

@[simp] theorem State.takeSample_frame (s : State) (a : Axis) (f : SampleFields) (t : Tick) :
    (s.takeSample a f t).tick = s.tick ∧
    (s.takeSample a f t).slr = s.slr ∧
    (s.takeSample a f t).cmu = s.cmu ∧
    (s.takeSample a f t).fru = s.fru ∧
    (s.takeSample a f t).svp = s.svp ∧
    (s.takeSample a f t).choices = s.choices ∧
    (s.takeSample a f t).pending = s.pending ∧
    (s.takeSample a f t).lines = s.lines := by
  simp only [State.takeSample]
  (repeat' split) <;> simp

@[simp] theorem State.lockGained_frame (s : State) (a : Axis) :
    (s.lockGained a).tick = s.tick ∧
    (s.lockGained a).slr = s.slr ∧
    (s.lockGained a).mEpoch = s.mEpoch ∧
    (s.lockGained a).cmu = s.cmu ∧
    (s.lockGained a).fru = s.fru ∧
    (s.lockGained a).svp = s.svp ∧
    (s.lockGained a).lcu = s.lcu ∧
    (s.lockGained a).msl = s.msl ∧
    (s.lockGained a).mnu = s.mnu ∧
    (s.lockGained a).alc = s.alc ∧
    (s.lockGained a).hpt = s.hpt ∧
    (s.lockGained a).choices = s.choices ∧
    (s.lockGained a).pending = s.pending ∧
    (s.lockGained a).lines = s.lines := by
  simp only [State.lockGained]
  (repeat' split) <;> simp

@[simp] theorem State.lockLost_frame (s : State) (a : Axis) (t : Tick) :
    (s.lockLost a t).tick = s.tick ∧
    (s.lockLost a t).slr = s.slr ∧
    (s.lockLost a t).mEpoch = s.mEpoch ∧
    (s.lockLost a t).cmu = s.cmu ∧
    (s.lockLost a t).fru = s.fru ∧
    (s.lockLost a t).svp = s.svp ∧
    (s.lockLost a t).mnu = s.mnu ∧
    (s.lockLost a t).choices = s.choices ∧
    (s.lockLost a t).pending = s.pending ∧
    (s.lockLost a t).lines = s.lines := by
  simp only [State.lockLost]
  (repeat' split) <;> simp

@[simp] theorem State.handSample_frame (s : State) (a : Axis) (f : SampleFields) (t : Tick) :
    (s.handSample a f t).tick = s.tick ∧
    (s.handSample a f t).slr = s.slr ∧
    (s.handSample a f t).cmu = s.cmu ∧
    (s.handSample a f t).fru = s.fru ∧
    (s.handSample a f t).svp = s.svp ∧
    (s.handSample a f t).choices = s.choices ∧
    (s.handSample a f t).pending = s.pending ∧
    (s.handSample a f t).lines = s.lines := by
  simp only [State.handSample]
  (repeat' split) <;> simp

@[simp] theorem State.handNotice_frame (s : State) (a : Axis) (r : MissingReason) (g : Nat) (t : Tick) :
    (s.handNotice a r g t).tick = s.tick ∧
    (s.handNotice a r g t).slr = s.slr ∧
    (s.handNotice a r g t).mEpoch = s.mEpoch ∧
    (s.handNotice a r g t).cmu = s.cmu ∧
    (s.handNotice a r g t).fru = s.fru ∧
    (s.handNotice a r g t).svp = s.svp ∧
    (s.handNotice a r g t).choices = s.choices ∧
    (s.handNotice a r g t).pending = s.pending ∧
    (s.handNotice a r g t).lines = s.lines := by
  simp only [State.handNotice]
  (repeat' split) <;> simp

end Sys2Proof.Machine
end

