-- ==== Sys2Proof/Laws/FrameBlocks.lean ====
section
/-! SUPPORT. What each operation of a block leaves alone. Each lemma names every field of State that no case of the operation changes. -/

namespace Sys2Proof.Machine

@[simp] theorem State.contribute_frame (s : State) (a : Axis) (n : Nat) :
    (s.contribute a n).tick = s.tick ∧
    (s.contribute a n).slr = s.slr ∧
    (s.contribute a n).phu = s.phu ∧
    (s.contribute a n).mEpoch = s.mEpoch ∧
    (s.contribute a n).cmu = s.cmu ∧
    (s.contribute a n).svp = s.svp ∧
    (s.contribute a n).lcu = s.lcu ∧
    (s.contribute a n).msl = s.msl ∧
    (s.contribute a n).mnu = s.mnu ∧
    (s.contribute a n).alc = s.alc ∧
    (s.contribute a n).hpt = s.hpt ∧
    (s.contribute a n).choices = s.choices ∧
    (s.contribute a n).pending = s.pending ∧
    (s.contribute a n).lines = s.lines := by
  simp only [State.contribute]
  simp

@[simp] theorem State.loseLock_frame (s : State) (a : Axis) (t : Tick) :
    (s.loseLock a t).tick = s.tick ∧
    (s.loseLock a t).mEpoch = s.mEpoch ∧
    (s.loseLock a t).cmu = s.cmu ∧
    (s.loseLock a t).fru = s.fru ∧
    (s.loseLock a t).svp = s.svp ∧
    (s.loseLock a t).mnu = s.mnu ∧
    (s.loseLock a t).choices = s.choices ∧
    (s.loseLock a t).pending = s.pending ∧
    (s.loseLock a t).lines = s.lines := by
  simp only [State.loseLock]
  simp

@[simp] theorem State.dropLink_frame (s : State) (a : Axis) (t : Tick) :
    (s.dropLink a t).tick = s.tick ∧
    (s.dropLink a t).mEpoch = s.mEpoch ∧
    (s.dropLink a t).cmu = s.cmu ∧
    (s.dropLink a t).fru = s.fru ∧
    (s.dropLink a t).svp = s.svp ∧
    (s.dropLink a t).mnu = s.mnu ∧
    (s.dropLink a t).choices = s.choices ∧
    (s.dropLink a t).pending = s.pending ∧
    (s.dropLink a t).lines = s.lines := by
  simp only [State.dropLink]
  (repeat' split) <;> simp

@[simp] theorem State.acceptSample_frame (s : State) (a : Axis) (f : SampleFields) :
    (s.acceptSample a f).tick = s.tick ∧
    (s.acceptSample a f).cmu = s.cmu ∧
    (s.acceptSample a f).svp = s.svp ∧
    (s.acceptSample a f).choices = s.choices ∧
    (s.acceptSample a f).pending = s.pending ∧
    (s.acceptSample a f).lines = s.lines := by
  simp only [State.acceptSample]
  simp

@[simp] theorem State.occupyPosition_frame (s : State) (a : Axis) (dup : Bool) :
    (s.occupyPosition a dup).tick = s.tick ∧
    (s.occupyPosition a dup).mEpoch = s.mEpoch ∧
    (s.occupyPosition a dup).cmu = s.cmu ∧
    (s.occupyPosition a dup).fru = s.fru ∧
    (s.occupyPosition a dup).svp = s.svp ∧
    (s.occupyPosition a dup).choices = s.choices ∧
    (s.occupyPosition a dup).pending = s.pending ∧
    (s.occupyPosition a dup).lines = s.lines := by
  simp only [State.occupyPosition]
  (repeat' split) <;> simp

@[simp] theorem State.badInLocked_frame (s : State) (a : Axis) (dup : Bool) :
    (s.badInLocked a dup).tick = s.tick ∧
    (s.badInLocked a dup).mEpoch = s.mEpoch ∧
    (s.badInLocked a dup).cmu = s.cmu ∧
    (s.badInLocked a dup).fru = s.fru ∧
    (s.badInLocked a dup).svp = s.svp ∧
    (s.badInLocked a dup).choices = s.choices ∧
    (s.badInLocked a dup).pending = s.pending ∧
    (s.badInLocked a dup).lines = s.lines := by
  simp only [State.badInLocked]
  (repeat' split) <;> simp

@[simp] theorem State.enterLocked_frame (s : State) (a : Axis) (f : SampleFields) :
    (s.enterLocked a f).tick = s.tick ∧
    (s.enterLocked a f).cmu = s.cmu ∧
    (s.enterLocked a f).svp = s.svp ∧
    (s.enterLocked a f).choices = s.choices ∧
    (s.enterLocked a f).pending = s.pending ∧
    (s.enterLocked a f).lines = s.lines := by
  simp only [State.enterLocked]
  simp

@[simp] theorem State.goodInAcquiring_frame (s : State) (a : Axis) (f : SampleFields) :
    (s.goodInAcquiring a f).tick = s.tick ∧
    (s.goodInAcquiring a f).cmu = s.cmu ∧
    (s.goodInAcquiring a f).svp = s.svp ∧
    (s.goodInAcquiring a f).choices = s.choices ∧
    (s.goodInAcquiring a f).pending = s.pending ∧
    (s.goodInAcquiring a f).lines = s.lines := by
  simp only [State.goodInAcquiring]
  (repeat' split) <;> simp

@[simp] theorem State.goodInLocked_frame (s : State) (a : Axis) (f : SampleFields) :
    (s.goodInLocked a f).tick = s.tick ∧
    (s.goodInLocked a f).cmu = s.cmu ∧
    (s.goodInLocked a f).svp = s.svp ∧
    (s.goodInLocked a f).choices = s.choices ∧
    (s.goodInLocked a f).pending = s.pending ∧
    (s.goodInLocked a f).lines = s.lines := by
  simp only [State.goodInLocked]
  (repeat' split) <;> simp

@[simp] theorem State.goodFrame_frame (s : State) (a : Axis) (f : SampleFields) :
    (s.goodFrame a f).tick = s.tick ∧
    (s.goodFrame a f).cmu = s.cmu ∧
    (s.goodFrame a f).svp = s.svp ∧
    (s.goodFrame a f).choices = s.choices ∧
    (s.goodFrame a f).pending = s.pending ∧
    (s.goodFrame a f).lines = s.lines := by
  simp only [State.goodFrame]
  (repeat' split) <;> simp

@[simp] theorem State.badFrame_frame (s : State) (a : Axis) :
    (s.badFrame a).tick = s.tick ∧
    (s.badFrame a).mEpoch = s.mEpoch ∧
    (s.badFrame a).cmu = s.cmu ∧
    (s.badFrame a).fru = s.fru ∧
    (s.badFrame a).svp = s.svp ∧
    (s.badFrame a).choices = s.choices ∧
    (s.badFrame a).pending = s.pending ∧
    (s.badFrame a).lines = s.lines := by
  simp only [State.badFrame]
  (repeat' split) <;> simp

@[simp] theorem State.takeFrame_frame (s : State) (a : Axis) (bits : List Bool) :
    (s.takeFrame a bits).tick = s.tick ∧
    (s.takeFrame a bits).cmu = s.cmu ∧
    (s.takeFrame a bits).svp = s.svp ∧
    (s.takeFrame a bits).choices = s.choices ∧
    (s.takeFrame a bits).pending = s.pending ∧
    (s.takeFrame a bits).lines = s.lines := by
  simp only [State.takeFrame]
  (repeat' split) <;> simp

@[simp] theorem State.writeLink_frame (s : State) (a : Axis) (l t d : Nat) :
    (s.writeLink a l t d).tick = s.tick ∧
    (s.writeLink a l t d).mEpoch = s.mEpoch ∧
    (s.writeLink a l t d).cmu = s.cmu ∧
    (s.writeLink a l t d).fru = s.fru ∧
    (s.writeLink a l t d).svp = s.svp ∧
    (s.writeLink a l t d).mnu = s.mnu ∧
    (s.writeLink a l t d).choices = s.choices ∧
    (s.writeLink a l t d).pending = s.pending ∧
    (s.writeLink a l t d).lines = s.lines := by
  simp only [State.writeLink]
  (repeat' split) <;> simp

@[simp] theorem State.raiseHeld_frame (s : State) (x : Compensation) :
    (s.raiseHeld x).tick = s.tick ∧
    (s.raiseHeld x).slr = s.slr ∧
    (s.raiseHeld x).phu = s.phu ∧
    (s.raiseHeld x).mEpoch = s.mEpoch ∧
    (s.raiseHeld x).cmu = s.cmu ∧
    (s.raiseHeld x).fru = s.fru ∧
    (s.raiseHeld x).svp = s.svp ∧
    (s.raiseHeld x).lcu = s.lcu ∧
    (s.raiseHeld x).msl = s.msl ∧
    (s.raiseHeld x).mnu = s.mnu ∧
    (s.raiseHeld x).alc = s.alc ∧
    (s.raiseHeld x).choices = s.choices ∧
    (s.raiseHeld x).pending = s.pending ∧
    (s.raiseHeld x).lines = s.lines := by
  simp only [State.raiseHeld]
  simp

@[simp] theorem State.acceptConditions_frame (s : State) (f : CondFields) :
    (s.acceptConditions f).tick = s.tick ∧
    (s.acceptConditions f).slr = s.slr ∧
    (s.acceptConditions f).phu = s.phu ∧
    (s.acceptConditions f).mEpoch = s.mEpoch ∧
    (s.acceptConditions f).fru = s.fru ∧
    (s.acceptConditions f).svp = s.svp ∧
    (s.acceptConditions f).lcu = s.lcu ∧
    (s.acceptConditions f).msl = s.msl ∧
    (s.acceptConditions f).mnu = s.mnu ∧
    (s.acceptConditions f).alc = s.alc ∧
    (s.acceptConditions f).choices = s.choices ∧
    (s.acceptConditions f).pending = s.pending ∧
    (s.acceptConditions f).lines = s.lines := by
  simp only [State.acceptConditions]
  simp

@[simp] theorem State.takeConditions_frame (s : State) (cs : List CondChar) :
    (s.takeConditions cs).tick = s.tick ∧
    (s.takeConditions cs).slr = s.slr ∧
    (s.takeConditions cs).phu = s.phu ∧
    (s.takeConditions cs).mEpoch = s.mEpoch ∧
    (s.takeConditions cs).fru = s.fru ∧
    (s.takeConditions cs).svp = s.svp ∧
    (s.takeConditions cs).lcu = s.lcu ∧
    (s.takeConditions cs).msl = s.msl ∧
    (s.takeConditions cs).mnu = s.mnu ∧
    (s.takeConditions cs).alc = s.alc ∧
    (s.takeConditions cs).choices = s.choices ∧
    (s.takeConditions cs).pending = s.pending ∧
    (s.takeConditions cs).lines = s.lines := by
  simp only [State.takeConditions]
  (repeat' split) <;> simp

@[simp] theorem State.goStale_frame (s : State) :
    s.goStale.tick = s.tick ∧
    s.goStale.slr = s.slr ∧
    s.goStale.phu = s.phu ∧
    s.goStale.mEpoch = s.mEpoch ∧
    s.goStale.fru = s.fru ∧
    s.goStale.svp = s.svp ∧
    s.goStale.lcu = s.lcu ∧
    s.goStale.msl = s.msl ∧
    s.goStale.mnu = s.mnu ∧
    s.goStale.alc = s.alc ∧
    s.goStale.choices = s.choices ∧
    s.goStale.pending = s.pending ∧
    s.goStale.lines = s.lines := by
  simp only [State.goStale]
  simp

@[simp] theorem State.activateK_frame (s : State) :
    s.activateK.tick = s.tick ∧
    s.activateK.slr = s.slr ∧
    s.activateK.phu = s.phu ∧
    s.activateK.mEpoch = s.mEpoch ∧
    s.activateK.fru = s.fru ∧
    s.activateK.svp = s.svp ∧
    s.activateK.lcu = s.lcu ∧
    s.activateK.msl = s.msl ∧
    s.activateK.mnu = s.mnu ∧
    s.activateK.alc = s.alc ∧
    s.activateK.choices = s.choices ∧
    s.activateK.pending = s.pending ∧
    s.activateK.lines = s.lines := by
  simp only [State.activateK]
  (repeat' split) <;> simp

@[simp] theorem State.applyConditions_frame (s : State) (ns : Bool) (n : Nat) (ts : Bool) (t : Nat) :
    (s.applyConditions ns n ts t).tick = s.tick ∧
    (s.applyConditions ns n ts t).slr = s.slr ∧
    (s.applyConditions ns n ts t).phu = s.phu ∧
    (s.applyConditions ns n ts t).mEpoch = s.mEpoch ∧
    (s.applyConditions ns n ts t).fru = s.fru ∧
    (s.applyConditions ns n ts t).svp = s.svp ∧
    (s.applyConditions ns n ts t).lcu = s.lcu ∧
    (s.applyConditions ns n ts t).msl = s.msl ∧
    (s.applyConditions ns n ts t).mnu = s.mnu ∧
    (s.applyConditions ns n ts t).alc = s.alc ∧
    (s.applyConditions ns n ts t).choices = s.choices ∧
    (s.applyConditions ns n ts t).pending = s.pending ∧
    (s.applyConditions ns n ts t).lines = s.lines := by
  simp only [State.applyConditions]
  simp

@[simp] theorem State.writePlausibility_frame (s : State) (n1 n2 t1 t2 tmo : Nat) :
    (s.writePlausibility n1 n2 t1 t2 tmo).tick = s.tick ∧
    (s.writePlausibility n1 n2 t1 t2 tmo).slr = s.slr ∧
    (s.writePlausibility n1 n2 t1 t2 tmo).phu = s.phu ∧
    (s.writePlausibility n1 n2 t1 t2 tmo).mEpoch = s.mEpoch ∧
    (s.writePlausibility n1 n2 t1 t2 tmo).fru = s.fru ∧
    (s.writePlausibility n1 n2 t1 t2 tmo).svp = s.svp ∧
    (s.writePlausibility n1 n2 t1 t2 tmo).lcu = s.lcu ∧
    (s.writePlausibility n1 n2 t1 t2 tmo).msl = s.msl ∧
    (s.writePlausibility n1 n2 t1 t2 tmo).mnu = s.mnu ∧
    (s.writePlausibility n1 n2 t1 t2 tmo).alc = s.alc ∧
    (s.writePlausibility n1 n2 t1 t2 tmo).choices = s.choices ∧
    (s.writePlausibility n1 n2 t1 t2 tmo).pending = s.pending ∧
    (s.writePlausibility n1 n2 t1 t2 tmo).lines = s.lines := by
  simp only [State.writePlausibility]
  (repeat' split) <;> simp

@[simp] theorem State.clearReadMarks_frame (s : State) :
    s.clearReadMarks.tick = s.tick ∧
    s.clearReadMarks.slr = s.slr ∧
    s.clearReadMarks.mEpoch = s.mEpoch ∧
    s.clearReadMarks.cmu = s.cmu ∧
    s.clearReadMarks.fru = s.fru ∧
    s.clearReadMarks.svp = s.svp ∧
    s.clearReadMarks.lcu = s.lcu ∧
    s.clearReadMarks.msl = s.msl ∧
    s.clearReadMarks.mnu = s.mnu ∧
    s.clearReadMarks.alc = s.alc ∧
    s.clearReadMarks.hpt = s.hpt ∧
    s.clearReadMarks.choices = s.choices ∧
    s.clearReadMarks.pending = s.pending ∧
    s.clearReadMarks.lines = s.lines := by
  simp only [State.clearReadMarks]
  simp

@[simp] theorem State.abandonRead_frame (s : State) :
    s.abandonRead.tick = s.tick ∧
    s.abandonRead.slr = s.slr ∧
    s.abandonRead.phu = s.phu ∧
    s.abandonRead.mEpoch = s.mEpoch ∧
    s.abandonRead.cmu = s.cmu ∧
    s.abandonRead.fru = s.fru ∧
    s.abandonRead.lcu = s.lcu ∧
    s.abandonRead.msl = s.msl ∧
    s.abandonRead.mnu = s.mnu ∧
    s.abandonRead.alc = s.alc ∧
    s.abandonRead.choices = s.choices ∧
    s.abandonRead.pending = s.pending ∧
    s.abandonRead.lines = s.lines := by
  simp only [State.abandonRead]
  (repeat' split) <;> simp

@[simp] theorem State.takeSnapshot_frame (s : State) (k : FrameKind) :
    (s.takeSnapshot k).tick = s.tick ∧
    (s.takeSnapshot k).slr = s.slr ∧
    (s.takeSnapshot k).mEpoch = s.mEpoch ∧
    (s.takeSnapshot k).cmu = s.cmu ∧
    (s.takeSnapshot k).fru = s.fru ∧
    (s.takeSnapshot k).lcu = s.lcu ∧
    (s.takeSnapshot k).msl = s.msl ∧
    (s.takeSnapshot k).mnu = s.mnu ∧
    (s.takeSnapshot k).alc = s.alc ∧
    (s.takeSnapshot k).hpt = s.hpt ∧
    (s.takeSnapshot k).choices = s.choices ∧
    (s.takeSnapshot k).pending = s.pending ∧
    (s.takeSnapshot k).lines = s.lines := by
  simp only [State.takeSnapshot]
  simp

@[simp] theorem State.servoFrameEvent_frame (s : State) (k : FrameKind) :
    (s.servoFrameEvent k).tick = s.tick ∧
    (s.servoFrameEvent k).slr = s.slr ∧
    (s.servoFrameEvent k).mEpoch = s.mEpoch ∧
    (s.servoFrameEvent k).cmu = s.cmu ∧
    (s.servoFrameEvent k).fru = s.fru ∧
    (s.servoFrameEvent k).lcu = s.lcu ∧
    (s.servoFrameEvent k).msl = s.msl ∧
    (s.servoFrameEvent k).mnu = s.mnu ∧
    (s.servoFrameEvent k).alc = s.alc ∧
    (s.servoFrameEvent k).choices = s.choices ∧
    (s.servoFrameEvent k).pending = s.pending ∧
    (s.servoFrameEvent k).lines = s.lines := by
  simp only [State.servoFrameEvent]
  simp

@[simp] theorem State.takeWord_frame (s : State) (w : BitVec 8) :
    (s.takeWord w).tick = s.tick ∧
    (s.takeWord w).slr = s.slr ∧
    (s.takeWord w).mEpoch = s.mEpoch ∧
    (s.takeWord w).cmu = s.cmu ∧
    (s.takeWord w).fru = s.fru ∧
    (s.takeWord w).svp = s.svp ∧
    (s.takeWord w).lcu = s.lcu ∧
    (s.takeWord w).msl = s.msl ∧
    (s.takeWord w).mnu = s.mnu ∧
    (s.takeWord w).alc = s.alc ∧
    (s.takeWord w).hpt = s.hpt ∧
    (s.takeWord w).choices = s.choices ∧
    (s.takeWord w).pending = s.pending ∧
    (s.takeWord w).lines = s.lines := by
  simp only [State.takeWord]
  simp

@[simp] theorem State.completeRead_frame (s : State) (w : BitVec 8) :
    (s.completeRead w).tick = s.tick ∧
    (s.completeRead w).slr = s.slr ∧
    (s.completeRead w).mEpoch = s.mEpoch ∧
    (s.completeRead w).cmu = s.cmu ∧
    (s.completeRead w).fru = s.fru ∧
    (s.completeRead w).lcu = s.lcu ∧
    (s.completeRead w).msl = s.msl ∧
    (s.completeRead w).mnu = s.mnu ∧
    (s.completeRead w).alc = s.alc ∧
    (s.completeRead w).hpt = s.hpt ∧
    (s.completeRead w).choices = s.choices ∧
    (s.completeRead w).pending = s.pending ∧
    (s.completeRead w).lines = s.lines := by
  simp only [State.completeRead]
  (repeat' split) <;> simp

@[simp] theorem State.checkAxis_frame (s : State) (a : Axis) :
    (s.checkAxis a).tick = s.tick ∧
    (s.checkAxis a).slr = s.slr ∧
    (s.checkAxis a).phu = s.phu ∧
    (s.checkAxis a).mEpoch = s.mEpoch ∧
    (s.checkAxis a).cmu = s.cmu ∧
    (s.checkAxis a).svp = s.svp ∧
    (s.checkAxis a).lcu = s.lcu ∧
    (s.checkAxis a).msl = s.msl ∧
    (s.checkAxis a).mnu = s.mnu ∧
    (s.checkAxis a).alc = s.alc ∧
    (s.checkAxis a).choices = s.choices ∧
    (s.checkAxis a).pending = s.pending ∧
    (s.checkAxis a).lines = s.lines := by
  simp only [State.checkAxis]
  simp

@[simp] theorem State.checkSamples_frame (s : State) :
    s.checkSamples.tick = s.tick ∧
    s.checkSamples.slr = s.slr ∧
    s.checkSamples.phu = s.phu ∧
    s.checkSamples.mEpoch = s.mEpoch ∧
    s.checkSamples.cmu = s.cmu ∧
    s.checkSamples.svp = s.svp ∧
    s.checkSamples.lcu = s.lcu ∧
    s.checkSamples.msl = s.msl ∧
    s.checkSamples.mnu = s.mnu ∧
    s.checkSamples.alc = s.alc ∧
    s.checkSamples.choices = s.choices ∧
    s.checkSamples.pending = s.pending ∧
    s.checkSamples.lines = s.lines := by
  simp only [State.checkSamples]
  simp

@[simp] theorem State.notify_frame (s : State) :
    s.notify.tick = s.tick ∧
    s.notify.slr = s.slr ∧
    s.notify.phu = s.phu ∧
    s.notify.mEpoch = s.mEpoch ∧
    s.notify.cmu = s.cmu ∧
    s.notify.svp = s.svp ∧
    s.notify.lcu = s.lcu ∧
    s.notify.msl = s.msl ∧
    s.notify.mnu = s.mnu ∧
    s.notify.alc = s.alc ∧
    s.notify.choices = s.choices ∧
    s.notify.pending = s.pending ∧
    s.notify.lines = s.lines := by
  simp only [State.notify]
  (repeat' split) <;> simp

@[simp] theorem State.activateAndSnapshot_frame (s : State) (k : FrameKind) :
    (s.activateAndSnapshot k).tick = s.tick ∧
    (s.activateAndSnapshot k).slr = s.slr ∧
    (s.activateAndSnapshot k).mEpoch = s.mEpoch ∧
    (s.activateAndSnapshot k).fru = s.fru ∧
    (s.activateAndSnapshot k).lcu = s.lcu ∧
    (s.activateAndSnapshot k).msl = s.msl ∧
    (s.activateAndSnapshot k).mnu = s.mnu ∧
    (s.activateAndSnapshot k).alc = s.alc ∧
    (s.activateAndSnapshot k).choices = s.choices ∧
    (s.activateAndSnapshot k).pending = s.pending ∧
    (s.activateAndSnapshot k).lines = s.lines := by
  simp only [State.activateAndSnapshot]
  (repeat' split) <;> simp

@[simp] theorem State.frameEvent_frame (s : State) (k : FrameKind) :
    (s.frameEvent k).tick = s.tick ∧
    (s.frameEvent k).slr = s.slr ∧
    (s.frameEvent k).mEpoch = s.mEpoch ∧
    (s.frameEvent k).lcu = s.lcu ∧
    (s.frameEvent k).msl = s.msl ∧
    (s.frameEvent k).mnu = s.mnu ∧
    (s.frameEvent k).alc = s.alc ∧
    (s.frameEvent k).pending = s.pending ∧
    (s.frameEvent k).lines = s.lines := by
  simp only [State.frameEvent]
  simp

@[simp] theorem State.loseSync_frame (s : State) :
    s.loseSync.tick = s.tick ∧
    s.loseSync.slr = s.slr ∧
    s.loseSync.phu = s.phu ∧
    s.loseSync.mEpoch = s.mEpoch ∧
    s.loseSync.cmu = s.cmu ∧
    s.loseSync.svp = s.svp ∧
    s.loseSync.lcu = s.lcu ∧
    s.loseSync.msl = s.msl ∧
    s.loseSync.mnu = s.mnu ∧
    s.loseSync.alc = s.alc ∧
    s.loseSync.choices = s.choices ∧
    s.loseSync.pending = s.pending ∧
    s.loseSync.lines = s.lines := by
  simp only [State.loseSync]
  simp

@[simp] theorem State.timerEvent_frame (s : State) :
    s.timerEvent.tick = s.tick ∧
    s.timerEvent.slr = s.slr ∧
    s.timerEvent.mEpoch = s.mEpoch ∧
    s.timerEvent.lcu = s.lcu ∧
    s.timerEvent.msl = s.msl ∧
    s.timerEvent.mnu = s.mnu ∧
    s.timerEvent.alc = s.alc ∧
    s.timerEvent.pending = s.pending ∧
    s.timerEvent.lines = s.lines := by
  simp only [State.timerEvent]
  simp

@[simp] theorem State.syncRise_frame (s : State) :
    s.syncRise.tick = s.tick ∧
    s.syncRise.slr = s.slr ∧
    s.syncRise.mEpoch = s.mEpoch ∧
    s.syncRise.lcu = s.lcu ∧
    s.syncRise.msl = s.msl ∧
    s.syncRise.mnu = s.mnu ∧
    s.syncRise.alc = s.alc ∧
    s.syncRise.pending = s.pending ∧
    s.syncRise.lines = s.lines := by
  simp only [State.syncRise]
  (repeat' split) <;> simp

@[simp] theorem State.judgeFrameTimers_frame (s : State) (b : Bool) :
    (s.judgeFrameTimers b).tick = s.tick ∧
    (s.judgeFrameTimers b).slr = s.slr ∧
    (s.judgeFrameTimers b).mEpoch = s.mEpoch ∧
    (s.judgeFrameTimers b).lcu = s.lcu ∧
    (s.judgeFrameTimers b).msl = s.msl ∧
    (s.judgeFrameTimers b).mnu = s.mnu ∧
    (s.judgeFrameTimers b).alc = s.alc ∧
    (s.judgeFrameTimers b).pending = s.pending ∧
    (s.judgeFrameTimers b).lines = s.lines := by
  simp only [State.judgeFrameTimers]
  (repeat' split) <;> simp

@[simp] theorem State.applyFrame_frame (s : State) (m : FrameMode) (p : Nat) :
    (s.applyFrame m p).tick = s.tick ∧
    (s.applyFrame m p).slr = s.slr ∧
    (s.applyFrame m p).mEpoch = s.mEpoch ∧
    (s.applyFrame m p).lcu = s.lcu ∧
    (s.applyFrame m p).msl = s.msl ∧
    (s.applyFrame m p).mnu = s.mnu ∧
    (s.applyFrame m p).alc = s.alc ∧
    (s.applyFrame m p).pending = s.pending ∧
    (s.applyFrame m p).lines = s.lines := by
  simp only [State.applyFrame]
  (repeat' split) <;> simp

@[simp] theorem State.openCapture_frame (s : State) (h : Context) (r : List Context) (i : TrigInput) (e : EdgeDir) :
    (s.openCapture h r i e).tick = s.tick ∧
    (s.openCapture h r i e).slr = s.slr ∧
    (s.openCapture h r i e).phu = s.phu ∧
    (s.openCapture h r i e).mEpoch = s.mEpoch ∧
    (s.openCapture h r i e).cmu = s.cmu ∧
    (s.openCapture h r i e).fru = s.fru ∧
    (s.openCapture h r i e).svp = s.svp ∧
    (s.openCapture h r i e).mnu = s.mnu ∧
    (s.openCapture h r i e).alc = s.alc ∧
    (s.openCapture h r i e).choices = s.choices ∧
    (s.openCapture h r i e).pending = s.pending ∧
    (s.openCapture h r i e).lines = s.lines := by
  simp only [State.openCapture]
  simp

@[simp] theorem State.missEdge_frame (s : State) :
    s.missEdge.tick = s.tick ∧
    s.missEdge.slr = s.slr ∧
    s.missEdge.phu = s.phu ∧
    s.missEdge.mEpoch = s.mEpoch ∧
    s.missEdge.cmu = s.cmu ∧
    s.missEdge.fru = s.fru ∧
    s.missEdge.svp = s.svp ∧
    s.missEdge.msl = s.msl ∧
    s.missEdge.mnu = s.mnu ∧
    s.missEdge.hpt = s.hpt ∧
    s.missEdge.choices = s.choices ∧
    s.missEdge.pending = s.pending ∧
    s.missEdge.lines = s.lines := by
  simp only [State.missEdge]
  simp

@[simp] theorem State.judgeEdge_frame (s : State) (i : TrigInput) (e : EdgeDir) :
    (s.judgeEdge i e).tick = s.tick ∧
    (s.judgeEdge i e).slr = s.slr ∧
    (s.judgeEdge i e).phu = s.phu ∧
    (s.judgeEdge i e).mEpoch = s.mEpoch ∧
    (s.judgeEdge i e).cmu = s.cmu ∧
    (s.judgeEdge i e).fru = s.fru ∧
    (s.judgeEdge i e).svp = s.svp ∧
    (s.judgeEdge i e).mnu = s.mnu ∧
    (s.judgeEdge i e).choices = s.choices ∧
    (s.judgeEdge i e).pending = s.pending ∧
    (s.judgeEdge i e).lines = s.lines := by
  simp only [State.judgeEdge]
  (repeat' split) <;> simp

@[simp] theorem State.startDeadTime_frame (s : State) (i : TrigInput) :
    (s.startDeadTime i).tick = s.tick ∧
    (s.startDeadTime i).slr = s.slr ∧
    (s.startDeadTime i).phu = s.phu ∧
    (s.startDeadTime i).mEpoch = s.mEpoch ∧
    (s.startDeadTime i).cmu = s.cmu ∧
    (s.startDeadTime i).fru = s.fru ∧
    (s.startDeadTime i).svp = s.svp ∧
    (s.startDeadTime i).msl = s.msl ∧
    (s.startDeadTime i).mnu = s.mnu ∧
    (s.startDeadTime i).alc = s.alc ∧
    (s.startDeadTime i).hpt = s.hpt ∧
    (s.startDeadTime i).choices = s.choices ∧
    (s.startDeadTime i).pending = s.pending ∧
    (s.startDeadTime i).lines = s.lines := by
  simp only [State.startDeadTime]
  simp

@[simp] theorem State.endDeadTime_frame (s : State) (i : TrigInput) :
    (s.endDeadTime i).tick = s.tick ∧
    (s.endDeadTime i).slr = s.slr ∧
    (s.endDeadTime i).phu = s.phu ∧
    (s.endDeadTime i).mEpoch = s.mEpoch ∧
    (s.endDeadTime i).cmu = s.cmu ∧
    (s.endDeadTime i).fru = s.fru ∧
    (s.endDeadTime i).svp = s.svp ∧
    (s.endDeadTime i).msl = s.msl ∧
    (s.endDeadTime i).mnu = s.mnu ∧
    (s.endDeadTime i).alc = s.alc ∧
    (s.endDeadTime i).hpt = s.hpt ∧
    (s.endDeadTime i).choices = s.choices ∧
    (s.endDeadTime i).pending = s.pending ∧
    (s.endDeadTime i).lines = s.lines := by
  simp only [State.endDeadTime]
  simp

@[simp] theorem State.timeOutCapture_frame (s : State) :
    s.timeOutCapture.tick = s.tick ∧
    s.timeOutCapture.slr = s.slr ∧
    s.timeOutCapture.phu = s.phu ∧
    s.timeOutCapture.mEpoch = s.mEpoch ∧
    s.timeOutCapture.cmu = s.cmu ∧
    s.timeOutCapture.fru = s.fru ∧
    s.timeOutCapture.svp = s.svp ∧
    s.timeOutCapture.mnu = s.mnu ∧
    s.timeOutCapture.alc = s.alc ∧
    s.timeOutCapture.choices = s.choices ∧
    s.timeOutCapture.pending = s.pending ∧
    s.timeOutCapture.lines = s.lines := by
  simp only [State.timeOutCapture]
  (repeat' split) <;> simp

@[simp] theorem State.lineErrorAt_frame (s : State) (t : Tick) :
    (s.lineErrorAt t).tick = s.tick ∧
    (s.lineErrorAt t).slr = s.slr ∧
    (s.lineErrorAt t).phu = s.phu ∧
    (s.lineErrorAt t).mEpoch = s.mEpoch ∧
    (s.lineErrorAt t).cmu = s.cmu ∧
    (s.lineErrorAt t).fru = s.fru ∧
    (s.lineErrorAt t).svp = s.svp ∧
    (s.lineErrorAt t).lcu = s.lcu ∧
    (s.lineErrorAt t).mnu = s.mnu ∧
    (s.lineErrorAt t).alc = s.alc ∧
    (s.lineErrorAt t).choices = s.choices ∧
    (s.lineErrorAt t).pending = s.pending ∧
    (s.lineErrorAt t).lines = s.lines := by
  simp only [State.lineErrorAt]
  simp

@[simp] theorem State.ignoredCharacter_frame (s : State) (b : Bool) (t : Tick) :
    (s.ignoredCharacter b t).tick = s.tick ∧
    (s.ignoredCharacter b t).slr = s.slr ∧
    (s.ignoredCharacter b t).phu = s.phu ∧
    (s.ignoredCharacter b t).mEpoch = s.mEpoch ∧
    (s.ignoredCharacter b t).cmu = s.cmu ∧
    (s.ignoredCharacter b t).fru = s.fru ∧
    (s.ignoredCharacter b t).svp = s.svp ∧
    (s.ignoredCharacter b t).lcu = s.lcu ∧
    (s.ignoredCharacter b t).mnu = s.mnu ∧
    (s.ignoredCharacter b t).alc = s.alc ∧
    (s.ignoredCharacter b t).hpt = s.hpt ∧
    (s.ignoredCharacter b t).choices = s.choices ∧
    (s.ignoredCharacter b t).pending = s.pending ∧
    (s.ignoredCharacter b t).lines = s.lines := by
  simp only [State.ignoredCharacter]
  (repeat' split) <;> simp

@[simp] theorem State.dropAssembly_frame (s : State) :
    s.dropAssembly.tick = s.tick ∧
    s.dropAssembly.slr = s.slr ∧
    s.dropAssembly.phu = s.phu ∧
    s.dropAssembly.mEpoch = s.mEpoch ∧
    s.dropAssembly.cmu = s.cmu ∧
    s.dropAssembly.fru = s.fru ∧
    s.dropAssembly.svp = s.svp ∧
    s.dropAssembly.lcu = s.lcu ∧
    s.dropAssembly.mnu = s.mnu ∧
    s.dropAssembly.alc = s.alc ∧
    s.dropAssembly.choices = s.choices ∧
    s.dropAssembly.pending = s.pending ∧
    s.dropAssembly.lines = s.lines := by
  simp only [State.dropAssembly]
  (repeat' split) <;> simp

@[simp] theorem State.changeRate_frame (s : State) (r : Nat) :
    (s.changeRate r).tick = s.tick ∧
    (s.changeRate r).slr = s.slr ∧
    (s.changeRate r).phu = s.phu ∧
    (s.changeRate r).mEpoch = s.mEpoch ∧
    (s.changeRate r).cmu = s.cmu ∧
    (s.changeRate r).fru = s.fru ∧
    (s.changeRate r).svp = s.svp ∧
    (s.changeRate r).lcu = s.lcu ∧
    (s.changeRate r).mnu = s.mnu ∧
    (s.changeRate r).alc = s.alc ∧
    (s.changeRate r).choices = s.choices ∧
    (s.changeRate r).pending = s.pending ∧
    (s.changeRate r).lines = s.lines := by
  simp only [State.changeRate]
  simp

@[simp] theorem State.endPulse_frame (s : State) :
    s.endPulse.tick = s.tick ∧
    s.endPulse.slr = s.slr ∧
    s.endPulse.phu = s.phu ∧
    s.endPulse.mEpoch = s.mEpoch ∧
    s.endPulse.cmu = s.cmu ∧
    s.endPulse.fru = s.fru ∧
    s.endPulse.svp = s.svp ∧
    s.endPulse.lcu = s.lcu ∧
    s.endPulse.msl = s.msl ∧
    s.endPulse.mnu = s.mnu ∧
    s.endPulse.hpt = s.hpt ∧
    s.endPulse.choices = s.choices ∧
    s.endPulse.pending = s.pending ∧
    s.endPulse.lines = s.lines := by
  simp only [State.endPulse]
  simp

@[simp] theorem State.endGap_frame (s : State) :
    s.endGap.tick = s.tick ∧
    s.endGap.slr = s.slr ∧
    s.endGap.phu = s.phu ∧
    s.endGap.mEpoch = s.mEpoch ∧
    s.endGap.cmu = s.cmu ∧
    s.endGap.fru = s.fru ∧
    s.endGap.svp = s.svp ∧
    s.endGap.lcu = s.lcu ∧
    s.endGap.msl = s.msl ∧
    s.endGap.mnu = s.mnu ∧
    s.endGap.hpt = s.hpt ∧
    s.endGap.choices = s.choices ∧
    s.endGap.pending = s.pending ∧
    s.endGap.lines = s.lines := by
  simp only [State.endGap]
  simp

@[simp] theorem State.endMinimum_frame (s : State) :
    s.endMinimum.tick = s.tick ∧
    s.endMinimum.slr = s.slr ∧
    s.endMinimum.phu = s.phu ∧
    s.endMinimum.mEpoch = s.mEpoch ∧
    s.endMinimum.cmu = s.cmu ∧
    s.endMinimum.fru = s.fru ∧
    s.endMinimum.svp = s.svp ∧
    s.endMinimum.lcu = s.lcu ∧
    s.endMinimum.msl = s.msl ∧
    s.endMinimum.mnu = s.mnu ∧
    s.endMinimum.hpt = s.hpt ∧
    s.endMinimum.choices = s.choices ∧
    s.endMinimum.pending = s.pending ∧
    s.endMinimum.lines = s.lines := by
  simp only [State.endMinimum]
  simp

@[simp] theorem State.clearMarks_frame (s : State) (m : QuadSet) :
    (s.clearMarks m).tick = s.tick ∧
    (s.clearMarks m).slr = s.slr ∧
    (s.clearMarks m).phu = s.phu ∧
    (s.clearMarks m).mEpoch = s.mEpoch ∧
    (s.clearMarks m).cmu = s.cmu ∧
    (s.clearMarks m).fru = s.fru ∧
    (s.clearMarks m).svp = s.svp ∧
    (s.clearMarks m).lcu = s.lcu ∧
    (s.clearMarks m).msl = s.msl ∧
    (s.clearMarks m).alc = s.alc ∧
    (s.clearMarks m).hpt = s.hpt ∧
    (s.clearMarks m).choices = s.choices ∧
    (s.clearMarks m).pending = s.pending ∧
    (s.clearMarks m).lines = s.lines := by
  simp only [State.clearMarks]
  simp

@[simp] theorem State.applyAlert_frame (s : State) (g : QuadSet) (b m : Bool) (p l : Nat) :
    (s.applyAlert g b m p l).tick = s.tick ∧
    (s.applyAlert g b m p l).slr = s.slr ∧
    (s.applyAlert g b m p l).phu = s.phu ∧
    (s.applyAlert g b m p l).mEpoch = s.mEpoch ∧
    (s.applyAlert g b m p l).cmu = s.cmu ∧
    (s.applyAlert g b m p l).fru = s.fru ∧
    (s.applyAlert g b m p l).svp = s.svp ∧
    (s.applyAlert g b m p l).lcu = s.lcu ∧
    (s.applyAlert g b m p l).msl = s.msl ∧
    (s.applyAlert g b m p l).mnu = s.mnu ∧
    (s.applyAlert g b m p l).hpt = s.hpt ∧
    (s.applyAlert g b m p l).choices = s.choices ∧
    (s.applyAlert g b m p l).pending = s.pending ∧
    (s.applyAlert g b m p l).lines = s.lines := by
  simp only [State.applyAlert]
  (repeat' split) <;> simp

/-- A line event touches the assemblies of the sample links, the conditions link, the microscope link, the servo port and the
host port, and nothing else; a row it completes has its own effect. -/
@[simp] theorem State.takeLine_frame (s : State) (e : LineEvent) :
    (s.takeLine e).1.tick = s.tick ∧
    (s.takeLine e).1.phu = s.phu ∧
    (s.takeLine e).1.mEpoch = s.mEpoch ∧
    (s.takeLine e).1.fru = s.fru ∧
    (s.takeLine e).1.lcu = s.lcu ∧
    (s.takeLine e).1.mnu = s.mnu ∧
    (s.takeLine e).1.alc = s.alc ∧
    (s.takeLine e).1.choices = s.choices ∧
    (s.takeLine e).1.pending = s.pending ∧
    (s.takeLine e).1.lines = s.lines := by
  cases e <;>
    simp only [State.takeLine, State.endSampleFrame, State.takeConditionsCharacter, State.endCharacter, State.takeCharacter,
      State.takeServoClock, State.deselectHost] <;>
    (repeat' split) <;> simp

end Sys2Proof.Machine
end

