-- ==== Sys2Proof/Laws/Shared.lean ====
section
/-! SUPPORT. Once for each shared operation, everything it can do: the claims cite these and unfold nothing. -/

namespace Sys2Proof.Machine

/-! ## Every command answers a next state -/

/-- No command of the table ends in a fault or a refusal. -/
theorem exec_isNext (i : Instr) (s : State) : ∃ t, exec i s = .next t := by
  cases i <;> exact ⟨_, rfl⟩

/-! ## Flags -/

theorem Flag.index_lt (f : Flag) : f.index < 27 := by
  cases f <;> simp only [Flag.index] <;> (try omega) <;> (rename_i a; cases a <;> simp [Quad.toNat])

theorem Flag.index_inj (f g : Flag) (h : f.index = g.index) : f = g := by
  cases f <;> cases g <;> simp only [Flag.index] at h <;> first
    | rfl
    | omega
    | (rename_i a b; cases a <;> cases b <;> simp_all [Quad.toNat])
    | (rename_i a; cases a <;> simp_all [Quad.toNat])

theorem Flag.getLsbD_bit (f : Flag) (i : Nat) : f.bit.getLsbD i = decide (i = f.index) := by
  have h := f.index_lt
  simp only [Flag.bit, BitVec.getLsbD_ofNat, Nat.testBit_two_pow]
  by_cases e : i = f.index
  · subst e; simp [h]
  · have e' : ¬ f.index = i := fun x => e x.symm
    simp [e, e']

/-- A raise sets its flag and leaves every other flag as it was (R167). -/
theorem State.flagSet_raise (s : State) (f g : Flag) : (s.raise f).flagSet g = (s.flagSet g || decide (g = f)) := by
  have e : (g.index = f.index) ↔ g = f := ⟨g.index_inj f, fun h => by rw [h]⟩
  simp only [State.flagSet, State.raise, State.withFlags, BitVec.getLsbD_or, Flag.getLsbD_bit]
  simp [e]

/-- RECORDS_READY as judged anew, and every other flag as it was (R135). -/
theorem State.flagSet_judgeReady (s : State) (g : Flag) :
    s.judgeReady.flagSet g =
      if g = .recordsReady then decide (s.lcu.readyLevel ≤ s.lcu.records.length) else s.flagSet g := by
  have e : (g.index = Flag.recordsReady.index) ↔ g = .recordsReady := ⟨g.index_inj _, fun h => by rw [h]⟩
  have hb : Flag.recordsReady.bit.getLsbD g.index = decide (g = .recordsReady) := by
    rw [Flag.getLsbD_bit]; exact decide_eq_decide.mpr e
  have hg := g.index_lt
  simp only [State.flagSet, State.judgeReady, State.withFlags]
  by_cases hr : s.lcu.readyLevel ≤ s.lcu.records.length <;> by_cases h : g = .recordsReady <;>
    simp only [hr, if_true, if_false, BitVec.getLsbD_or, BitVec.getLsbD_and, BitVec.getLsbD_not, hb] <;> simp [h, hg]

theorem State.withFlags_attn (s : State) (v : BitVec 27) : (s.withFlags v).hpt.attn = attnOf v s.hpt.mask := rfl

theorem State.raise_mask (s : State) (f : Flag) : (s.raise f).hpt.mask = s.hpt.mask := rfl

/-! ## Alert Controller -/

/-- A judgement of the level condition enters LEVEL, ends a level whose minimum is over, or changes nothing (R156, R157). -/
theorem State.judgeLevel_cases (s : State) :
    (s.levelCondition = true ∧ s.judgeLevel = s.enterLevel) ∨
    (s.levelCondition = false ∧ s.alc.state = .level true ∧ s.judgeLevel = s.endLevel) ∨
    (s.levelCondition = false ∧ s.alc.state ≠ .level true ∧ s.judgeLevel = s) := by
  simp only [State.judgeLevel]
  by_cases h : s.levelCondition = true
  · simp [h]
  · have h' : s.levelCondition = false := by simpa using h
    by_cases e : s.alc.state = .level true
    · simp [h', e]
    · refine .inr (.inr ⟨h', e, ?_⟩)
      simp only [h', Bool.false_eq_true, if_false]

/-- The state LEVEL is entered whatever the state was. -/
theorem State.enterLevel_state (s : State) : ∃ minimumOver, s.enterLevel.alc.state = .level minimumOver := by
  simp only [State.enterLevel, State.modAlc_alc]
  split
  all_goals first | exact ⟨_, rfl⟩ | exact ⟨_, by assumption⟩

/-- The level condition reads the axis states, the monitors and the guard mask alone (R155). -/
theorem State.levelCondition_congr (s t : State) (h1 : ∀ a, (t.phu.get a).state = (s.phu.get a).state)
    (h2 : ∀ m, (t.mnu.get m).tripped = (s.mnu.get m).tripped ∧ (t.mnu.get m).action = (s.mnu.get m).action)
    (h3 : t.alc.guard = s.alc.guard) : t.levelCondition = s.levelCondition := by
  simp [State.levelCondition, State.guardedFaults, State.trippedAlerts, h1, h2, h3]

/-! ## Microscope link -/

/-- An offered message is discarded and counted when the queue holds 4, and joins its end otherwise (R145). -/
theorem State.offerMessage_cases (s : State) (m : List Byte) :
    (4 ≤ s.msl.out.length ∧ s.offerMessage m = s.modMsl (fun x => { x with outDiscards := satAdd 65535 x.outDiscards 1 })) ∨
    (s.msl.out.length < 4 ∧ s.offerMessage m = s.modMsl (fun x =>
      { x with out := x.out ++ [m], tx := if x.out.isEmpty then .sending s.tick else x.tx })) := by
  by_cases h : 4 ≤ s.msl.out.length
  · exact .inl ⟨h, by simp [State.offerMessage, State.modMsl, Config.outgoingCapacity, h]⟩
  · exact .inr ⟨by omega, by simp [State.offerMessage, State.modMsl, Config.outgoingCapacity, h]⟩

/-! ## Captures -/

/-- The waiting entry of an axis takes new progress, and nothing happens where no entry of the axis waits. -/
theorem State.progressEntry_cases (s : State) (a : Axis) (f : Capture → PhysEntry → Option HistEntry → EntryProgress) :
    s.progressEntry a f = s ∨
    ∃ c e b, s.lcu.capture = some c ∧ c.phys.get a = some e ∧ e.progress = .waiting b ∧
      s.progressEntry a f = (s.modLcu (fun x =>
        { x with capture := some { c with phys := c.phys.set a (some { e with progress := f c e b }) } })).completeIfSettled := by
  unfold State.progressEntry
  split
  · exact .inl rfl
  · rename_i c hc
    split
    · exact .inl rfl
    · rename_i e he
      split
      · exact .inl rfl
      · rename_i b hb
        exact .inr ⟨c, e, b, hc, he, hb, rfl⟩

/-- A capture in flight with nothing waiting completes, and every other state stays as it is. -/
theorem State.completeIfSettled_cases (s : State) :
    (∃ c, s.lcu.capture = some c ∧ c.isSettled = true ∧ s.completeIfSettled = s.completeCapture c) ∨
    ((∀ c, s.lcu.capture = some c → c.isSettled = false) ∧ s.completeIfSettled = s) := by
  unfold State.completeIfSettled
  split
  · rename_i c hc
    by_cases h : c.isSettled = true
    · exact .inl ⟨c, hc, h, by simp [h]⟩
    · refine .inr ⟨fun d hd => ?_, by simp [h]⟩
      rw [hc] at hd; cases hd; simpa using h
  · rename_i hn
    exact .inr ⟨fun c hc => by simp [hn] at hc, rfl⟩

/-- What the Line Capture Unit holds after a capture completes (R133, R134). -/
theorem State.completeCapture_lcu (s : State) (c : Capture) :
    (s.completeCapture c).lcu = { s.lcu with
      capture := none
      missed := 0
      recordNo := s.lcu.recordNo + 1
      records := enqueueRecord s.lcu.policy s.lcu.records (recordOf c s.lcu.recordNo s.lcu.missed) } := by
  simp only [State.completeCapture]
  split <;> simp

/-- The record queue never grows past 32 (R134). -/
theorem enqueueRecord_length (p : QueuePolicy) (q : List Record) (r : Record) (h : q.length ≤ 32) :
    (enqueueRecord p q r).length ≤ 32 := by
  unfold enqueueRecord Config.recordCapacity
  split
  · rw [List.length_append, List.length_singleton]; omega
  · cases p <;> simp <;> omega

/-! ## Axis state machine -/

/-- An integrity loss, by the state in which it is taken (R48, R49). -/
theorem State.integrityLoss_cases (s : State) (a : Axis) (c : Cause) (t : Tick) (h : Int) :
    (((s.phu.get a).state = .off ∨ (s.phu.get a).state = .unreferenced) ∧ s.integrityLoss a c t h = s) ∨
    ((s.phu.get a).state = .armed ∧ s.integrityLoss a c t h =
      (s.modPhu a (fun p => { p with state := .unreferenced, armed := none })).raise (.armCancelled a)) ∨
    ((s.phu.get a).state = .referenced ∧ s.integrityLoss a c t h =
      (((s.modPhu a (fun p =>
        { p with state := .faulted, fault := some { first := c, further := 0, tick := t }, hold := h })).raise
        (.axisFault a)).reportToCapture a .fault).judgeLevel) ∨
    ((s.phu.get a).state = .faulted ∧ s.integrityLoss a c t h =
      s.modPhu a (fun p => { p with fault := p.fault.map (fun f => f.addCause c) })) := by
  unfold State.integrityLoss
  split <;> simp_all

/-- A loss changes the state, the armed datum, the fault record and the hold value of its axis and no more of it. -/
theorem State.integrityLoss_phu_ne (s : State) (a b : Axis) (c : Cause) (t : Tick) (h : Int) (hb : b ≠ a) :
    (s.integrityLoss a c t h).phu.get b = s.phu.get b := by
  rcases s.integrityLoss_cases a c t h with ⟨_, e⟩ | ⟨_, e⟩ | ⟨_, e⟩ | ⟨_, e⟩ <;> rw [e] <;> simp [hb]

/-- The tracking state and the settings of an axis are untouched by a loss. -/
theorem State.integrityLoss_tracking (s : State) (a : Axis) (c : Cause) (t : Tick) (h : Int) :
    ∃ st ar fr hd, (s.integrityLoss a c t h).phu.get a =
      { s.phu.get a with state := st, armed := ar, fault := fr, hold := hd } := by
  rcases s.integrityLoss_cases a c t h with ⟨_, e⟩ | ⟨_, e⟩ | ⟨_, e⟩ | ⟨_, e⟩ <;> rw [e] <;> simp
  · exact ⟨_, _, _, _, rfl⟩

/-! ## Host port -/

/-- A command frame: not taken while the port takes no row, refused BAD_LENGTH where its length fails, and handed to its
block otherwise (R162 to R164, R172). -/
theorem State.hostCommand_cases (s : State) (code : Byte) (required : Nat) (body : List Byte)
    (block : State → List Byte → Reply × State) :
    (s.hpt.closed = true ∧ s.hostCommand code required body block = s) ∨
    (s.hpt.closed = false ∧ paramsOf required body = none ∧
      s.hostCommand code required body block = s.answer code (.refused .badLength)) ∨
    (∃ ps, s.hpt.closed = false ∧ paramsOf required body = some ps ∧
      s.hostCommand code required body block = (block s ps).2.answer code (block s ps).1) := by
  unfold State.hostCommand
  by_cases h : s.hpt.closed = true
  · simp [h]
  · have h' : s.hpt.closed = false := by simpa using h
    cases paramsOf required body <;> simp [h']

/-- A frame whose LEN is what the layout requires and whose parameters all arrived gives those parameters (R162, R163). -/
theorem paramsOf_cons (ps extra : List Byte) (h : ps.length ≤ 60) :
    paramsOf ps.length (byteOf ps.length :: (ps ++ extra)) = some ps := by
  have e : (byteOf ps.length).toNat = ps.length := by simp [byteOf]; omega
  simp [paramsOf, e, Config.maxParamLength, h]

/-- The parameters a frame gives have the required length. -/
theorem paramsOf_length (n : Nat) (body ps : List Byte) (h : paramsOf n body = some ps) : ps.length = n := by
  unfold paramsOf at h
  split at h
  · cases h
  · split at h
    · cases h; rename_i hc; rw [List.length_take]; omega
    · cases h

/-- An answer writes the pending response, the lost mark and the record of HDO alone (R162, R164, R166). -/
theorem State.answer_hpt (s : State) (code : Byte) (r : Reply) :
    ∃ p, (s.answer code r).hpt = { s.hpt with response := p, lost := s.hpt.lost || s.hpt.response.isPending, hdo := [] } := by
  cases r <;> exact ⟨_, rfl⟩

/-! ## Lines -/

/-- An update that changes of a receiver the frame being assembled alone does so to whichever receiver is looked at. -/
theorem State.modSlr_frameAlone (s : State) (a b : Axis) (f : Receiver → Receiver)
    (h : ∀ r, ∃ x, f r = { r with frame := x }) : ∃ x, (s.modSlr a f).slr.get b = { s.slr.get b with frame := x } := by
  by_cases hb : b = a
  · subst hb
    obtain ⟨x, hx⟩ := h (s.slr.get b)
    exact ⟨x, by simpa using hx⟩
  · exact ⟨_, by simp only [State.modSlr_slr, Four.get_set_ne _ _ hb]; rfl⟩

/-- A line event changes of a receiver the frame being assembled alone (R2). -/
theorem State.takeLine_slr (s : State) (e : LineEvent) (b : Axis) :
    ∃ x, (s.takeLine e).1.slr.get b = { s.slr.get b with frame := x } := by
  cases e <;>
    simp only [State.takeLine, State.endSampleFrame, State.takeConditionsCharacter, State.endCharacter, State.takeCharacter,
      State.takeServoClock, State.deselectHost] <;>
    (repeat' split) <;> first
      | exact State.modSlr_frameAlone s _ b _ (fun r => ⟨_, rfl⟩)
      | exact ⟨_, rfl⟩

/-- A line event changes of the Compensation Unit the frame being assembled alone (R72). -/
theorem State.takeLine_cmu (s : State) (e : LineEvent) :
    ∃ f, (s.takeLine e).1.cmu = { s.cmu with frame := f } ∧ (f = s.cmu.frame ∨ ∃ c, f = s.cmu.frame ++ [c] ∧ c.began = s.tick) := by
  cases e <;>
    simp only [State.takeLine, State.endSampleFrame, State.takeConditionsCharacter, State.endCharacter, State.takeCharacter,
      State.takeServoClock, State.deselectHost] <;>
    (repeat' split) <;> first
      | exact ⟨_, rfl, .inl rfl⟩
      | exact ⟨_, rfl, .inr ⟨_, rfl, rfl⟩⟩

/-- A line event changes of the Servo Port the read in progress alone, by one clock (R104, R113). -/
theorem State.takeLine_svp (s : State) (e : LineEvent) :
    (s.takeLine e).1.svp = s.svp ∨
    ∃ r sdi, s.svp.read = .reading r ∧ (s.takeLine e).1.svp = { s.svp with read := .reading (r.clock sdi) } := by
  cases e <;>
    simp only [State.takeLine, State.endSampleFrame, State.takeConditionsCharacter, State.endCharacter, State.takeCharacter,
      State.takeServoClock, State.deselectHost] <;>
    (repeat' split) <;> first
      | exact .inl rfl
      | exact .inr ⟨_, _, by assumption, rfl⟩

/-- A clock of the host leaves everything but the frame assembly as it was (R162). -/
theorem HostPort.clock_frame (x : HostPort) (hdi : Bool) : ∃ f, x.clock hdi = { x with frame := f } := by
  unfold HostPort.clock
  split
  · exact ⟨_, rfl⟩
  · split <;> exact ⟨_, rfl⟩

/-- A line event leaves the event flags, the mask and ATTN as they were (R167, R169). -/
theorem State.takeLine_flags (s : State) (e : LineEvent) :
    (s.takeLine e).1.hpt.flags = s.hpt.flags ∧ (s.takeLine e).1.hpt.mask = s.hpt.mask ∧
    (s.takeLine e).1.hpt.attn = s.hpt.attn := by
  cases e with
  | hostClock hdi =>
    obtain ⟨f, h⟩ := s.hpt.clock_frame hdi
    simp [State.takeLine, h]
  | _ =>
    simp only [State.takeLine, State.endSampleFrame, State.takeConditionsCharacter, State.endCharacter, State.takeCharacter,
      State.takeServoClock, State.deselectHost, HostPort.endFetch]
    (repeat' split) <;> simp

/-- A read completes by the command word whose first bits it has taken, and nothing happens otherwise (R113). -/
theorem State.completeRead_cases (s : State) (word : BitVec 8) :
    (∃ r, s.svp.read = .reading r ∧ r.word.isPrefixOf (natBits 8 word.toNat) = true ∧
      s.completeRead word = (s.modSvp (fun x => { x with read := .spent, delivered := true })).takeWord word) ∨
    s.completeRead word = s := by
  unfold State.completeRead
  split
  · rename_i r hr
    by_cases h : r.word.isPrefixOf (natBits 8 word.toNat) = true
    · exact .inl ⟨r, hr, h, by simp [h]⟩
    · exact .inr (by simp [h])
  · exact .inr rfl
  · exact .inr rfl

end Sys2Proof.Machine
end

