-- ==== Sys2Proof/Tests/Slice0.lean ====
section
/-! SUPPORT. The model's own tests: the worked cases of the spec, at most two small theorems for a command, the terms that
`Instr.wf` refuses, and for each obligation with hypotheses a state and operands that meet them. -/

namespace Sys2Proof.Tests

open Sys2Proof.Machine Sys2Proof.Claims

set_option maxRecDepth 100000

/-! ## Small states -/

/-- The state after a command. -/
def after (c : Instr) (s : State) : State :=
  match exec c s with
  | .next t => t
  | .fault _ => s
  | .refused _ => s

/-- The state after a line event. -/
def afterLine (e : LineEvent) (s : State) : State :=
  match lineStep e s with
  | .next t => t
  | .fault _ => s
  | .refused _ => s

/-- The state after line events, the first of them first. -/
def afterLines (es : List LineEvent) (s : State) : State := es.foldl (fun t e => afterLine e t) s

/-- The part after reset with HSEL high. -/
def awake : State := { State.reset with hpt := { HostPort.reset with waitHsel := false } }

/-- A receiver in LOCKED whose last frame arrived at tick 1000. -/
def lockedLink (seq : BitVec 6) : Receiver :=
  { Receiver.reset with link := .locked, lastSeq := some seq, goodRun := 16, silence := some 1000 }

/-- The axis of the worked sequence "Eight Frames on One Axis" before its first frame. -/
def eightFrames : PhaseUnit :=
  { PhaseUnit.reset with
    state := .referenced, lockView := true, epoch := 3, acc := 5000000, pRef := some 500, dLast := 30
    lastInterval := some 10, realRun := 2
    history := [{ instant := 1000, acc := 5000000, kind := .real, epoch := 3 }] }

/-- The part at a tick with one axis, its link LOCKED. -/
def oneAxis (tick : Tick) (a : Axis) (seq : BitVec 6) (p : PhaseUnit) : State :=
  withPhu (withSlr { awake with tick := tick } a (lockedLink seq)) a p

/-- A good frame with a raw pair. -/
def sample (sin cos : Int) (seq : BitVec 6) : SampleFields := { sin := sin, cos := cos, seq := seq, mark := false, clip := false }

/-- A REFERENCED axis with a count and an epoch. -/
def referencedAt (acc : Int) (epoch : BitVec 4) : PhaseUnit := { eightFrames with acc := acc, epoch := epoch, history := [] }

/-- The characters of the bytes of a conditions frame, all with a good stop bit, begun at tick 0. -/
def goodChars (bytes : List Byte) : List CondChar := bytes.map (fun b => { byte := b, stopOk := true, began := 0 })

/-- The bytes of a host command for the meaning: LEN and parameters. -/
def host (ps : List Byte) : List Byte := frame ps []

/-! ## Formats and arithmetic -/

/-- R174: the CRC of "123456789" is F4H. -/
theorem test_crc_check_value :
    crc8 (bytesToBits [0x31, 0x32, 0x33, 0x34, 0x35, 0x36, 0x37, 0x38, 0x39]) = 0xF4 := by decide

/-- R174: the CRC of 01H is 07H, and that of zeros is 00H. -/
theorem test_crc_small : crc8 (bytesToBits [0x01]) = 0x07 ∧ crc8 (List.replicate 80 false) = 0 := by decide

/-- Scope file, Arithmetic: 2.5 gives 3 and −2.5 gives −3. -/
theorem test_round_half_away : roundDiv 5 2 = 3 ∧ roundDiv (-5) 2 = -3 ∧ roundDiv 1 3 = 0 := by decide

/-- R1: across the return to 0, tick 3 is 8 ticks after tick 2^48 − 5. -/
theorem test_tick_wraps : elapsed 3 (BitVec.ofNat 48 (2 ^ 48 - 5)) = 8 ∧ later 3 (BitVec.ofNat 48 (2 ^ 48 - 5)) = true := by
  decide

/-- R20, worked case: a pair corrected for offset, gain and orthogonality. -/
theorem test_correct_pair :
    correctPair { os := 240, oc := -120, gs := 18022, gc := 15565, q := 300 } 10240 (-2000) =
      { s1 := 11000, c2 := -1585, clamped := false } := by decide

/-- R20: a product beyond the range is clamped and marks the sample. -/
theorem test_correct_pair_clamps :
    correctPair { os := -4000, oc := 0, gs := 20000, gc := 16384, q := 0 } 32000 0 =
      { s1 := 32767, c2 := 0, clamped := true } := by decide

/-- R25: the table of phases of stage 3. -/
theorem test_phase_table :
    phaseOf 0 5000 = 0 ∧ phaseOf 12000 12000 = 64 ∧ phaseOf 5000 0 = 128 ∧ phaseOf 11000 (-1585) = 140 ∧
      phaseOf 0 (-5000) = 256 ∧ phaseOf (-5000) 0 = 384 ∧ phaseOf (-1) 20000 = 0 := by decide

/-- R81, worked case: K0, K2 and K3 of one computation. -/
theorem test_step_lengths :
    let x : KInputs := { n := 271000, e := 1275000, optics := Compensation.reset.optics }
    x.stepLength { lambda := 632991, fold := 4, vacuum := false, thermal := true } = 20250198 ∧
      x.stepLength { lambda := 632991, fold := 4, vacuum := false, thermal := false } = 20250224 ∧
      x.stepLength { lambda := 632991, fold := 4, vacuum := true, thermal := false } = 20255712 := by decide

/-- R85, worked cases: a whole count and an interpolated count. -/
theorem test_lengths :
    lengthOf (.phys .q0) (Four.replicate 20250198) (fun _ => 1617000000) = 499642489105 ∧
      length16Of (.phys .q0) (Four.replicate 20250198) (fun _ => 80000749) = 1544981964 := by decide

/-- R86, worked case: M and W of two beams. -/
theorem test_pair_lengths :
    let count : Axis → Int := fun a => if a = .q0 then 1000049 else 1000024
    lengthOf .m (Four.replicate 20250198) count = 309004778 ∧ lengthOf .w (Four.replicate 20250198) count = 7725 := by decide

/-- R129, worked capture: 16 × 117 × 40 / 100 rounds to 749. -/
theorem test_interpolate :
    interpolate16 1040 { instant := 1000, acc := 5000000, kind := .real, epoch := 1 }
      { instant := 1100, acc := 5000117, kind := .real, epoch := 1 } = 80000749 := by decide

/-- R31: ACC stops at its limit. -/
theorem test_acc_clamps : movedAcc 549755813800 100 = 549755813887 ∧ leavesRange 549755813800 100 = true := by decide

/-- No row of the table has bits, so no word spells a command. -/
theorem test_no_word_spells_a_command : decodeTableWord 32 0 = none := rfl

/-! ## Sample path -/

/-- The events of a frame's bits on a sample link. -/
def sampleLine (a : Axis) (bits : List Bool) : List LineEvent := bits.map (fun b => .sampleBit a b)

/-- R2: the 48 bits between a start and an end arrive as a frame. -/
theorem test_sample_frame_by_bits :
    let t := afterLines (.sampleStart .q1 :: sampleLine .q1 (sampleBits (sample 9 9 1)) ++ [.sampleEnd .q1])
      (withSlr awake .q1 (lockedLink 0))
    (t.slr.get .q1).lastSeq = some 1 ∧ (t.slr.get .q1).goodFrames = 1 ∧ (t.slr.get .q1).frame = none := by decide

/-- R2, R17: a frame that a reset has cut is discarded; the next one arrives whole. -/
theorem test_sample_frame_cut_by_reset :
    let begun := afterLines (.sampleStart .q1 :: sampleLine .q1 ((sampleBits (sample 9 9 1)).take 20)) awake
    let cut := afterLines (sampleLine .q1 ((sampleBits (sample 9 9 1)).drop 20) ++ [.sampleEnd .q1])
      (after (.powerOnReset false) begun)
    let next := afterLines (.sampleStart .q1 :: sampleLine .q1 (sampleBits (sample 9 9 2)) ++ [.sampleEnd .q1]) cut
    ((begun.slr.get .q1).frame.map List.length = some 20) ∧ cut.slr = State.reset.slr ∧
      (next.slr.get .q1).link = .acquiring ∧ (next.slr.get .q1).crcErrors = 0 := by decide

/-- R9, worked case, frame 4: SEQ 3 after 0 is a gap of 2. -/
theorem test_gap_of_two :
    let t := after (.sampleFrame .q1 (sampleBits (sample 9 9 3))) (withSlr awake .q1 (lockedLink 0))
    (t.slr.get .q1).gaps = 2 ∧ (t.slr.get .q1).lastSeq = some 3 ∧ (t.fru.checks.get .q1).tally = 3 := by decide

/-- R10, worked case, frame 7: SEQ 1 after 4 is out of order and occupies position 5. -/
theorem test_out_of_order :
    let t := after (.sampleFrame .q1 (sampleBits (sample 9 9 1))) (withSlr awake .q1 (lockedLink 4))
    (t.slr.get .q1).outOfOrder = 1 ∧ (t.slr.get .q1).lastSeq = some 5 ∧ (t.slr.get .q1).badRun = 1 := by decide

/-- R28, hand-off 1: phase 20 after 500 counts 32 steps. -/
theorem test_counting_sample :
    let t := ((oneAxis 1010 .q1 40 eightFrames).takePhase .q1 false 20 1010).phu.get .q1
    t.acc = 5000032 ∧ t.dLast = 32 ∧ t.lastInterval = some 10 ∧ t.history.length = 2 := by decide

/-- R29, the half-fringe jump: 44 after 300 is a step violation. -/
theorem test_step_violation :
    let t := ((oneAxis 1010 .q1 40 { eightFrames with pRef := some 300 }).takePhase .q1 false 44 1010).phu.get .q1
    t.acc = 5000000 ∧ t.dLast = 0 ∧ t.state = .faulted ∧
      t.fault = some { first := .step, further := 0, tick := 1010 } := by decide

/-- R34, hand-off 6a: a GAP notice of 2 after the sample at 1050 is bridged at 1060 and 1070. -/
theorem test_bridge :
    let p := { eightFrames with
      acc := 5000175, pRef := some 163, dLast := 38
      history := [{ instant := 1050, acc := 5000175, kind := .real, epoch := 3 }] }
    let t := ((oneAxis 1080 .q1 40 p).takeNotice .q1 .gap 2 1080).phu.get .q1
    t.acc = 5000251 ∧ t.pRef = some 239 ∧ t.missing = 2 ∧ t.bridged = true ∧
      t.history.map (fun e => e.instant) = [1050, 1060, 1070] := by decide

/-- R36, hand-off 7a: a GAP notice of 3 fails its bridge. -/
theorem test_failed_bridge :
    let t := (oneAxis 1120 .q1 40 eightFrames).takeNotice .q1 .gap 3 1120
    (t.phu.get .q1).state = .faulted ∧ (t.phu.get .q1).hold = 5000000 ∧ t.hpt.flags.getLsbD 4 = true := by decide

/-- R12: the silence timer of a LOCKED link after 2 µs. -/
theorem test_silence_timer :
    let t := after (.silenceTimerExpiry .q1) (oneAxis 1200 .q1 40 eightFrames)
    (t.slr.get .q1).link = .down ∧ (t.slr.get .q1).lockLosses = 1 ∧ (t.phu.get .q1).state = .faulted ∧
      (t.phu.get .q1).pRef = none ∧ (t.phu.get .q1).acc = 5000000 := by decide

/-- R12: one tick early the timer has not expired. -/
theorem test_silence_timer_early :
    ((after (.silenceTimerExpiry .q1) (oneAxis 1199 .q1 40 eightFrames)).slr.get .q1).link = .locked := by decide

/-! ## Compensation -/

/-- The station is the source of both quantities, as in the worked case of chapter Length Compensation; probe 1 reads
20 150 at 32 600. -/
def stationed : State :=
  { awake with
    tick := 34723
    cmu := { Compensation.reset with
      optics := ⟨{ lambda := 632991, fold := 4, vacuum := false, thermal := true },
        { lambda := 632991, fold := 4, vacuum := false, thermal := false },
        { lambda := 632991, fold := 4, vacuum := false, thermal := false },
        { lambda := 632991, fold := 4, vacuum := true, thermal := false }⟩
      n := 270980, nSource := .station, tS := 20146, tSource := .station, alpha := 8500, e := 1241000
      staleness := some 0
      probes := { Compensation.reset.probes with i0 := { c1 := 32600, tc1 := 20150, c2 := 40000, tc2 := 30000 } } } }

/-- A conditions frame with N and the raw reading of probe 1, SEQ 7, with its CRC. -/
def conditions (n r1 : Nat) (nOk : Bool) : List CondChar :=
  let payload : List Byte :=
    [7, if nOk then 0x81 else 0x01] ++ natBytes 3 n ++ natBytes 2 r1 ++ [0, 0, 0, 0, 0, 0]
  goodChars (payload ++ [crc8 (bytesToBits payload)])

/-- R73 to R75, R80, worked case: one accepted frame changes N, T_S and E and starts one computation. -/
theorem test_conditions_frame :
    let t := after (.conditionsFrame (conditions 271000 32600 true)) stationed
    t.cmu.n = 271000 ∧ t.cmu.tS = 20150 ∧ t.cmu.e = 1275000 ∧ t.cmu.recompute = false ∧
      t.cmu.computing.map (fun c => c.inputs.n) = some 271000 := by decide

/-- R72: the frame has ended 34 723 ticks after its last character began, and not a tick sooner. -/
theorem test_conditions_frame_ends :
    let s := { awake with tick := 34723, cmu := { awake.cmu with frame := goodChars [7] } }
    s.dueEvent = some (.conditionsFrame (goodChars [7])) ∧ (after (.conditionsFrame (goodChars [7])) s).cmu.crcErrors = 1 ∧
      ({ s with tick := 34722 } : State).dueEvent = none ∧
      (afterLine (.conditionsCharacter 9 false) awake).cmu.frame = [{ byte := 9, stopOk := false, began := 0 }] := by decide

/-- R73, R77: a refractivity outside its window is held. -/
theorem test_conditions_held :
    let t := after (.conditionsFrame (conditions 412000 32600 true)) stationed
    t.cmu.n = 270980 ∧ t.cmu.heldN = true ∧ t.hpt.flags.getLsbD 19 = true := by decide

/-- R75: the mean of 20 150, 20 162 and 20 141 is 20 151. -/
theorem test_mean_temperature :
    frameTemperature ⟨some { tk := 20150, included := true }, some { tk := 20162, included := true },
      some { tk := 20141, included := true }, some { tk := 40000, included := false }⟩ = some 20151 := by decide

/-- R78: COND_TIMEOUT is 5 s, and its expiry is STALE. -/
theorem test_staleness_timer :
    let t := after .stalenessTimerExpiry { stationed with tick := 500000000 }
    t.cmu.stale = true ∧ t.cmu.staleness = none ∧ t.hpt.flags.getLsbD 18 = true := by decide

/-- A computation on the inputs of the worked case. -/
def computing : State :=
  { stationed with cmu := { stationed.cmu with
      computing := some { inputs := { n := 271000, e := 1275000, optics := stationed.cmu.optics }, start := 0 } } }

/-- R81, R82: the computation of the worked case stages its K set. -/
theorem test_k_computation :
    let t := after .kComputationComplete computing
    t.cmu.staged = some ⟨20250198, 20250224, 20250224, 20255712⟩ ∧ t.cmu.computing = none ∧
      t.cmu.active = Four.replicate 20255712 := by decide +kernel

/-- R80: an update while computing leaves one recomputation pending; its optics are those it will start with. -/
theorem test_set_optics :
    let t := after (.setOptics (host [2, 0x09, 0xA8, 0xA0, 4, 0, 0])) computing
    (t.cmu.optics.get .q2).lambda = 632992 ∧ t.cmu.recompute = true := by decide

/-- R69: STATION from MANUAL is AWAITING and held, with COND_HELD. -/
theorem test_set_conditions :
    let t := after (.setConditions (host [1, 0, 0, 0, 0, 0x4E, 0x20])) awake
    t.cmu.nSource = .awaiting ∧ t.cmu.heldN = true ∧ t.cmu.staleness = some 0 ∧ t.hpt.flags.getLsbD 19 = true := by decide

/-- R70: α of 8 500 forms E anew. -/
theorem test_set_expansion : (after (.setExpansion (host [0x00, 0x21, 0x34])) stationed).cmu.e = 1241000 := by decide

/-- R71: a window that excludes the N in use is refused STATE. -/
theorem test_set_plausibility :
    (after (.setPlausibility (host [0, 0, 0, 0x02, 0x49, 0xF0, 0, 0, 0xC3, 0x50, 5])) stationed).hpt.response =
      .ready { refusal := some .state, code := 0x19, data := [] } := by decide

/-- R76: equal raw readings of a calibration are refused. -/
theorem test_set_probe :
    (after (.setProbe (host [1, 0, 5, 0, 5, 0, 0, 0, 1])) awake).hpt.response =
      .ready { refusal := some .badValue, code := 0x1A, data := [] } := by decide

/-- R79: CLEAR clears the three frame counters. -/
theorem test_read_conditions :
    (after (.readConditions (host [1])) { awake with cmu := { awake.cmu with accepted := 9, duplicates := 2 } }).cmu =
      awake.cmu := by decide

/-! ## Frame events and the servo port -/

/-- The axes of the worked case "One Snapshot". -/
def snapshotCase : State :=
  let s := withPhu (withPhu awake .q0 (referencedAt 1000049 1)) .q1 { referencedAt 1000024 1 with bridged := true }
  { s with
    mEpoch := 2
    cmu := { s.cmu with active := Four.replicate 20250198, compGen := 23 }
    fru := { s.fru with frameNo := 4100 }
    svp := { s.svp with
      layoutGen := 4
      layout := [{ source := .phys .q0, unit := .pm }, { source := .phys .q1, unit := .pm }, { source := .m, unit := .pm },
        { source := .w, unit := .steps }] } }

/-- R107 to R111, worked case: the header and the four slots. -/
theorem test_snapshot :
    let t := after .syncEdge snapshotCase
    t.svp.snapshot.map (fun x => (x.header.frameNo, x.header.compGen, x.header.layoutGen)) = some (5, 7, 4) ∧
      (t.svp.snapshot.map (fun x => x.slots.map (fun y => (y.value, y.valid, y.bridged, y.epoch)))) =
        some [(309008640, true, false, 1), (309000916, true, true, 1), (309004778, true, true, 2), (25, true, true, 2)] ∧
      (t.phu.get .q1).bridged = false := by decide

/-- R83, R106: a staged layout becomes active at a frame event. -/
theorem test_layout_activated :
    let s := { awake with svp := { awake.svp with staged := some [{ source := .w, unit := .steps }], layoutGen := 15 } }
    (after .syncEdge s).svp.layout = [{ source := .w, unit := .steps }] ∧ (after .syncEdge s).svp.layoutGen = 0 := by decide

/-- R92: two periods of 250 µs without a SYNC edge. -/
theorem test_sync_watch :
    let t := after .syncWatchExpiry { awake with tick := 50000 }
    t.fru.source = .internal ∧ t.fru.timer = some 50000 ∧ t.hpt.flags.getLsbD 16 = true := by decide

/-- R93: the frame timer makes a TIMER frame event and restarts. -/
theorem test_frame_timer :
    let s := { awake with tick := 75000, fru := { awake.fru with source := .internal, watch := none, timer := some 50000 } }
    (after .frameTimerExpiry s).fru.frameNo = 1 ∧ (after .frameTimerExpiry s).fru.timer = some 75000 ∧
      (after .frameTimerExpiry s).svp.snapshot.map (fun x => x.header.internal) = some true := by decide

/-- R116: before the first frame event a read carries zeros, with CRC 00H. -/
theorem test_read_of_zeros :
    (afterLine (.servoClock true) awake).svp.read = .reading { content := List.replicate 88 false, clocks := 1, word := [true] } := by
  decide

/-- A servo read that has taken all its clocks but the last, with this command word; A2 is UNREFERENCED and has a preset. -/
def readingA2 (w : BitVec 8) : State :=
  withPhu { awake with svp := { awake.svp with
      read := (.reading { content := zeroFrame 1, clocks := 87, word := natBits 8 w.toNat }) } } .q2
    { referencedAt 0 0 with state := .unreferenced, preset := { value := 77, direction := .positive } }

/-- R54, worked sequence: ARM, mask A2, arms A2 with its preset. -/
theorem test_servo_arm :
    let t := after (.servoArm 0b01001000) (readingA2 0b01001000)
    (t.phu.get .q2).state = .armed ∧ (t.phu.get .q2).armed = some { value := 77, direction := .positive } ∧
      t.svp.read = .spent := by decide

/-- R113: the last clock of a read hands over the command word assembled from the first eight bits. -/
theorem test_servo_last_clock :
    let t := afterLine (.servoClock true) (readingA2 0b01001000)
    (t.phu.get .q2).state = .armed ∧ t.svp.read = .spent ∧ t.svp.delivered = true ∧
      afterLine (.servoClock true) t = t ∧ t.svp.clockOut = true := by decide

/-- R54, worked sequence: DISARM, mask A2. -/
theorem test_servo_disarm :
    let s := withPhu (readingA2 0b10001000) .q2 { (readingA2 0).phu.get .q2 with state := .armed, armed := some { value := 1, direction := .any } }
    ((after (.servoDisarm 0b10001000) s).phu.get .q2).state = .unreferenced := by decide

/-- R113: NONE reaches no unit and marks the snapshot delivered. -/
theorem test_servo_read_complete :
    let t := after (.servoReadComplete 0b00001000) (readingA2 0b00001000)
    t.phu = (readingA2 0).phu ∧ t.svp.delivered = true := by decide

/-- R115: a deselection ends a read and its snapshot is not delivered by it. -/
theorem test_servo_deselect :
    (after .servoDeselect (readingA2 0)).svp.read = .idle ∧ (after .servoDeselect (readingA2 0)).svp.delivered = false := by decide

/-- R64: HOLD enters the values of the moment. -/
theorem test_hold_output :
    let t := after (.holdOutput (host [0x10, 0])) snapshotCase
    t.svp.holds.get .m = some { steps := 1000037, pm := 309004778, epoch := 2 } ∧ t.svp.holds.get .w = none := by decide

/-- R64: RELEASE removes an entry. -/
theorem test_hold_release :
    let s := { awake with svp := { awake.svp with holds := { awake.svp.holds with w := some { steps := 1, pm := 2, epoch := 3 } } } }
    (after (.holdOutputRelease (host [0x20, 1])) s).svp.holds = awake.svp.holds := by decide

/-- R105: a layout is staged; R105, R163: a count of 5 is BAD_VALUE. -/
theorem test_set_layout :
    (after (.setLayout (host [2, 0, 0, 4, 1])) awake).svp.staged =
        some [{ source := .phys .q0, unit := .pm }, { source := .m, unit := .steps }] ∧
      (after (.setLayout (host [5, 0])) awake).hpt.response = .ready { refusal := some .badValue, code := 0x20, data := [] } := by
  decide

/-- R96: Internal-Only mode starts the frame timer. -/
theorem test_set_frame :
    let t := after (.setFrame (host [1, 0x03, 0xE8])) { awake with tick := 9 }
    t.fru.mode = .internalOnly ∧ t.fru.period = 1000 ∧ t.fru.timer = some 9 ∧ t.fru.watch = none := by decide

/-- R99. -/
theorem test_set_sample_check :
    let t := after (.setSampleCheck (host [3, 0x09, 0xC4, 2])) awake
    (t.fru.checks.get .q3).expect = 2500 ∧ (t.fru.checks.get .q3).tol = 2 := by decide

/-- R101. -/
theorem test_set_notify :
    (after (.setNotify (host [4])) { awake with fru := { awake.fru with notifyN := 9, notifyCount := 8 } }).fru.notifyCount =
      0 := by decide

/-- The length of the data of an OK response in preparation. -/
def dataLength (s : State) : Option Nat :=
  match s.hpt.response with
  | .preparing r _ => some r.data.length
  | .ready _ => none
  | .none => none

/-- R102: the settings, then twelve bytes for each of four axes. -/
theorem test_read_frame_state : dataLength (after (.readFrameState (host [])) awake) = some 58 := by decide

/-- R117: the clocks of a read in progress. -/
theorem test_read_servo_state :
    (readingA2 0).svp.bytes.drop 15 = [0, 1, 0, 87] ++ List.replicate 84 0 := by decide

/-- R87, R175: a held length beyond 48 bits is reported at the limit, and a header takes 8 bytes with
REPEAT last (R111). -/
theorem test_held_length_is_clamped :
    ({ steps := -1, pm := 2 ^ 47, epoch := 3 } : HoldEntry).bytes =
        [0xFF, 0xFF, 0xFF, 0xFF, 0xFF, 0xFF, 0x7F, 0xFF, 0xFF, 0xFF, 0xFF, 0xFF, 3] ∧
      ({ frameNo := 0xABC, compGen := 7, layoutGen := 15, internal := true, condHeld := false, alertOwn := true } : Header).bytes =
        [0x0A, 0xBC, 7, 15, 1, 0, 1, 0] := by decide

/-! ## Line capture -/

/-- The context C1 of the worked capture. -/
def contextC1 : Context :=
  { sources := 0b010111, input := .t0, edge := .rise, tag := 7001, count := 2, remaining := 2, standing := false,
    echo := true, origin := .microscope }

/-- A REFERENCED axis of the worked capture with one history entry. -/
def captureAxis (instant : Tick) (acc : Int) (epoch : BitVec 4) : PhaseUnit :=
  { eightFrames with
    acc := acc, epoch := epoch, pRef := some 0, dLast := 117, lastInterval := some 100
    history := [{ instant := instant, acc := acc, kind := .real, epoch := epoch }] }

/-- The worked capture before its event 3. -/
def beforeEdge : State :=
  let s := withPhu (withPhu (withPhu { awake with tick := 1080 } .q0 (captureAxis 1000 5000000 1)) .q1
    (captureAxis 1000 4999950 1)) .q2 (captureAxis 1045 0 3)
  { s with
    mEpoch := 2
    slr := s.slr.set .q1 (lockedLink 20)
    cmu := { s.cmu with active := Four.replicate 20250198, compGen := 23 }
    msl := { s.msl with rate := 2000000, rx := .idle }
    lcu := { s.lcu with
      contexts := [contextC1], recordNo := 15
      triggers := { s.lcu.triggers with t0 := { delay := 40, dead := 10, deadFrom := none } } } }

/-- The capture the edge of event 3 opens. -/
def openedCapture : Capture :=
  { tag := 7001, origin := .microscope, echo := true, sources := 0b010111, index := 1, input := .t0, edge := .rise
    edgeTick := 1080, tTrig := 1040, kset := Four.replicate 20250198, compGen := 23, mEpoch := 2
    phys := ⟨some { epoch := 1, progress := .waiting (some { instant := 1000, acc := 5000000, kind := .real, epoch := 1 }) },
      some { epoch := 1, progress := .waiting (some { instant := 1000, acc := 4999950, kind := .real, epoch := 1 }) },
      some { epoch := 3, progress := .settled .tooOld 0 0 }, none⟩ }

/-- R124 to R127, worked capture, event 3. -/
theorem test_trigger_opens :
    let t := after (.triggerEdge .t0 .rise) beforeEdge
    t.lcu.capture = some openedCapture ∧ t.lcu.contexts = [{ contextC1 with remaining := 1 }] ∧
      (t.lcu.triggers.get .t0).deadFrom = some 1080 := by decide

/-- The worked capture with the capture of event 3 in flight. -/
def inFlight (tick : Tick) : State :=
  { beforeEdge with tick := tick, lcu := { beforeEdge.lcu with
      contexts := [{ contextC1 with remaining := 1 }], capture := some openedCapture
      triggers := { beforeEdge.lcu.triggers with t0 := { delay := 40, dead := 10, deadFrom := some 1080 } } } }

/-- R126, worked capture, event 4: an edge 15 ticks later is missed. -/
theorem test_trigger_missed :
    (after (.triggerEdge .t0 .rise) (inFlight 1095)).lcu.missed = 1 ∧
      (after (.triggerEdge .t0 .rise) (inFlight 1095)).lcu.capture = some openedCapture := by decide

/-- R128, R129, worked capture, event 5: the A0 entry is OK. -/
theorem test_entry_settles :
    settleEntry openedCapture .q0 .referenced 1 { instant := 1000, acc := 5000000, kind := .real, epoch := 1 }
      { instant := 1100, acc := 5000117, kind := .real, epoch := 1 } = .settled .ok 80000749 1544981964 := by decide

/-- The capture after event 5. -/
def afterA0 : State :=
  { inFlight 1100 with lcu := { (inFlight 1100).lcu with
      missed := 1
      capture := some { openedCapture with phys := (openedCapture.phys.set .q0
        (some { epoch := 1, progress := .settled .ok 80000749 1544981964 })) } } }

/-- R129, R132, R133, R138, worked capture, event 6: a bridged sample of A1 completes record 15 and its ECHO. -/
theorem test_capture_completes :
    let t := afterA0.handNotice .q1 .bad 1 1100
    t.lcu.records.map (fun r => (r.number, r.missed, r.entries.map (fun e => (e.status, e.position)))) =
        [(15, 1, [(.ok, 1544981964), (.bridged, 1544966514), (.tooOld, 0), (.bridged, 1544974239)])] ∧
      t.lcu.capture = none ∧ t.lcu.missed = 0 ∧ t.lcu.recordNo = 16 ∧ t.hpt.flags.getLsbD 0 = true ∧
      t.msl.out.map List.length = [14] := by decide

/-- R131: the timeout settles what waits and completes the capture. -/
theorem test_capture_timeout :
    let t := after .captureTimeoutExpiry (inFlight 11080)
    t.lcu.records.map (fun r => r.entries.map (fun e => e.status)) = [[.timeout, .timeout, .tooOld, .timeout]] := by decide

/-- R119: the dead time of 10 ticks ends at 1090. -/
theorem test_dead_time_end :
    (((after (.deadTimeEnd .t0) (inFlight 1090)).lcu.triggers.get .t0).deadFrom = none) ∧
      after (.deadTimeEnd .t0) (inFlight 1089) = inFlight 1089 := by decide

/-- R120. -/
theorem test_set_trigger :
    (after (.setTrigger (host [0, 0, 40, 0, 10])) awake).lcu.triggers.get .t0 =
      { delay := 40, dead := 10, deadFrom := none } := by decide

/-- R121, R122, worked capture, event 2. -/
theorem test_queue_context :
    let t := after (.queueContext (host [4, 1, 1, 0, 40, 1, 1, 0])) beforeEdge
    t.lcu.contexts.map (fun c => (c.tag, c.remaining)) = [(7001, 2), (40, 1)] ∧
      t.hpt.response = .preparing { refusal := none, code := 0x23, data := [2] } 1080 := by decide

/-- R123: a flush of the microscope's contexts. -/
theorem test_flush_contexts : (after (.flushContexts (host [2])) beforeEdge).lcu.contexts = [] := by decide

/-- R136: READY_LEVEL 32 and Keep-Newest. -/
theorem test_set_capture :
    let t := after (.setCapture (host [1, 32, 0, 100])) awake
    t.lcu.policy = .keepNewest ∧ t.lcu.readyLevel = 32 ∧ t.lcu.timeout = 100 := by decide

/-- A record with one entry. -/
def oneRecord : Record :=
  { number := 15, tag := 7001, origin := .microscope, index := 2, input := .t1, edge := .fall, tTrig := 0x1040, missed := 1
    compGen := 23, entries := [{ source := .m, status := .bridged, epoch := 2, position := -2 }] }

/-- Formats: the 24 bytes of the record. -/
theorem test_record_bytes :
    Record.bytes oneRecord = [0, 15, 0x1B, 0x59, 2, 7, 1, 1, 0, 0, 0, 0, 0x10, 0x40, 23, 24, 0x41, 2, 0xFF, 0xFF, 0xFF,
      0xFF, 0xFF, 0xFE] := by decide

/-- R137: REMOVE takes the records it returns, and RECORDS_READY follows. -/
theorem test_read_captures :
    let s := raised { awake with lcu := { awake.lcu with records := [oneRecord] } } 0
    (after (.readCaptures (host [8, 0])) s).lcu.records = [] ∧
      (after (.readCaptures (host [8, 0])) s).hpt.flags = 0 ∧ dataLength (after (.readCaptures (host [8, 0])) s) = some 24 := by
  decide

/-- R139: CLEAR clears the four link counters. -/
theorem test_read_capture_state :
    (after (.readCaptureState (host [1])) { awake with msl := { awake.msl with messages := 4, outDiscards := 1 } }).msl =
      awake.msl := by decide

/-- R139: a receiver that assembles a message, at 115 200 bits per second. -/
theorem test_read_capture_assembling :
    ({ awake.msl with rx := .assembling [9] 0 } : MicroLink).bytes = [0x01, 0xC2, 0x00, 0, 0, 0, 0, 0, 0, 0, 0, 0, 0] := by decide

/-! ## Microscope link -/

/-- R144: ACCEPTED carries the depth. -/
theorem test_micro_queue_context :
    let t := after (.microQueueContext [0x17, 0, 0, 0x1B, 0x59, 2, 0, 1]) { beforeEdge with lcu := awake.lcu }
    t.lcu.contexts = [contextC1] ∧ t.msl.out = [[2, 0xA1, 1]] ∧ t.msl.tx = .sending 1080 := by decide

/-- R123: FLUSH_OWN removes the contexts of the microscope alone. -/
theorem test_flush_own :
    let s := { beforeEdge with lcu := { beforeEdge.lcu with contexts := [contextC1, { contextC1 with origin := .host }] } }
    (after (.flushOwn []) s).lcu.contexts = [{ contextC1 with origin := .host }] := by decide

/-- R144: STATE with a capture in flight. -/
theorem test_query :
    (after (.query []) (inFlight 1095)).msl.out = [[9, 0xA4, 1, 1, 1, 0x1B, 0x59, 1, 0, 0]] := by decide

/-- R142, R144: the characters LEN 1 and CODE 23H make a QUERY. -/
theorem test_message_by_characters :
    let s := afterLines [.microBegins, .microEnds 1 true true, .microBegins] beforeEdge
    s.msl.rx = .assembling [1] 1080 ∧ s.msl.underWay = some 1080 ∧
      (afterLine (.microEnds 0x23 true true) s).msl.out = [[9, 0xA4, 1, 1, 0, 0, 0, 0, 0, 0]] ∧
      (afterLine (.microEnds 0x23 true true) s).msl.rx = .idle := by decide

/-- R144: an unknown CODE is REFUSED UNKNOWN. -/
theorem test_micro_unknown_code : (after (.microUnknownCode 0x20 []) beforeEdge).msl.out = [[2, 0xA2, 4]] := by decide

/-- R143: a line error. -/
theorem test_line_error :
    let t := after (.lineError .parity 1000) beforeEdge
    t.msl.lineErrors = 1 ∧ t.msl.rx = .waiting 1000 ∧ t.msl.out = [[2, 0xA2, 3]] ∧ t.hpt.flags.getLsbD 26 = true := by decide

/-- R142: 44 bit times at 2 000 000 bits per second are 2 200 ticks. -/
theorem test_gap_discard :
    let s := { beforeEdge with msl := { beforeEdge.msl with rx := .assembling [9, 0x21] 1000 } }
    (after .gapDiscard { s with tick := 3201 }).msl.gapDiscards = 1 ∧
      (after .gapDiscard { s with tick := 3201 }).msl.rx = .idle ∧
      (after .gapDiscard { s with tick := 3200 }).msl.gapDiscards = 0 := by decide

/-- R143: the wait ends when more than 44 bit times have passed, 38 194 ticks at the default rate. -/
theorem test_silence_wait_end :
    (after .silenceWaitEnd { awake with tick := 38195 }).msl.rx = .idle ∧
      (after .silenceWaitEnd { awake with tick := 38194 }).msl.rx = .waiting 0 := by decide

/-- R143: a character while waiting restarts the silence. -/
theorem test_character_while_waiting :
    (after (.characterWhileWaitingForSilence true 500) awake).msl.rx = .waiting 500 ∧
      (after (.characterWhileWaitingForSilence true 500) awake).msl.lineErrors = 1 := by decide

/-- R143: the silence is measured from the beginning of a character still under way, so it does not end meanwhile. -/
theorem test_character_under_way :
    let s := { afterLine .microBegins { awake with tick := 38190 } with tick := 38200 }
    s.msl.rx = .waiting 38190 ∧ after .silenceWaitEnd s = s ∧ s.dueEvent = none := by decide

/-- R145, worked capture: 3 characters from tick 300 have left by 1950. -/
theorem test_message_sent :
    let s := { beforeEdge with tick := 1950, msl := { beforeEdge.msl with out := [[2, 0xA1, 1], [2, 0xA1, 2]], tx := .sending 300 } }
    (after .messageSent s).msl.out = [[2, 0xA1, 2]] ∧ (after .messageSent s).msl.tx = .sending 1950 ∧
      after .messageSent { s with tick := 1949 } = { s with tick := 1949 } := by decide

/-- R141: a changed rate and a message half received. -/
theorem test_set_micro_link :
    let s := { beforeEdge with msl := { beforeEdge.msl with rx := .assembling [9] 1000 } }
    let t := after (.setMicroLink (host [0x01, 0xC2, 0x00])) s
    t.msl.rate = 115200 ∧ t.msl.lineErrors = 1 ∧ t.msl.rx = .waiting 1000 := by decide

/-! ## Monitors and ALERT -/

/-- The yaw guard of the worked sequence: monitor 0 watches W in ±400. -/
def yawGuard : State :=
  let s := withPhu (withPhu awake .q0 (referencedAt 1000300 1)) .q1 (referencedAt 999880 1)
  { s with mnu := { s.mnu with
      i0 := { Monitor.reset with source := .w, low := -400, high := 400, action := .alert, enabled := true } } }

/-- R148 to R150, worked sequence, event 2: W = 420 trips and enters LEVEL. -/
theorem test_monitor_trips :
    let t := yawGuard.evaluateMonitors .q1
    (t.mnu.get .q0).tripped = true ∧ t.hpt.flags.getLsbD 11 = true ∧ t.alc.state = .level false := by decide

/-- R149: the bounds belong to the window. -/
theorem test_monitor_bound :
    (({ yawGuard with phu := yawGuard.phu.set .q0 (referencedAt 1000280 1) }).evaluateMonitors .q1).mnu = yawGuard.mnu := by
  decide

/-- R147. -/
theorem test_set_monitor :
    let t := after (.setMonitor (host [3, 5, 0xFF, 0xFF, 0xFF, 0xFF, 0xFE, 0x70, 0, 0, 0, 0, 1, 0x90, 0, 1, 1])) awake
    t.mnu.get .q3 = { Monitor.reset with source := .w, low := -400, high := 400, action := .alert, enabled := true } := by decide

/-- R151, R157: clearing the mark makes the level condition false; the level lasts until its minimum. -/
theorem test_clear_monitor :
    let t := after (.clearMonitor (host [3])) (yawGuard.evaluateMonitors .q1)
    (t.mnu.get .q0).tripped = false ∧ t.levelCondition = false ∧ t.alc.state = .level false := by decide

/-- The Alert Controller in a state since a tick of microseconds. -/
def alerting (us : Nat) (st : AlertState) (low : Nat) : State :=
  { awake with tick := BitVec.ofNat 48 (us * 100), alc := { awake.alc with state := st, wentLow := BitVec.ofNat 48 (low * 100) } }

/-- R154, worked sequence, at 2. -/
theorem test_pulse_timer :
    (after .pulseTimerExpiry (alerting 2 (.pulse 0) 0)).alc.state = .gap 200 ∧
      (after .pulseTimerExpiry (alerting 1 (.pulse 0) 0)).alc.state = .pulse 0 := by decide

/-- R154, worked sequence, at 4. -/
theorem test_gap_timer : (after .gapTimerExpiry (alerting 4 (.gap 200) 0)).alc.state = .released := by decide

/-- R157, worked sequence, at 30: the minimum runs from 10. -/
theorem test_minimum_level :
    (after .minimumLevelExpiry (alerting 30 (.level false) 10)).alc.state = .gap 3000 ∧
      (after .minimumLevelExpiry (alerting 29 (.level false) 10)).alc.state = .level false := by decide

/-- R156, worked sequence, at 11: a pulse merges into the level, which counts from the start of the pulse. -/
theorem test_pulse_merges :
    let s := alerting 11 (.pulse 1000) 10
    ((({ s with alc := { s.alc with guard := 1 }, phu := s.phu.set .q0 { referencedAt 0 0 with state := .faulted } })).judgeLevel).alc.state =
      .level false := by decide

/-- R152: a pulse time of 10 µs needs a LEVEL_MIN of 40 or more. -/
theorem test_set_alert :
    (after (.setAlert (host [15, 1, 1, 10, 40])) awake).alc =
        { Alert.reset with guard := 15, pulseOnBridge := true, pulseOnMiss := true, pulseTime := 10, levelMin := 40 } ∧
      (after (.setAlert (host [15, 1, 1, 10, 39])) awake).alc = Alert.reset := by decide

/-- R160: CLEAR returns the coalesced count and clears it. -/
theorem test_read_alert_state :
    (after (.readAlertState (host [1]) false) { awake with alc := { awake.alc with coalesced := 3 } }).alc.coalesced = 0 := by
  decide

/-! ## Sample link settings and axes -/

/-- R16: a changed SAMPLE_DELAY takes the link to DOWN. -/
theorem test_set_link :
    let t := after (.setLink (host [1, 7, 255, 3, 0xFF])) (oneAxis 1010 .q1 40 eightFrames)
    (t.slr.get .q1).sampleDelay = 1023 ∧ (t.slr.get .q1).link = .down ∧ (t.phu.get .q1).state = .faulted := by decide

/-- R15: CLEAR of link 1 alone. -/
theorem test_read_link_counters :
    let s := withSlr (withSlr awake .q0 { Receiver.reset with gaps := 4 }) .q1 { Receiver.reset with gaps := 5 }
    ((after (.readLinkCounters (host [2, 1])) s).slr.get .q1).gaps = 0 ∧
      ((after (.readLinkCounters (host [2, 1])) s).slr.get .q0).gaps = 4 := by decide

/-- R21: OS of −4096 is in range, −4097 is not. -/
theorem test_set_correction :
    ((after (.setCorrection (host [0, 0xF0, 0, 0x0F, 0xFF, 0x20, 0, 0x5F, 0xFF, 0xF8, 0])) awake).phu.get .q0).correction =
        { os := -4096, oc := 4095, gs := 8192, gc := 24575, q := -2048 } ∧
      (after (.setCorrection (host [0, 0xEF, 0xFF, 0, 0, 0x40, 0, 0x40, 0, 0, 0])) awake).phu = awake.phu := by decide

/-- R23: AMP_LOW equal to AMP_HIGH is refused. -/
theorem test_set_amplitude :
    (after (.setAmplitude (host [0, 0x10, 0, 0x10, 0])) awake).hpt.response =
      .ready { refusal := some .badValue, code := 0x09, data := [] } := by decide

/-- R30: refused STATE in REFERENCED. -/
theorem test_set_direction :
    ((after (.setDirection (host [0, 0xFF])) awake).phu.get .q0).dir = .minus ∧
      (after (.setDirection (host [1, 0xFF])) (oneAxis 0 .q1 0 eightFrames)).hpt.response =
        .ready { refusal := some .state, code := 0x0A, data := [] } := by decide

/-- R37, the lowered budget: a new budget waits while a bridge is under way. -/
theorem test_set_bridge :
    let t := (after (.setBridge (host [1, 0])) (oneAxis 0 .q1 0 { eightFrames with missing := 1 })).phu.get .q1
    t.bridgeMax = 2 ∧ t.pendingBridgeMax = some 0 := by decide

/-- R43: 26 bytes of tracking state, then a count and 14 bytes for each history entry. -/
theorem test_read_tracking : dataLength (after (.readTracking (host [1])) (oneAxis 0 .q1 0 eightFrames)) = some 41 := by decide

/-- R46: ENABLE_AXIS takes the lock view from the link. -/
theorem test_enable_axis :
    let t := (after (.enableAxis (host [1])) (withSlr awake .q1 (lockedLink 0))).phu.get .q1
    t.state = .unreferenced ∧ t.lockView = true := by decide

/-- R47: DISABLE_AXIS clears ACC and advances the epochs of A1 and M. -/
theorem test_disable_axis :
    let t := after (.disableAxis (host [1])) (oneAxis 0 .q1 0 eightFrames)
    (t.phu.get .q1).state = .off ∧ (t.phu.get .q1).acc = 0 ∧ (t.phu.get .q1).epoch = 4 ∧ t.mEpoch = 1 := by decide

/-- R50: ACK_FAULT keeps ACC and clears the fault record and the hold value. -/
theorem test_ack_fault :
    let t := (after (.ackFault (host [1])) (oneAxis 0 .q1 0 { eightFrames with
      state := .faulted, hold := 9, fault := some { first := .link, further := 0, tick := 5 } })).phu.get .q1
    t.state = .unreferenced ∧ t.acc = 5000000 ∧ t.hold = 0 ∧ t.fault = none := by decide

/-- R51: DATUM_NOW loads ACC, −2 here, and needs the lock view. -/
theorem test_datum_now :
    let c : Instr := .datumNow (host [1, 0xFF, 0xFF, 0xFF, 0xFF, 0xFF, 0xFE])
    ((after c (oneAxis 0 .q1 0 eightFrames)).phu.get .q1).acc = -2 ∧
      ((after c (oneAxis 0 .q1 0 eightFrames)).phu.get .q1).epoch = 4 ∧
      (after c (oneAxis 0 .q1 0 { eightFrames with state := .unreferenced, lockView := false })).hpt.response =
        .ready { refusal := some .noLock, code := 0x10, data := [] } := by decide

/-- R52. -/
theorem test_set_datum_preset :
    ((after (.setDatumPreset (host [1, 0, 0, 0, 0, 1, 0, 2])) awake).phu.get .q1).preset = { value := 256, direction := .any } := by
  decide

/-- R53. -/
theorem test_datum_at_mark :
    let t := (after (.datumAtMark (host [1, 0, 0, 0, 0, 1, 0, 1])) (oneAxis 0 .q1 0 { eightFrames with state := .unreferenced })).phu.get .q1
    t.state = .armed ∧ t.armed = some { value := 256, direction := .negative } := by decide

/-- R56. -/
theorem test_release_axis :
    ((after (.releaseAxis (host [1])) (oneAxis 0 .q1 0 eightFrames)).phu.get .q1).state = .unreferenced := by decide

/-- R57: AXIS_RESTART clears ACC and empties the history. -/
theorem test_axis_restart :
    let t := after (.axisRestart (host [1])) (oneAxis 0 .q1 0 eightFrames)
    (t.phu.get .q1).acc = 0 ∧ (t.phu.get .q1).history = [] ∧ (t.phu.get .q1).epoch = 4 ∧ (t.slr.get .q1).link = .locked := by decide

/-! ## Host port -/

/-- A part whose response is ready with data. -/
def answering (data : List Byte) (lost : Bool) : State :=
  { awake with hpt := { awake.hpt with response := .ready { refusal := none, code := 0x26, data := data }, lost := lost } }

/-- R165, R166, worked sequence: a partial FETCH leaves the response, a whole one takes it with the lost mark. -/
theorem test_fetch :
    (after (.fetch 5) (answering [7, 8] true)).hpt.hdo = [0x80, 0x26, 0, 2, 7] ∧
      (after (.fetch 5) (answering [7, 8] true)).hpt.lost = true ∧
      (after (.fetch 6) (answering [7, 8] true)).hpt.response = .none ∧
      (after (.fetch 6) (answering [7, 8] true)).hpt.lost = false := by decide

/-- The bits of bytes on HDI. -/
def clocked (bytes : List Byte) : List LineEvent := (bytesToBits bytes).map LineEvent.hostClock

/-- R165: a FETCH by its clocks; the fifth bit of the byte 08H is a one, and the unfinished byte is not taken. -/
theorem test_fetch_by_clocks :
    let s := afterLines (clocked [0, 0xFF, 0xFF, 0xFF, 0xFF, 0xFF] ++ List.replicate 4 (.hostClock true)) (answering [7, 8] true)
    s.hpt.clockOut = true ∧ (afterLine (.hostDeselect false) s).hpt.hdo = [0x80, 0x26, 0, 2, 7] ∧
      (afterLine (.hostDeselect false) s).hpt.lost = true := by decide

/-- R162: a command frame by its bits, the last three of an unfinished byte; and a selection of seven bits. -/
theorem test_command_by_clocks :
    let s := afterLines (clocked [0x1E, 1, 4] ++ List.replicate 3 (.hostClock true)) awake
    (afterLine (.hostDeselect false) s).fru.notifyN = 4 ∧ (afterLine (.hostDeselect false) s).hpt.frame = .idle ∧
      afterLines (List.replicate 7 (.hostClock false) ++ [.hostDeselect false]) awake = awake := by decide

/-- R164: a response in preparation becomes ready. -/
theorem test_response_ready :
    let r : Response := { refusal := none, code := 5, data := [] }
    (after .responseReady { awake with hpt := { awake.hpt with response := .preparing r 0 } }).hpt.response = .ready r := by decide

/-- R163: an unknown CODE, with another response unfetched. -/
theorem test_unknown_command :
    (after (.unknownCommand 0x2D []) (answering [] false)).hpt.response =
        .ready { refusal := some .unknown, code := 0x2D, data := [] } ∧
      (after (.unknownCommand 0x2D []) (answering [] false)).hpt.lost = true := by decide

/-- R163: a wrong LEN is BAD_LENGTH. -/
theorem test_bad_length :
    (after (.enableAxis [2, 0, 0]) awake).hpt.response = .ready { refusal := some .badLength, code := 0x0D, data := [] } := by
  decide

/-- R168: CLEAR_EVENTS does not clear RECORDS_READY. -/
theorem test_clear_events :
    (after (.clearEvents (host [0xFF, 0xFF, 0xFF, 0xFF])) (raised (raised awake 0) 26)).hpt.flags = 1 := by decide

/-- R169: ATTN follows the mask. -/
theorem test_set_event_mask : (after (.setEventMask (host [4, 0, 0, 0])) (raised awake 26)).hpt.attn = true := by decide

/-- R170: 30 bytes and 27 for each axis. -/
theorem test_read_status : dataLength (after (.readStatus (host []) false) awake) = some 138 := by decide

/-- R171, Formats: A0 with its flags VALID and LOCKED. -/
theorem test_read_position :
    (after (.readPosition (host [1, 0])) snapshotCase).hpt.response =
      .preparing { refusal := none, code := 3, data :=
        [23, 0, 0, 0, 0, 0, 0, 0x00, 0x00, 0x12, 0x6B, 0x19, 0x00, 1, 9] } 0 := by decide

/-- R172: RESET_UNIT leaves its own response ready, whose fetch is the way to see it. -/
theorem test_reset_unit :
    (after (.resetUnit (host []) false) (oneAxis 99 .q1 0 eightFrames)) =
      { awake with hpt := { awake.hpt with response := .ready { refusal := none, code := 1, data := [] } } } := by decide

/-- R172: a power-on reset with HSEL low waits for it. -/
theorem test_power_on_reset : after (.powerOnReset true) (oneAxis 99 .q1 0 eightFrames) = State.reset := by decide

/-- R172: HSEL high ends the wait. -/
theorem test_hsel_seen_high : after .hselSeenHigh State.reset = awake := by decide

/-! ## Terms that spell no event of their row -/

theorem test_wf_conditions_frame : Instr.wf (.conditionsFrame []) = false := by decide

theorem test_wf_servo_read_complete : Instr.wf (.servoReadComplete 0x40) = false ∧ Instr.wf (.servoReadComplete 0x80) = false := by
  decide

theorem test_wf_servo_arm : Instr.wf (.servoArm 0) = false := by decide

theorem test_wf_servo_disarm : Instr.wf (.servoDisarm 0x40) = false := by decide

theorem test_wf_micro_lengths :
    Instr.wf (.microQueueContext (List.replicate 23 0)) = false ∧ Instr.wf (.flushOwn (List.replicate 23 0)) = false ∧
      Instr.wf (.query (List.replicate 23 0)) = false ∧ Instr.wf (.microUnknownCode 0x20 (List.replicate 23 0)) = false := by
  decide

theorem test_wf_micro_unknown_code : Instr.wf (.microUnknownCode 0x21 []) = false := by decide

theorem test_wf_line_error : Instr.wf (.lineError (.badLen 1) 0) = false ∧ Instr.wf (.lineError (.badLen 23) 0) = false := by
  decide

theorem test_wf_unknown_command : Instr.wf (.unknownCommand 0x2C []) = false ∧ Instr.wf (.unknownCommand 0 []) = false := by
  decide

theorem test_wf_hold_output :
    Instr.wf (.holdOutput (host [1, 1])) = false ∧ Instr.wf (.holdOutputRelease (host [1, 0])) = false := by decide

/-- A term of each of these rows that is well formed. -/
theorem test_wf_accepts :
    Instr.wf (.conditionsFrame (goodChars [0])) = true ∧ Instr.wf (.servoArm 0x48) = true ∧
      Instr.wf (.servoDisarm 0x88) = true ∧ Instr.wf (.servoReadComplete 0xC0) = true ∧
      Instr.wf (.lineError (.badLen 24) 0) = true ∧ Instr.wf (.lineError (.badLen 0) 0) = true ∧
      Instr.wf (.unknownCommand 0x2D []) = true ∧ Instr.wf (.holdOutputRelease (host [1, 1])) = true := by decide

/-! ## Witnesses: a state and operands that meet the hypotheses of each obligation, clause by clause -/

/-- A part in the middle of its work: every axis in another state, a capture in flight, queues that are not empty, an ALERT
monitor tripped, and a sample frame waiting. -/
def busy : State where
  tick := 10000
  slr := ⟨{ lockedLink 40 with silence := some 9990 }, { lockedLink 7 with silence := some 9990 },
    { lockedLink 7 with silence := some 9990 }, Receiver.reset⟩
  phu := ⟨captureAxis 9900 5000000 1,
    { captureAxis 9900 4999950 1 with
      state := .faulted, hold := 4999950, fault := some { first := .step, further := 4, tick := 9900 } },
    { captureAxis 9900 70 3 with state := .armed, armed := some { value := 549755813887, direction := .any }, missing := 2,
                                 pendingBridgeMax := some 0 },
    { PhaseUnit.reset with state := .unreferenced }⟩
  mEpoch := 2
  cmu := { stationed.cmu with
    tSource := .awaiting, heldT := true, recompute := true
    frame := [{ byte := 7, stopOk := true, began := 1 }, { byte := 0x81, stopOk := false, began := 8682 }]
    computing := some { inputs := { n := 270980, e := 1241000, optics := stationed.cmu.optics }, start := 9000 }
    staged := some ⟨20250198, 20250224, 20250224, 20255712⟩ }
  fru := { FrameUnit.reset with notifyN := 4, notifyCount := 3 }
  svp := { ServoPort.reset with
    staged := some [{ source := .m, unit := .pm }, { source := .w, unit := .steps }]
    snapshot := some {
      header := { frameNo := 5, compGen := 7, layoutGen := 4, internal := false, condHeld := false, alertOwn := false }
      slots := [{ value := 8796093022207, valid := true, held := false, fault := false, armed := false, bridged := false,
                  saturated := false, locked := true, monitor := false, epoch := 1 }] }
    read := (.reading { content := zeroFrame 1, clocks := 87, word := [false, true, true, false, false, true, false, false] })
    holds := { axes := Four.replicate none, m := some { steps := 1099511627775, pm := 3, epoch := 2 }, w := none } }
  lcu := { (inFlight 10000).lcu with
    records := [{ oneRecord with number := 13 }, { oneRecord with number := 14 }], missed := 255 }
  msl := { beforeEdge.msl with
    rx := .assembling [9, 0x21] 9990, underWay := some 9995
    out := [[2, 0xA1, 1], echoMessage oneRecord { source := .m, status := .bridged, epoch := 2, position := -2 }], tx := .sending 9000 }
  mnu := (yawGuard.mnu.set .q0 { yawGuard.mnu.get .q0 with tripped := true })
  alc := { Alert.reset with state := .level false, wentLow := 9000, guard := 2, coalesced := 65535 }
  hpt := { HostPort.reset with waitHsel := false, frame := .receiving [false, true], flags := 1, mask := 1, attn := true }
  lines := [.hostClock true]
  choices := 3
  pending := [.sampleFrame .q0 (sampleBits (sample 16000 0 41))]

/-- The part takes the frame that waits. -/
theorem busy_steps : ∃ t, step busy = .next t := ⟨_, rfl⟩

theorem witness_StepTakesTheFrontCommand :
    busy.pending = [.sampleFrame .q0 (sampleBits (sample 16000 0 41))] := rfl

/-- Nothing due and no line event; nothing due and a line event; an event due. -/
theorem witness_IdleStepTakesDueEventOrTick :
    awake.pending = [] ∧ awake.dueEvent = none ∧ awake.lines = [] ∧
      ({ awake with lines := [.hostClock true] } : State).dueEvent = none ∧
      ({ awake with tick := 50000 } : State).pending = [] ∧
      ({ awake with tick := 50000 } : State).dueEvent = some .syncWatchExpiry := by decide

theorem witness_StepKeepsAxes : busy.AxesOk ∧ ∃ t, step busy = .next t :=
  ⟨fun a => by cases a <;> exact ⟨by constructor <;> decide, by constructor <;> decide⟩, busy_steps⟩

theorem busy_tracking : busy.TrackingOk := by
  intro a
  cases a <;> constructor
  all_goals first
    | decide
    | (unfold InAcc; decide)

theorem witness_StepKeepsTracking : busy.TrackingOk ∧ ∃ t, step busy = .next t := ⟨busy_tracking, busy_steps⟩

theorem witness_StepKeepsConditions : busy.cmu.Ok ∧ busy.cmu.StepsOk ∧ ∃ t, step busy = .next t := by
  refine ⟨?_, ⟨fun a => ?_, fun c h => ?_, fun a => ?_, fun k h => ?_⟩, busy_steps⟩
  · constructor
    all_goals first
      | decide
      | (intro k; cases k <;> decide)
  · cases a <;> (unfold Optics.Ok; decide)
  · cases h
    refine ⟨by decide, by decide, fun a => ?_⟩
    cases a <;> (unfold Optics.Ok; decide)
  · cases a <;> decide
  · cases h
    intro a
    cases a <;> decide

theorem witness_StepKeepsFrameUnit : busy.fru.Ok ∧ ∃ t, step busy = .next t := by
  refine ⟨?_, busy_steps⟩
  constructor
  all_goals first
    | decide
    | (intro a; cases a <;> decide)

theorem witness_StepKeepsServoPort : busy.TrackingOk ∧ busy.svp.Ok ∧ ∃ t, step busy = .next t := by
  refine ⟨busy_tracking, ⟨?_, fun l h => ?_, fun y h => ?_, fun r h => ?_, fun y h e => ?_⟩, busy_steps⟩
  · exact ⟨by decide, by decide, by decide⟩
  · cases h
    exact ⟨by decide, by decide, by decide⟩
  · cases h
    refine ⟨by decide, by decide, fun z hz => ?_⟩
    cases List.mem_singleton.mp hz
    constructor <;> decide
  · cases h
    constructor <;> decide
  · match y with
    | .m => cases e; constructor <;> decide
    | .w => cases e
    | .phys .q0 => cases e
    | .phys .q1 => cases e
    | .phys .q2 => cases e
    | .phys .q3 => cases e

theorem witness_StepKeepsContextsAndEntries :
    ContextsOk busy.lcu.contexts ∧ busy.lcu.EntriesOk ∧ ∃ t, step busy = .next t := by
  refine ⟨⟨by decide, fun c h => ?_⟩, ⟨fun c h => ?_, fun r h e he => ?_, by decide⟩, busy_steps⟩
  · cases List.mem_singleton.mp h
    decide
  · cases h
    refine ⟨by decide, fun a e st x16 pos ha hp => ?_⟩
    cases a <;> cases ha <;> cases hp
    exact ⟨by decide, by decide, by decide⟩
  · have hr : r.entries = oneRecord.entries := by
      rcases List.mem_cons.mp h with rfl | h
      · rfl
      · cases List.mem_singleton.mp h
        rfl
    rw [hr] at he
    cases List.mem_singleton.mp he
    exact ⟨by decide, by decide, by decide⟩

/-- The next number has not come back to that of a queued record. -/
theorem witness_StepKeepsRecords :
    busy.RecordsOk ∧ busy.lcu.NumbersRise ∧ busy.lcu.records.map (fun r => r.number) = [13, 14] ∧ busy.lcu.recordNo = 15 ∧
      (∀ r ∈ busy.lcu.records, r.number ≠ busy.lcu.recordNo + 1) ∧ ∃ t, step busy = .next t := by
  refine ⟨⟨by decide, by decide, by decide⟩, ⟨?_, by decide⟩, by decide, by decide, by decide, busy_steps⟩
  change List.Pairwise _ [_, _]
  simp only [List.pairwise_cons]
  decide

theorem witness_StepKeepsMicroLink : busy.msl.Ok ∧ ∃ t, step busy = .next t := by
  refine ⟨⟨by decide, by decide, by decide, by decide, by decide, fun chars began h => ?_⟩, busy_steps⟩
  cases h
  exact ⟨_, _, rfl, by decide, by decide, by decide⟩

theorem witness_StepKeepsAlert : busy.AlertOk ∧ ∃ t, step busy = .next t := by
  refine ⟨⟨fun _ => ⟨false, rfl⟩, by decide, by decide, by decide, fun m => ?_⟩, busy_steps⟩
  cases m <;> decide

theorem witness_StepKeepsHostPort : busy.hpt.Ok ∧ ∃ t, step busy = .next t := by
  refine ⟨⟨⟨fun _ => ⟨0, by decide, by decide⟩, fun _ => rfl⟩, fun h => ?_, fun bits h => ?_⟩, busy_steps⟩
  · cases h
  · cases h
    decide

/-- A frame under way and none; the limits of SIN and COS; the first bit and the last. -/
theorem witness_SampleFramesCarryTheirFields :
    let f := sample (-32768) 32767 63
    ((withSlr awake .q1 { Receiver.reset with frame := some [true] }).slr.get .q1).frame = some [true] ∧
    (awake.slr.get .q1).frame = none ∧ (∃ t, exec (.powerOnReset true) busy = .next t) ∧
    (-32768 ≤ f.sin ∧ f.sin ≤ 32767) ∧ (-32768 ≤ f.cos ∧ f.cos ≤ 32767) ∧ parseSample (sampleBits f) = some f ∧ 0 < 48 ∧ 47 < 48 :=
  ⟨by decide, by decide, ⟨_, rfl⟩, by decide⟩

/-- θ = 0 for the pair (7, 0) and θ = π/2 for (0, 7). -/
theorem witness_PhaseIsExactlyRounded :
    (((0 : Int) ≠ 0 ∨ (7 : Int) ≠ 0) ∧ (0 : ℝ) ≤ 0 ∧ (0 : ℝ) < 2 * Real.pi ∧
      ((7 : Int) : ℝ) = Real.sqrt (((7 : Int) : ℝ) ^ 2 + ((0 : Int) : ℝ) ^ 2) * Real.cos 0 ∧
      ((0 : Int) : ℝ) = Real.sqrt (((7 : Int) : ℝ) ^ 2 + ((0 : Int) : ℝ) ^ 2) * Real.sin 0) ∧
    (0 ≤ Real.pi / 2 ∧ Real.pi / 2 < 2 * Real.pi ∧
      ((0 : Int) : ℝ) = Real.sqrt (((0 : Int) : ℝ) ^ 2 + ((7 : Int) : ℝ) ^ 2) * Real.cos (Real.pi / 2) ∧
      ((7 : Int) : ℝ) = Real.sqrt (((0 : Int) : ℝ) ^ 2 + ((7 : Int) : ℝ) ^ 2) * Real.sin (Real.pi / 2)) := by
  have h := Real.pi_pos
  have r : Real.sqrt (7 ^ 2) = 7 := Real.sqrt_sq (by norm_num)
  refine ⟨⟨by norm_num, by norm_num, by linarith, ?_, ?_⟩, by linarith, by linarith, ?_, ?_⟩
  all_goals simp [r]

/-- A divisor of each sign; a calibration; one byte at its limits. -/
theorem witness_RoundingCorrectionAndCodings :
    (-1 : Int) ≠ 0 ∧ (2 : Int) ≠ 0 ∧ ({ c1 := 0, tc1 := 0, c2 := 1, tc2 := 0 } : ProbeCal).c1 ≠ 1 ∧
      0 < 1 ∧ -(2 ^ (8 * 1 - 1) : Int) ≤ -128 ∧ (127 : Int) < 2 ^ (8 * 1 - 1) := by decide

/-- A part with one receiver and its axis OFF. -/
def linkOnly (r : Receiver) : State := withSlr { awake with tick := 1010 } .q0 r

/-- A receiver in ACQUIRING. -/
def acquiring (run : Nat) (last : BitVec 6) : Receiver :=
  { Receiver.reset with link := .acquiring, goodRun := run, lastSeq := some last, silence := some 1000 }

theorem witness_FramesTakenInDown :
    ((linkOnly Receiver.reset).slr.get .q0).link = .down ∧ ((linkOnly Receiver.reset).slr.get .q0).Ok ∧
      parseSample (sampleBits (sample 1 2 3)) = some (sample 1 2 3) ∧ parseSample [] = none :=
  ⟨by decide, by constructor <;> decide, by decide, by decide⟩

/-- Runs of 1 and 14 that go on across SEQ 63, a run of 0, a SEQ that does not follow, and a bad frame of 49 bits. -/
theorem witness_FramesTakenInAcquiring :
    (∀ run ∈ [1, 14], ((linkOnly (acquiring run 63)).slr.get .q0).link = .acquiring ∧ 1 ≤ run ∧ run ≠ 15 ∧
      parseSample (sampleBits (sample 1 2 0)) = some (sample 1 2 0) ∧
      ((linkOnly (acquiring run 63)).slr.get .q0).lastSeq = some ((sample 1 2 0).seq - 1)) ∧
    ((linkOnly (acquiring 0 63)).slr.get .q0).goodRun = 0 ∧
    ((linkOnly (acquiring 9 63)).slr.get .q0).lastSeq ≠ some ((sample 1 2 1).seq - 1) ∧
    parseSample (true :: sampleBits (sample 1 2 0)) = none := by decide

/-- The sixteenth frame; gaps of 0 and 31; 32 behind and a duplicate, and a bad frame, each below the limit and at it. -/
theorem witness_FramesTakenInLocked :
    ((linkOnly (acquiring 15 63)).phu.get .q0).state = .off ∧ ((linkOnly (acquiring 15 63)).slr.get .q0).goodRun = 15 ∧
    ((linkOnly (acquiring 15 63)).slr.get .q0).lastSeq = some ((sample 1 2 0).seq - 1) ∧
    (∀ x ∈ [(5, 6, 0), (5, 37, 31), (5, 38, 32), (5, 5, 63)],
      parseSample (sampleBits (sample 1 2 (BitVec.ofNat 6 x.2.1))) = some (sample 1 2 (BitVec.ofNat 6 x.2.1)) ∧
      ((linkOnly (lockedLink (BitVec.ofNat 6 x.1))).slr.get .q0).lastSeq = some (BitVec.ofNat 6 x.1) ∧
      ((BitVec.ofNat 6 x.2.1 : BitVec 6) - (BitVec.ofNat 6 x.1 + 1)).toNat = x.2.2) ∧
    ((linkOnly { lockedLink 5 with badRun := 1 }).slr.get .q0).badRun + 1 <
      ((linkOnly { lockedLink 5 with badRun := 1 }).slr.get .q0).badRunLimit ∧
    ((linkOnly { lockedLink 5 with badRun := 2 }).slr.get .q0).badRunLimit ≤
      ((linkOnly { lockedLink 5 with badRun := 2 }).slr.get .q0).badRun + 1 ∧
    ((linkOnly { lockedLink 5 with badRun := 2 }).slr.get .q0).link = .locked ∧ parseSample [] = none := by decide

/-- The state before a frame of phase 0 with the phase reference and the count given. -/
def beforeSample (ref : Option (BitVec 9)) (st : AxisState) (acc : Int := 5000000) : State :=
  oneAxis 1010 .q1 40 { eightFrames with
    pRef := ref, state := st, acc := acc, armed := if st = .armed then some { value := -7, direction := .positive } else none }

/-- The frame of phase 0, with its mark. -/
def zeroPhase : SampleFields := { sin := 0, cos := 16000, seq := 41, mark := true, clip := false }

theorem sample_taken (ref : Option (BitVec 9)) (st : AxisState) (acc : Int) (h : st ≠ .off) :
    SampleTaken (beforeSample ref st acc) .q1 (sampleBits zeroPhase) zeroPhase { s1 := 0, c2 := 16000, clamped := false } 0 1010 where
  good := by decide
  locked := rfl
  inSequence := rfl
  on := h
  pair := by change _ = correctPair eightFrames.correction 0 16000; decide
  notLow := by change _ ∧ ((4096 : Nat) : Int) * (4096 : Nat) ≤ _; decide
  phase := by decide
  instant := by change (1010 : Tick) = 1010 - BitVec.ofNat 48 0; decide

/-- An anchor; increments of 192 and −192; a mark that meets POSITIVE with change 192 and one that does not with −192;
increments of 193 and −256; and one step beyond each end of the range. -/
theorem witness_SamplesAnchorCountOrViolate :
    SampleTaken (beforeSample none .unreferenced) .q1 (sampleBits zeroPhase) zeroPhase { s1 := 0, c2 := 16000, clamped := false } 0 1010 ∧
    ((beforeSample none .unreferenced).phu.get .q1).pRef = none ∧
    (∀ x ∈ [((320 : BitVec 9), (192 : Int)), (192, -192)], ((0 : BitVec 9) - x.1).toInt = x.2 ∧ x.2.natAbs ≤ 192 ∧
      ((beforeSample (some x.1) .armed).phu.get .q1).pRef = some x.1 ∧
      changeOf ((beforeSample (some x.1) .armed).phu.get .q1) x.2 = x.2 ∧
      ((beforeSample (some x.1) .armed).phu.get .q1).armed = some { value := -7, direction := .positive } ∧
      accMin ≤ 5000000 + x.2 ∧ 5000000 + x.2 ≤ accMax) ∧
    (∀ x ∈ [((319 : BitVec 9), (193 : Int)), (256, -256)], ((0 : BitVec 9) - x.1).toInt = x.2 ∧ 192 < x.2.natAbs ∧
      ((beforeSample (some x.1) .referenced).phu.get .q1).pRef = some x.1 ∧
      ((beforeSample (some x.1) .referenced).phu.get .q1).state = .referenced) ∧
    (∀ x ∈ [((511 : BitVec 9), (1 : Int), accMax), (1, -1, accMin)], ((0 : BitVec 9) - x.1).toInt = x.2.1 ∧
      ((beforeSample (some x.1) .referenced x.2.2).phu.get .q1).acc = x.2.2 ∧ (accMin ≤ x.2.2 ∧ x.2.2 ≤ accMax) ∧
      changeOf ((beforeSample (some x.1) .referenced x.2.2).phu.get .q1) x.2.1 = x.2.1 ∧
      ¬ (accMin ≤ x.2.2 + x.2.1 ∧ x.2.2 + x.2.1 ≤ accMax)) :=
  ⟨sample_taken _ _ _ (by decide), by decide, by decide, by decide, by decide⟩

/-- The sixteenth frame on an axis that is not OFF; SEQ in sequence; gaps of 1 and 31; a bad frame, 32 and 62 behind, and a
duplicate, below the limit and at it; pairs of length 0 and just below AMP_LOW, and one at it. -/
theorem witness_FramesHandOverToTheAxis :
    let on (r : Receiver) : State := withPhu (withSlr awake .q1 r) .q1 eightFrames
    ((on (acquiring 15 63)).phu.get .q1).state ≠ .off ∧ ((on (acquiring 15 63)).slr.get .q1).lastSeq = some ((sample 1 2 0).seq - 1) ∧
    (∀ x ∈ [(5, 6, 0), (5, 7, 1), (5, 37, 31), (5, 38, 32), (5, 4, 62), (5, 5, 63)],
      parseSample (sampleBits (sample 1 2 (BitVec.ofNat 6 x.2.1))) = some (sample 1 2 (BitVec.ofNat 6 x.2.1)) ∧
      ((on (lockedLink (BitVec.ofNat 6 x.1))).slr.get .q1).lastSeq = some (BitVec.ofNat 6 x.1) ∧
      ((BitVec.ofNat 6 x.2.1 : BitVec 6) - (BitVec.ofNat 6 x.1 + 1)).toNat = x.2.2) ∧
    (lockedLink 5).badRun + 1 < (lockedLink 5).badRunLimit ∧
    (lockedLink 5).badRunLimit ≤ ({ lockedLink 5 with badRun := 2 } : Receiver).badRun + 1 ∧ parseSample [] = none ∧
    (correctPair eightFrames.correction 0 0).r2 = 0 ∧
    (correctPair eightFrames.correction 0 4095).r2 < ((eightFrames.ampLow : Nat) : Int) * eightFrames.ampLow ∧
    ((eightFrames.ampLow : Nat) : Int) * eightFrames.ampLow ≤ (correctPair eightFrames.correction 0 4096).r2 := by decide

/-- A BAD notice of 1 and a GAP notice of 3 within a budget of 3; a GAP of 31, and of 3 beyond a budget of 2; a GAP of 1 that
comes one tick after the newest entry, and one that comes two ticks after it; a count that leaves the range at the second of
three samples, and one that leaves it at the last. -/
theorem witness_NoticesAreBridgedWholeOrFail :
    let p := { eightFrames with bridgeMax := 3 }
    let near (j : Int) : Int := accMax - j * changeOf p p.dLast
    let e : HistEntry := { instant := 1000, acc := 5000000, kind := .real, epoch := 3 }
    p.realRun = 2 ∧ p.missing + 1 ≤ p.bridgeMax ∧ p.missing + 3 ≤ p.bridgeMax ∧ p.history.getLast? = some e ∧
      p.lastInterval = some 10 ∧ 0 < (placed .bad e.instant 1010 10 1 1 - e.instant).toInt ∧
      0 < (placed .gap e.instant 1040 10 3 1 - e.instant).toInt ∧
      (accMin ≤ p.acc + 3 * changeOf p p.dLast ∧ p.acc + 3 * changeOf p p.dLast ≤ accMax) ∧
      p.bridgeMax < p.missing + 31 ∧ eightFrames.bridgeMax < eightFrames.missing + 3 ∧ p.state = .referenced ∧
      (placed .gap e.instant 1001 10 1 1 - e.instant).toInt ≤ 0 ∧ 0 < (placed .gap e.instant 1002 10 1 1 - e.instant).toInt ∧
      (∀ j ∈ [(1 : Int), 2], (accMin ≤ near j ∧ near j ≤ accMax) ∧ near j + j * changeOf p p.dLast ≤ accMax ∧
        accMax < near j + (j + 1) * changeOf p p.dLast) ∧
      (∀ m, (awake.mnu.get m).enabled = false) := by
  refine ⟨by decide, by decide, by decide, by decide, by decide, by decide, by decide, by decide, by decide, by decide,
    by decide, by decide, by decide, by decide, fun m => ?_⟩
  cases m <;> rfl

/-- A due timer with each axis state, and one that is a tick early. -/
theorem witness_SilenceLosesLockAndActsByState :
    (∀ st ∈ [AxisState.off, .unreferenced, .armed, .referenced, .faulted],
      let s := oneAxis 1200 .q1 40 { eightFrames with state := st }
      (s.slr.get .q1).silence = some 1000 ∧ hasPassed s.tick 1000 ((s.slr.get .q1).linkTimeout * 100) ∧
        (s.slr.get .q1).link = .locked ∧ (s.phu.get .q1).state = st) ∧
    ¬ hasPassed 1199 1000 (2 * 100) ∧ ((linkOnly (acquiring 3 63)).slr.get .q0).link = .acquiring ∧
      hasPassed 1200 1000 (2 * 100) := by decide

theorem witness_MonitorsTripAtUpdates : yawGuard.monitorTrips .q1 .q0 = true := by decide

/-- Characters begun at tick 0 have ended a frame as soon as more than 34 722 ticks have passed. -/
theorem good_frame_ended (bytes : List Byte) (b : Byte) (tick : Tick) (h : 34722 < tick.toInt) :
    frameHasEnded tick (goodChars (bytes ++ [b])) := by
  refine ⟨⟨{ byte := b, stopOk := true, began := 0 }, by simp [goodChars], by simpa using h⟩, fun k x y hx hy => ?_⟩
  have began : ∀ z, z ∈ goodChars (bytes ++ [b]) → z.began = 0 := by
    intro z hz
    simp only [goodChars, List.mem_map] at hz
    obtain ⟨_, _, rfl⟩ := hz
    rfl
  rw [began x (List.mem_of_getElem? hx), began y (List.mem_of_getElem? hy)]
  decide

/-- A frame that has ended and one that has not; one with a gap of 34 723 ticks in it; a bad frame of 15 characters; a
duplicate; and accepted frames with each quantity in MANUAL, AWAITING and STATION, plausible and not. -/
theorem witness_ConditionsFrames :
    frameHasEnded 34723 (goodChars [7]) ∧ ¬ frameHasEnded 34722 (goodChars [7]) ∧
    ¬ frameHasEnded 100000 [{ byte := 7, stopOk := true, began := 0 }, { byte := 8, stopOk := true, began := 34723 }] ∧
    (∀ n ∈ [150000, 350000, 350001], frameHasEnded stationed.tick (conditions n 32600 true)) ∧
    (stationed.cmu.frame = [] ∧ busy.cmu.frame ≠ [] ∧ busy.cmu.frame ≠ goodChars [7]) ∧
    (goodChars (List.replicate 15 0)).length ≠ 14 ∧ parseConditions (goodChars (List.replicate 15 0)) = none ∧
    (∀ n ∈ [150000, 350000, 350001], ∃ f, parseConditions (conditions n 32600 true) = some f ∧ f.seq = 7 ∧ f.n = n) ∧
    ({ stationed.cmu with lastSeq := some 7 } : Compensation).lastSeq = some 7 ∧ stationed.cmu.lastSeq ≠ some 7 ∧
    awake.cmu.nSource = .manual ∧ awake.cmu.tSource = .manual ∧ stationed.cmu.nSource = .station ∧
    busy.cmu.tSource = .awaiting ∧
    includedReadings ⟨some { tk := 20150, included := true }, none, none, none⟩ ≠ [] ∧
    includedReadings ⟨some { tk := 20150, included := false }, none, none, none⟩ = [] := by
  refine ⟨good_frame_ended [] 7 _ (by decide), ?_, ?_, fun n _ => good_frame_ended _ _ _ (by decide), by decide, by decide,
    by decide, ?_, by decide⟩
  · rintro ⟨⟨c, h, hc⟩, _⟩
    cases h
    exact absurd hc (by decide)
  · rintro ⟨_, h⟩
    exact absurd (h 0 _ _ rfl rfl) (by decide)
  · intro n h
    fin_cases h
    all_goals exact ⟨_, rfl, rfl, rfl⟩

theorem witness_KComputationCompletes : awake.cmu.computing = none ∧ busy.cmu.computing.isSome = true := by decide

theorem witness_ConditionsSettings :
    ((0 : Byte).toNat = 0 ∧ (1 : Byte).toNat ≠ 0) ∧ awake.cmu.nSource = .manual ∧ stationed.cmu.nSource ≠ .manual ∧
      awake.cmu.tSource = .manual ∧ stationed.cmu.tSource ≠ .manual := by decide

/-- Internal-Only; EXTERNAL; INTERNAL awaiting SYNC; a frame timer a tick early, and due. -/
theorem witness_FrameEvents :
    let internal : State := { awake with fru := { awake.fru with source := .internal, watch := none, timer := some 0 } }
    ({ internal with fru := { internal.fru with mode := .internalOnly } } : State).fru.mode = .internalOnly ∧
      awake.fru.mode = .externalWithFallback ∧ awake.fru.source = .external ∧
      internal.fru.mode = .externalWithFallback ∧ internal.fru.source = .internal ∧
      ranOut 24999 internal.fru.timer (internal.fru.period * 100) = false ∧
      ranOut 25000 internal.fru.timer (internal.fru.period * 100) = true := by decide

/-- No read; a read with one more clock to take, and with two; a word that its bits begin and one that they do not; and a
selection whose read is over. -/
theorem witness_ServoReads :
    awake.svp.read = .idle ∧ (readingA2 0).svp.read ≠ .idle ∧ (∀ r, awake.svp.read ≠ .reading r) ∧
      ({ awake.svp with read := .spent } : ServoPort).read = .spent ∧ selectedBy 0b01001000 .q2 = true ∧
      (∃ r, (readingA2 0b01001000).svp.read = .reading r ∧ r.word <+: natBits 8 (0b01001000 : BitVec 8).toNat ∧
        r.word = natBits 8 (0b01001000 : BitVec 8).toNat ∧ ¬ r.word <+: natBits 8 (0b01001001 : BitVec 8).toNat ∧
        r.clocks < r.content.length ∧ r.clocks + 1 = r.content.length) ∧
      (86 + 1 < (zeroFrame 1).length) ∧ 255 + 1 = (zeroFrame 4).length :=
  ⟨rfl, by decide, (fun _ h => by cases h), rfl, by decide, ⟨_, rfl, by decide, by decide, by decide, by decide, by decide⟩,
    by decide, by decide⟩

/-- M with both axes OFF; M with one on; M held. -/
theorem witness_SnapshotSlots :
    (awake.svp.holds.get .m = none ∧ onAll awake .m (fun p => p.state = .off)) ∧
    (snapshotCase.svp.holds.get .m = none ∧ onSome snapshotCase .m (fun p => p.state ≠ .off)) ∧
    (busy.svp.holds.get .m = some { steps := 1099511627775, pm := 3, epoch := 2 } ∧
      onSome busy .m (fun p => p.state ≠ .off)) := by
  refine ⟨⟨rfl, fun a h => ?_⟩, ⟨rfl, .q0, rfl, by decide⟩, rfl, .q0, rfl, by decide⟩
  cases a <;> rfl

/-- A mask of every source; one slot and four slots; sources out of order; counts 0 and 5; a LEN that does not fit; LEN 0; a
body of one byte. -/
theorem witness_HoldOutputsAndLayouts :
    (Instr.holdOutput (frame [63, 0] []) = .holdOutput (frame [63, 0] []) ∧ picksSource 63 .w = true) ∧
    (1 ≤ (1 : Byte).toNat ∧ (4 : Byte).toNat ≤ 4 ∧ [(5 : Byte), 1].length = 2 * (1 : Byte).toNat ∧
      describes [5, 1] [{ source := .w, unit := .steps }] ∧
      describes [0, 0, 1, 0, 4, 0, 5, 1] [{ source := .phys .q0, unit := .pm }, { source := .phys .q1, unit := .pm },
        { source := .m, unit := .pm }, { source := .w, unit := .steps }] ∧
      ([{ source := .phys .q0, unit := .pm }, { source := .phys .q1, unit := .pm },
        { source := .m, unit := .pm }, { source := .w, unit := .steps }] : List SlotDesc).Pairwise
          (fun x y => x.source.toNat < y.source.toNat)) ∧
    (¬ ∃ ds, describes [0, 0, 0, 1] ds ∧ ds.Pairwise (fun x y => x.source.toNat < y.source.toNat)) ∧
    (1 ≤ (1 : Byte).toNat ∧ ¬ (1 ≤ (0 : Byte).toNat ∧ (0 : Byte).toNat ≤ 4) ∧ ¬ (1 ≤ (5 : Byte).toNat ∧ (5 : Byte).toNat ≤ 4)) ∧
    ¬ lengthFits (1 + 2 * (4 : Byte).toNat) (8 :: 4 :: List.replicate 8 0) ∧ ([0] : List Byte).length ≤ 1 := by
  refine ⟨by decide, ⟨by decide, by decide, by decide, ?_, ?_, by decide⟩, ?_, by decide, ?_, by decide⟩
  · exact ⟨rfl, rfl, by decide, trivial⟩
  · exact ⟨rfl, rfl, by decide, rfl, rfl, by decide, rfl, rfl, by decide, rfl, rfl, by decide, trivial⟩
  · rintro ⟨ds, h, hp⟩
    match ds, h, hp with
    | [_, _], ⟨h1, _, _, h2, _, _, _⟩, hp =>
      have := List.rel_of_pairwise_cons hp (List.mem_singleton.mpr rfl)
      rw [h1, h2] at this
      exact absurd this (by decide)
  · rintro ⟨len, rest, h, hl, _⟩
    cases h
    exact absurd hl (by decide)

/-- Periods whose timers have run out, and not, with the period changed. -/
theorem witness_FrameSettings :
    ranOut 4000 awake.fru.watch (2 * (20 * 100)) = true ∧ ranOut 3999 awake.fru.watch (2 * (20 * 100)) = false ∧
      awake.fru.period ≠ 20 ∧ awake.fru.source = .external := by decide

/-- An edge inside the dead time; one with no context; one that is missed; one that opens. -/
theorem witness_TriggerEdges :
    (∃ start, ((inFlight 1089).lcu.triggers.get .t0).deadFrom = some start ∧
      ((inFlight 1089).tick - start).toInt < (((inFlight 1089).lcu.triggers.get .t0).dead : Int)) ∧
    (¬ inDeadTime beforeEdge .t1 ∧ ∀ head rest, beforeEdge.lcu.contexts = head :: rest → ¬ matchesEdge head .t1 .fall) ∧
    (¬ inDeadTime (inFlight 1090) .t0 ∧ (inFlight 1090).lcu.contexts = [{ contextC1 with remaining := 1 }] ∧
      matchesEdge { contextC1 with remaining := 1 } .t0 .rise ∧ (inFlight 1090).lcu.capture = some openedCapture) ∧
    (¬ inDeadTime beforeEdge .t0 ∧ beforeEdge.lcu.contexts = [contextC1] ∧ matchesEdge contextC1 .t0 .rise ∧
      beforeEdge.lcu.capture = none) := by
  refine ⟨⟨1080, by decide, by decide⟩, ⟨?_, ?_⟩, ⟨?_, rfl, ⟨rfl, .inr (.inl ⟨rfl, rfl⟩)⟩, rfl⟩, ?_, rfl,
    ⟨rfl, .inr (.inl ⟨rfl, rfl⟩)⟩, rfl⟩
  · rintro ⟨start, h, _⟩
    cases h
  · rintro head rest h ⟨hi, _⟩
    cases h
    cases hi
  · rintro ⟨start, h, hlt⟩
    cases h
    exact absurd hlt (by decide)
  · rintro ⟨start, h, _⟩
    cases h

/-- The five openings of an entry: an axis not REFERENCED; an empty history; a trigger instant at the oldest entry; one at
the newest entry; and one between two entries. -/
theorem witness_JudgedAtOpening :
    let h (t : Tick) : HistEntry := { instant := t, acc := 0, kind := .real, epoch := 1 }
    ((readingA2 0).phu.get .q2).state ≠ .referenced ∧ (referencedAt 0 1).history = [] ∧
      (openedCapture.tTrig - (h 1040).instant).toInt ≤ 0 ∧ 0 < (openedCapture.tTrig - (h 1039).instant).toInt ∧
      (∀ x ∈ [h 1039, h 1040], (x.instant - openedCapture.tTrig).toInt ≤ 0) ∧
      (∀ x ∈ [h 1041], 0 < (x.instant - openedCapture.tTrig).toInt) := by decide

/-- The worked capture as a timeout leaves it. -/
def timedOutCapture : Capture :=
  { openedCapture with phys := ⟨some { epoch := 1, progress := .settled .timeout 0 0 },
      some { epoch := 1, progress := .settled .timeout 0 0 }, some { epoch := 3, progress := .settled .tooOld 0 0 }, none⟩ }

theorem witness_CaptureTimesOut :
    (inFlight 11080).lcu.capture = some openedCapture ∧
      ranOut (inFlight 11080).tick (some openedCapture.edgeTick) ((inFlight 11080).lcu.timeout * 100) = true ∧
      ranOut (inFlight 11079).tick (some openedCapture.edgeTick) ((inFlight 11079).lcu.timeout * 100) = false ∧
      openedCapture.sources.getLsbD Quad.q0.toNat = true ∧ (openedCapture.phys.get .q0).isSome = true ∧
      openedCapture.sources.getLsbD Source.m.toNat = true ∧ (openedCapture.phys.get .q1).isSome = true ∧
      (openedCapture.phys.get .q2).map (fun x => x.progress) = some (.settled .tooOld 0 0) ∧
      timedOutCapture = { openedCapture with phys := timedOutCapture.phys } ∧
      (∀ a ∈ four, timedOutCapture.phys.get a = (openedCapture.phys.get a).map (fun y => { y with progress :=
        match y.progress with
        | .waiting _ => .settled .timeout 0 0
        | .settled st x16 pos => .settled st x16 pos })) := by decide

/-- A trigger instant at the before entry, and one a tick before the after entry; an epoch that differs and one that does not. -/
theorem witness_EntriesSettleByInterpolation :
    (0 ≤ ((1040 : Tick) - 1040).toInt ∧ 0 < ((1140 : Tick) - 1040).toInt ∧
      ((1140 : Tick) - 1040).toInt = ((1040 : Tick) - 1040).toInt + ((1140 : Tick) - 1040).toInt) ∧
    (0 ≤ ((1139 : Tick) - 1040).toInt ∧ 0 < ((1140 : Tick) - 1139).toInt ∧
      ((1140 : Tick) - 1040).toInt = ((1139 : Tick) - 1040).toInt + ((1140 : Tick) - 1139).toInt) ∧
    (1 : BitVec 4) ≠ 2 ∧ AxisState.faulted ≠ .referenced := by decide

/-- No capture; one in which A3 has no entry and the entry of A2 is settled; one in which A0 waits with A1, one in which A1 waits
alone, and one in which nothing waits; entries at and after the trigger instant. -/
theorem witness_ReportsAndSamplesSettleEntries :
    awake.lcu.capture = none ∧ openedCapture.phys.get .q3 = none ∧
    (openedCapture.phys.get .q2).map (fun x => x.progress) = some (.settled .tooOld 0 0) ∧
    (∀ a ∈ four, (timedOutCapture.phys.get a).map PhysEntry.waits ≠ some true) ∧
    (inFlight 1100).lcu.capture = some openedCapture ∧ (openedCapture.phys.get .q0).isSome = true ∧
      (openedCapture.phys.get .q0).map (fun x => x.progress) =
        some (.waiting (some { instant := 1000, acc := 5000000, kind := .real, epoch := 1 })) ∧
      (openedCapture.phys.get .q1).map (fun x => x.waits) = some true ∧
      (afterA0.lcu.capture.map (fun c => (c.phys.toList.map (fun o => o.map PhysEntry.waits)))) =
        some [some false, some true, some false, none] ∧
      ((1040 : Tick) - openedCapture.tTrig).toInt ≤ 0 ∧ 0 < ((1041 : Tick) - openedCapture.tTrig).toInt := by decide

theorem witness_CaptureSettings :
    ranOut (inFlight 1180).tick ((inFlight 1180).lcu.capture.map (fun c => c.edgeTick)) (1 * 100) = true ∧
      ranOut (inFlight 1090).tick ((inFlight 1090).lcu.triggers.get .t0).deadFrom 10 = true := by decide

/-- A context of the host with every parameter at its limit; a source mask of 64; a lone exhausted standing context; queues of
3 and 4. -/
theorem witness_ContextRequests :
    contextInRange 63 1 2 255 1 1 ∧ ¬ contextInRange 64 1 2 255 1 1 ∧ ¬ contextInRange 63 1 2 0 1 1 ∧
    standsAlone [{ contextC1 with standing := true, remaining := 0 }] ∧
    (¬ standsAlone (List.replicate 3 contextC1) ∧ (List.replicate 3 contextC1).length < 4) ∧
    4 ≤ (List.replicate 4 contextC1).length := by
  refine ⟨by unfold contextInRange; decide, by unfold contextInRange; decide, by unfold contextInRange; decide,
    ⟨_, rfl, rfl, rfl⟩, ⟨?_, by decide⟩, by decide⟩
  rintro ⟨c, h, _⟩
  cases h

theorem witness_MicroMessages :
    awake.msl.rx ≠ .idle ∧ busy.msl.rx ≠ .idle ∧ beforeEdge.msl.rx = .idle ∧ ([0] : List Byte).length ≠ 8 ∧
      ([0] : List Byte) ≠ [] ∧ (0x24 : Byte) ≠ 0x21 ∧ (0x24 : Byte) ≠ 0x22 ∧ (0x24 : Byte) ≠ 0x23 := by decide

/-- A receiver idle, assembling and waiting, the last two at the silence measure and one tick past it; bad LENs 0 and 24, and
LENs 1 and 23 that are none; a message being sent; one that is cut and ends now. -/
theorem witness_MicroLineEvents :
    beforeEdge.msl.rx = .idle ∧ awake.msl.rx = .waiting 0 ∧ (∀ was, beforeEdge.msl.rx ≠ .waiting was) ∧
      (∀ was, busy.msl.rx ≠ .waiting was) ∧ busy.msl.rx = .assembling [9, 0x21] 9990 ∧
      isSilent { busy with tick := 12191 } 9990 ∧ ¬ isSilent { busy with tick := 12190 } 9990 ∧
      isSilent { awake with tick := 38195 } 0 ∧ ¬ isSilent { awake with tick := 38194 } 0 ∧
      ((0 : Byte).toNat = 0 ∧ 23 < (24 : Byte).toNat ∧ 1 ≤ (1 : Byte).toNat ∧ (23 : Byte).toNat ≤ 23) ∧
      busy.msl.tx = .sending 9000 ∧ busy.msl.out.length = 2 ∧
      ({ busy.msl with tx := .cutting 10000 } : MicroLink).tx = .cutting 10000 ∧ 0 ≤ ((10000 : Tick) - 10000).toInt := by
  refine ⟨rfl, rfl, (fun _ h => by cases h), (fun _ h => by cases h), rfl, ?_, ?_, ?_, ?_, by decide⟩
  all_goals
    unfold isSilent
    decide

/-- A character under way and none; a receiver waiting, idle and assembling; LENs 1 and 23, 0 and 24; a message with two more
bytes to come, and one with one. -/
theorem witness_MicroCharactersMakeMessages :
    awake.msl.underWay = none ∧ busy.msl.underWay = some 9995 ∧ awake.msl.rx = .waiting 0 ∧
      (∀ was, busy.msl.rx ≠ .waiting was) ∧ beforeEdge.msl.rx = .idle ∧
      (1 ≤ (1 : Byte).toNat ∧ (23 : Byte).toNat ≤ 23 ∧ (0 : Byte).toNat = 0 ∧ 23 < (24 : Byte).toNat) ∧
      ({ busy.msl with rx := .assembling [3, 0x21] 1 } : MicroLink).rx = .assembling (3 :: [0x21]) 1 ∧
      ([0x21] : List Byte).length + 1 < (3 : Byte).toNat ∧ ([] : List Byte).length + 1 = (1 : Byte).toNat ∧
      [] ++ [(0x23 : Byte)] = 0x23 :: [] ∧ (List.replicate 22 (0 : Byte)).length + 1 = (23 : Byte).toNat :=
  ⟨rfl, rfl, rfl, (fun _ h => by cases h), rfl, by decide⟩

theorem witness_Expiries :
    ({ awake with hpt := { awake.hpt with response := .preparing { refusal := none, code := 5, data := [] } 0 } } : State).hpt.response =
        .preparing { refusal := none, code := 5, data := [] } 0 ∧
      (∀ r since, awake.hpt.response ≠ .preparing r since) ∧
    (alerting 2 (.pulse 0) 0).alc.state = .pulse 0 ∧ (alerting 4 (.gap 200) 0).alc.state = .gap 200 ∧
      (alerting 30 (.level false) 10).alc.state = .level false ∧ (∀ start, awake.alc.state ≠ .pulse start) ∧
      (∀ start, awake.alc.state ≠ .gap start) ∧ awake.alc.state ≠ .level false :=
  ⟨rfl, (fun _ _ h => by cases h), rfl, rfl, rfl, (fun _ h => by cases h), (fun _ h => by cases h), by decide⟩

/-- A tripped monitor makes the level condition true; with no fault and no trip it is false. -/
theorem witness_AlertJudgements :
    levelTrue busy ∧ ¬ levelTrue (alerting 30 (.level true) 10) ∧ (alerting 30 (.level true) 10).alc.state = .level true ∧
      ¬ levelTrue awake ∧ awake.alc.state ≠ .level true := by
  have quiet : ∀ s : State, s.alc.guard = 0 → s.mnu = awake.mnu → ¬ levelTrue s := by
    rintro s hg hm (⟨a, h, _⟩ | ⟨m, h, _⟩)
    · rw [hg] at h
      simp at h
    · rw [hm] at h
      cases m <;> exact absurd h (by decide)
  exact ⟨.inr ⟨.q0, by decide, by decide⟩, quiet _ rfl rfl, rfl, quiet _ rfl rfl, by decide⟩

theorem witness_MonitorAlertLinkSettings :
    (Source.w.toNat = min 5 (5 : Byte).toNat ∧ (Source.phys .q0).toNat = min 5 (0 : Byte).toNat) ∧
      ((alerting 30 (.level false) 10).alc.state = .level false ∧
        hasPassed (alerting 30 (.level false) 10).tick (alerting 30 (.level false) 10).alc.wentLow (20 * 100)) := by decide

/-- A LEN that is not required, a frame shorter than its LEN, and an empty frame; CODE 2DH. -/
theorem witness_HostChecks :
    (∃ c ∈ fixedCommands false true, c.2.2 = 5 ∧ ¬ lengthFits c.2.2 [4, 0, 0, 0, 0] ∧ ¬ lengthFits c.2.2 [5, 0, 0, 0, 0] ∧
      ¬ lengthFits c.2.2 []) ∧
    ([0, 0, 0, 0, 0] : List Byte).length = 5 ∧ 0x2C < (0x2D : Byte).toNat := by
  refine ⟨⟨(.setLink, 0x06, 5), by simp [fixedCommands], rfl, ?_, ?_, ?_⟩, by decide, by decide⟩
  all_goals
    rintro ⟨len, rest, h, hl, hr⟩
    cases h
  · exact absurd hl (by decide)
  · exact absurd hr (by decide)

theorem witness_FetchReturns :
    State.reset.hpt.waitHsel = true ∧ awake.hpt.waitHsel = false ∧ awake.hpt.response = .none ∧
      (answering [7, 8] true).hpt.response = .ready { refusal := none, code := 0x26, data := [7, 8] } ∧
      (answering [7, 8] true).hpt.waitHsel = false := by decide

/-- A part that waits for HSEL; no frame; a CODE byte of zeros one bit short, and others; a selection of seven bits; whole
frames of three commands, the first with an unfinished byte; and a response being sent. -/
theorem witness_HostClocksMakeFrames :
    State.reset.hpt.waitHsel = true ∧ (awake.hpt.waitHsel = false ∧ awake.hpt.frame = .idle) ∧
      (busy.hpt.waitHsel = false ∧ busy.hpt.frame = .receiving [false, true]) ∧
      ((List.replicate 7 false).length = 7 ∧ List.replicate 7 false ++ [false] = List.replicate 8 false) ∧
      (List.replicate 7 false ++ [true] ≠ List.replicate 8 false ∧ (List.replicate 7 false).length < 8) ∧
      ((List.replicate 7 true).length < 8 ∧
        bytesToBits [0x0D, 1, 1] ++ List.replicate 7 true = bytesToBits (0x0D :: [1, 1]) ++ List.replicate 7 true ∧
        ∃ c ∈ fixedCommands false true, c.2.1 = 0x0D) ∧
      ((0x20 : Byte) = 0x20 ∧ 0x2C < (0x2D : Byte).toNat) ∧
      ({ awake.hpt with frame := .sending { bytes := [2, 0, 0, 0], ready := false } 3 } : HostPort).frame =
        .sending { bytes := [2, 0, 0, 0], ready := false } 3 :=
  ⟨rfl, ⟨rfl, rfl⟩, ⟨rfl, rfl⟩, by decide, by decide, ⟨by decide, rfl, (.enableAxis, 0x0D, 1), by simp [fixedCommands], rfl⟩,
    by decide, rfl⟩

/-- The guarded FAULTED axes and the tripped monitors of a part that has one of each. -/
theorem witness_ClearingReads :
    [Quad.q1] = four.filter (fun a => busy.alc.guard.getLsbD a.toNat && decide ((busy.phu.get a).state = .faulted)) ∧
      [Quad.q0] = four.filter (fun m => (busy.mnu.get m).tripped && decide ((busy.mnu.get m).action = .alert)) := by decide

theorem witness_SetEventMaskReplacesTheMask :
    (0x7FFFFFF : BitVec 27) = BitVec.ofNat 27 (bytesToNat [0xFF, 0xFF, 0xFF, 0xFF]) := by decide

/-- A delay unchanged with a timeout that has passed, and has not; a delay changed; each link state; a LOCKED link whose axis is
OFF. -/
theorem witness_SetLinkWritesAndDrops :
    let s := oneAxis 1100 .q1 40 eightFrames
    (s.slr.get (quadAt 1)).sampleDelay = bytesToNat [0, 0] ∧
      ranOut s.tick (s.slr.get (quadAt 1)).silence ((1 : Byte).toNat * 100) = true ∧
      ranOut s.tick (s.slr.get (quadAt 1)).silence ((2 : Byte).toNat * 100) = false ∧
      (s.slr.get (quadAt 1)).sampleDelay ≠ bytesToNat [3, 0xFF] ∧ (s.slr.get (quadAt 1)).link = .locked ∧
      (s.phu.get (quadAt 1)).state = .referenced ∧ (awake.slr.get (quadAt 1)).link = .down ∧
      ((linkOnly (acquiring 3 63)).slr.get (quadAt 0)).link = .acquiring ∧
      ((linkOnly (lockedLink 5)).slr.get (quadAt 0)).link = .locked ∧
      ((linkOnly (lockedLink 5)).phu.get (quadAt 0)).state = .off := by decide

end Sys2Proof.Tests
end

namespace Sys2Proof.Machine

/-! ## Commands that reach neither a receiver nor a phase unit -/

/-- The receivers and the phase units stand as they were. -/
def State.SameAxes (s t : State) : Prop := t.slr = s.slr ∧ t.phu = s.phu

theorem State.SameAxes.refl (s : State) : s.SameAxes s := ⟨rfl, rfl⟩

theorem State.SameAxes.trans {s t u : State} (h : s.SameAxes t) (k : t.SameAxes u) : s.SameAxes u :=
  ⟨k.1.trans h.1, k.2.trans h.2⟩

theorem State.SameAxes.ite {s t u : State} {c : Prop} [Decidable c] (h : s.SameAxes t) (k : s.SameAxes u) :
    s.SameAxes (if c then t else u) := by
  split
  · exact h
  · exact k

/-- An answer reaches the host port alone. -/
theorem State.answer_sameAxes (s : State) (code : Byte) (r : Reply) : s.SameAxes (s.answer code r) := by
  simp [State.SameAxes]

/-- A command frame reaches the receivers and the phase units through its block alone. -/
theorem State.hostCommand_sameAxes {s : State} {code : Byte} {n : Nat} {body : List Byte}
    {block : State → List Byte → Reply × State} (h : ∀ ps, s.SameAxes (block s ps).2) :
    s.SameAxes (s.hostCommand code n body block) := by
  rcases s.hostCommand_cases code n body block with ⟨_, e⟩ | ⟨_, _, e⟩ | ⟨ps, _, _, e⟩ <;> rw [e]
  · exact .refl s
  · exact s.answer_sameAxes _ _
  · exact (h ps).trans (State.answer_sameAxes _ _ _)

/-- The blocks whose settings and data lie outside the receivers and the phase units. -/
def blocksApart : List (State → List Byte → Reply × State) :=
  [setOpticsBlock, setConditionsBlock, setExpansionBlock, setPlausibilityBlock, setProbeBlock, setSampleCheckBlock,
    setNotifyBlock, setLayoutBlock, holdOutputBlock, setTriggerBlock, queueContextBlock, flushContextsBlock,
    setCaptureBlock, readCapturesBlock, setMicroLinkBlock, setMonitorBlock, clearMonitorBlock, setAlertBlock,
    readPositionBlock, clearEventsBlock]

theorem blocksApart_sameAxes (s : State) (ps : List Byte) : ∀ block ∈ blocksApart, s.SameAxes (block s ps).2 := by
  simp only [blocksApart, List.forall_mem_cons, List.not_mem_nil, false_implies, implies_true, and_true,
    setOpticsBlock, setConditionsBlock, setExpansionBlock, setPlausibilityBlock, setProbeBlock, setSampleCheckBlock,
    setNotifyBlock, setLayoutBlock, holdOutputBlock, setTriggerBlock, queueContextBlock, flushContextsBlock,
    setCaptureBlock, readCapturesBlock, setMicroLinkBlock, setMonitorBlock, clearMonitorBlock, setAlertBlock,
    readPositionBlock, clearEventsBlock]
  refine ⟨?_, ?_, ?_, ?_, ?_, ?_, ?_, ?_, ?_, ?_, ?_, ?_, ?_, ?_, ?_, ?_, ?_, ?_, ?_, ?_⟩
  all_goals
    simp only [State.SameAxes, State.accept, State.report, State.refuse]
    (repeat' split) <;> simp

theorem clearCommand_sameAxes {s : State} {act : State → Bool → Reply × State} (h : ∀ c, s.SameAxes (act s c).2)
    (ps : List Byte) : s.SameAxes (clearCommand act s ps).2 := by
  unfold clearCommand
  split
  · split
    · exact h _
    · exact .refl s
  · exact .refl s

theorem axisCommand_sameAxes {s : State} {act : State → Axis → Reply × State} (h : ∀ a, s.SameAxes (act s a).2)
    (ps : List Byte) : s.SameAxes (axisCommand act s ps).2 := by
  unfold axisCommand
  split
  · split
    · exact h _
    · exact .refl s
  · exact .refl s

/-- A message of the microscope link reaches contexts, counters and the outgoing queue alone. -/
theorem State.takeMessage_sameAxes {s : State} {act : State → List Byte × State}
    (h : ∀ u : State, u.SameAxes (act u).2) : s.SameAxes (s.takeMessage act) := by
  unfold State.takeMessage
  refine .ite ?_ (.refl s)
  have hr : ∀ u, (act u).2.slr = u.slr := fun u => (h u).1
  have hp : ∀ u, (act u).2.phu = u.phu := fun u => (h u).2
  exact ⟨by simp [hr], by simp [hp]⟩

theorem microQueueAct_sameAxes (params : List Byte) (s : State) : s.SameAxes (microQueueAct params s).2 := by
  unfold microQueueAct
  (repeat' split) <;> simp [State.SameAxes]

theorem flushOwnAct_sameAxes (params : List Byte) (s : State) : s.SameAxes (flushOwnAct params s).2 := by
  unfold flushOwnAct
  split <;> simp [State.SameAxes]

/-- SET_LAYOUT reaches the Servo Port and the host port alone. -/
theorem execSetLayout_sameAxes {s t : State} (body : List Byte) (h : execSetLayout body s = .next t) : s.SameAxes t := by
  have hb : ∀ n, s.SameAxes (s.hostCommand 0x20 n body setLayoutBlock) := fun n =>
    State.hostCommand_sameAxes (fun ps => blocksApart_sameAxes s ps _ (by simp [blocksApart]))
  obtain rfl := Host.Outcome.next.inj h
  split
  · exact .ite (.refl s) (.ite (s.answer_sameAxes _ _) (hb _))
  · exact hb _

/-- The commands that can reach a receiver or a phase unit. -/
def reachesAxes : Instr → Bool
  | .sampleFrame _ _ | .silenceTimerExpiry _ | .setLink _ | .readLinkCounters _ => true
  | .setCorrection _ | .setAmplitude _ | .setDirection _ | .setBridge _ | .enableAxis _ | .disableAxis _ => true
  | .ackFault _ | .datumNow _ | .setDatumPreset _ | .datumAtMark _ | .releaseAxis _ | .axisRestart _ => true
  | .syncEdge | .frameTimerExpiry | .setFrame _ => true
  | .servoReadComplete _ | .servoArm _ | .servoDisarm _ => true
  | .resetUnit _ _ | .powerOnReset _ => true
  | _ => false

/-- Every other command leaves the receivers and the phase units as they were. -/
theorem exec_sameAxes {i : Instr} {s t : State} (hi : reachesAxes i = false) (h : exec i s = .next t) : s.SameAxes t := by
  have host : ∀ {code n body block}, block ∈ blocksApart → s.SameAxes (s.hostCommand code n body block) :=
    fun hb => State.hostCommand_sameAxes (fun ps => blocksApart_sameAxes s ps _ hb)
  cases i <;> cases hi
  case setLayout body => exact execSetLayout_sameAxes body h
  all_goals obtain rfl := Host.Outcome.next.inj h
  case microQueueContext params => exact State.takeMessage_sameAxes (microQueueAct_sameAxes params)
  case flushOwn params => exact State.takeMessage_sameAxes (flushOwnAct_sameAxes params)
  case query params => exact State.takeMessage_sameAxes (fun u => .refl u)
  case microUnknownCode => exact .ite (.refl s) (State.takeMessage_sameAxes (fun u => .refl u))
  case unknownCommand => exact .ite (.refl s) (s.answer_sameAxes _ _)
  case readStatus | readFrameState | readServoState => exact State.hostCommand_sameAxes (fun _ => .refl s)
  case setEventMask => exact State.hostCommand_sameAxes (fun _ => ⟨by simp [State.accept], by simp [State.accept]⟩)
  case readTracking => exact State.hostCommand_sameAxes (axisCommand_sameAxes (fun _ => .refl s))
  case readConditions | readCaptureState | readAlertState =>
    exact State.hostCommand_sameAxes (clearCommand_sameAxes (fun _ => .ite ⟨rfl, rfl⟩ (.refl s)))
  case readPosition | clearEvents | holdOutput | holdOutputRelease | setOptics | setConditions | setExpansion |
      setPlausibility | setProbe | setSampleCheck | setNotify | setTrigger | queueContext | flushContexts | setCapture |
      readCaptures | setMicroLink | setMonitor | clearMonitor | setAlert =>
    exact host (by simp [blocksApart])
  all_goals (repeat' split) <;> simp [State.SameAxes]

end Sys2Proof.Machine

namespace Sys2Proof.Machine

/-! ## What an integrity loss makes of a phase unit -/

/-- The phase unit after an integrity loss (R48, R49). -/
def PhaseUnit.lose (p : PhaseUnit) (c : Cause) (t : Tick) (hold : Int) : PhaseUnit :=
  match p.state with
  | .off => p
  | .unreferenced => p
  | .armed => { p with state := .unreferenced, armed := none }
  | .referenced => { p with state := .faulted, fault := some { first := c, further := 0, tick := t }, hold := hold }
  | .faulted => { p with fault := p.fault.map (fun f => f.addCause c) }

/-- An integrity loss reaches one phase unit. -/
theorem State.integrityLoss_phu (s : State) (a : Axis) (c : Cause) (t : Tick) (h : Int) :
    (s.integrityLoss a c t h).phu = s.phu.set a ((s.phu.get a).lose c t h) := by
  unfold PhaseUnit.lose
  rcases s.integrityLoss_cases a c t h with ⟨hs | hs, e⟩ | ⟨hs, e⟩ | ⟨hs, e⟩ | ⟨hs, e⟩ <;> rw [e] <;> simp [hs]

/-- No axis is REFERENCED after a loss. -/
theorem PhaseUnit.lose_not_referenced (p : PhaseUnit) (c : Cause) (t : Tick) (h : Int) :
    (p.lose c t h).state ≠ .referenced := by
  unfold PhaseUnit.lose
  split <;> simp_all

theorem PhaseUnit.lose_off_iff (p : PhaseUnit) (c : Cause) (t : Tick) (h : Int) :
    (p.lose c t h).state = .off ↔ p.state = .off := by
  unfold PhaseUnit.lose
  split <;> simp_all

@[simp] theorem PhaseUnit.lose_lockView (p : PhaseUnit) (c : Cause) (t : Tick) (h : Int) :
    (p.lose c t h).lockView = p.lockView := by
  unfold PhaseUnit.lose
  split <;> rfl

/-- The phase unit after lock lost: the loss LINK, then the tracking restart with the lock view NOT_LOCKED (R19, R45). -/
def PhaseUnit.unlocked (p : PhaseUnit) (t : Tick) : PhaseUnit :=
  { (p.lose .link t p.acc).trackingRestart with lockView := false }

/-- An axis that is OFF discards lock lost (R18). -/
theorem State.lockLost_off {s : State} {a : Axis} (h : (s.phu.get a).state = .off) (t : Tick) : s.lockLost a t = s := by
  simp [State.lockLost, State.isOff, h]

theorem State.lockLost_phu {s : State} {a : Axis} (h : (s.phu.get a).state ≠ .off) (t : Tick) :
    (s.lockLost a t).phu = s.phu.set a ((s.phu.get a).unlocked t) := by
  simp [State.lockLost, State.isOff, h, State.integrityLoss_phu, PhaseUnit.unlocked]

/-! ## The law of the axes, phase unit by phase unit -/

/-- What the law of the axes reads of a phase unit that is not OFF stands as it was. -/
structure PhaseUnit.SameState (p q : PhaseUnit) : Prop where
  state : q.state = p.state
  lockView : q.lockView = p.lockView
  armed : q.armed = p.armed
  fault : q.fault = p.fault
  hold : q.hold = p.hold

theorem PhaseUnit.Ok.of_sameState {p q : PhaseUnit} {l : LinkState} (h : p.Ok l) (e : p.SameState q)
    (hacc : p.state = .off → q.acc = p.acc) : q.Ok l where
  off ho := by
    rw [e.state] at ho
    exact ⟨e.lockView.trans (h.off ho).1, (hacc ho).trans (h.off ho).2⟩
  view hn := by rw [e.lockView]; exact h.view (e.state ▸ hn)
  referenced hr := by rw [e.lockView]; exact h.referenced (e.state ▸ hr)
  armed := by rw [e.armed, e.state]; exact h.armed
  fault := by rw [e.fault, e.state]; exact h.fault
  hold hn := by rw [e.hold]; exact h.hold (e.state ▸ hn)

theorem PhaseUnit.Ok.lose {p : PhaseUnit} {l : LinkState} (h : p.Ok l) (c : Cause) (t : Tick) (v : Int) :
    (p.lose c t v).Ok l := by
  obtain ⟨hoff, hview, href, harm, hfault, hhold⟩ := h
  unfold PhaseUnit.lose
  split <;> constructor <;> simp_all

/-- An axis that is OFF keeps its law whatever its link does. -/
theorem PhaseUnit.Ok.relink {p : PhaseUnit} {l : LinkState} (h : p.Ok l) (ho : p.state = .off) (k : LinkState) : p.Ok k :=
  { h with view := fun hn => absurd ho hn }

theorem PhaseUnit.Ok.unlocked {p : PhaseUnit} {l : LinkState} (h : p.Ok l) (hn : p.state ≠ .off) (t : Tick) :
    (p.unlocked t).Ok .down := by
  have k := h.lose .link t p.acc
  exact {
    off := fun ho => absurd ho (mt (p.lose_off_iff .link t p.acc).mp hn)
    view := fun _ => rfl
    referenced := fun hr => absurd hr (p.lose_not_referenced .link t p.acc)
    armed := k.armed, fault := k.fault, hold := k.hold }

/-- Lock gained: a tracking restart with the lock view LOCKED (R19, R45). -/
theorem PhaseUnit.Ok.lockGained {p : PhaseUnit} {l : LinkState} (h : p.Ok l) (hn : p.state ≠ .off) :
    ({ p.trackingRestart with lockView := true } : PhaseUnit).Ok .locked where
  off ho := absurd ho hn
  view _ := rfl
  referenced _ := rfl
  armed := h.armed
  fault := h.fault
  hold := h.hold

/-! ## The law of the axes, state by state -/

theorem State.AxesOk.congr {s t : State} (h : s.AxesOk) (e : s.SameAxes t) : t.AxesOk := by
  intro a
  rw [e.1, e.2]
  exact h a

/-- A change that reaches one axis keeps the law where that axis keeps it. -/
theorem State.AxesOk.of_axis {s t : State} {a : Axis} (h : s.AxesOk) (hr : (t.slr.get a).Ok)
    (hp : (t.phu.get a).Ok (t.slr.get a).link)
    (others : ∀ b, b ≠ a → t.slr.get b = s.slr.get b ∧ t.phu.get b = s.phu.get b) : t.AxesOk := by
  intro b
  by_cases e : b = a
  · exact e ▸ ⟨hr, hp⟩
  · obtain ⟨er, ep⟩ := others b e
    rw [er, ep]
    exact h b

theorem State.AxesOk.modPhu {s : State} {a : Axis} {f : PhaseUnit → PhaseUnit} (h : s.AxesOk)
    (hf : (f (s.phu.get a)).Ok (s.slr.get a).link) : (s.modPhu a f).AxesOk :=
  h.of_axis (a := a) (h a).1 (by simpa using hf) (fun b e => ⟨rfl, by simp [e]⟩)

/-- A setting of a phase unit that the law does not read keeps it. -/
theorem State.AxesOk.modPhu_sameState {s : State} {a : Axis} {f : PhaseUnit → PhaseUnit} (h : s.AxesOk)
    (e : (s.phu.get a).SameState (f (s.phu.get a))) (hacc : (f (s.phu.get a)).acc = (s.phu.get a).acc) :
    (s.modPhu a f).AxesOk :=
  h.modPhu ((h a).2.of_sameState e (fun _ => hacc))

theorem State.AxesOk.modSlr {s : State} {a : Axis} {f : Receiver → Receiver} (h : s.AxesOk)
    (hf : (f (s.slr.get a)).Ok) (hp : (s.phu.get a).Ok (f (s.slr.get a)).link) : (s.modSlr a f).AxesOk :=
  h.of_axis (a := a) (by simpa using hf) (by simpa using hp) (fun b e => ⟨by simp [e], rfl⟩)

/-! ## The law along the sample path -/

/-- The law of the axes with one axis that takes hand-offs: its link LOCKED and its state not OFF. -/
structure State.Counting (s : State) (a : Axis) : Prop where
  ok : s.AxesOk
  locked : (s.slr.get a).link = .locked
  on : (s.phu.get a).state ≠ .off

theorem State.Counting.congr {s t : State} {a : Axis} (h : s.Counting a) (e : s.SameAxes t) : t.Counting a where
  ok := h.ok.congr e
  locked := by rw [e.1]; exact h.locked
  on := by rw [e.2]; exact h.on

theorem State.Counting.modPhu {s : State} {a : Axis} {f : PhaseUnit → PhaseUnit} (h : s.Counting a)
    (hf : (f (s.phu.get a)).Ok .locked) (hn : (f (s.phu.get a)).state ≠ .off) : (s.modPhu a f).Counting a where
  ok := h.ok.modPhu (by rw [h.locked]; exact hf)
  locked := h.locked
  on := by simpa using hn

/-- The law of the axis that takes hand-offs. -/
theorem State.Counting.axis {s : State} {a : Axis} (h : s.Counting a) : (s.phu.get a).Ok .locked := h.locked ▸ (h.ok a).2

/-- A change of the count or of the tracking state of the axis. -/
theorem State.Counting.track {s : State} {a : Axis} {f : PhaseUnit → PhaseUnit} (h : s.Counting a)
    (e : (s.phu.get a).SameState (f (s.phu.get a))) : (s.modPhu a f).Counting a :=
  h.modPhu (h.axis.of_sameState e (fun ho => absurd ho h.on)) (by rw [e.state]; exact h.on)

theorem State.Counting.integrityLoss {s : State} {a : Axis} (h : s.Counting a) (c : Cause) (t : Tick) (v : Int) :
    (s.integrityLoss a c t v).Counting a :=
  (h.modPhu (f := fun p => p.lose c t v) (h.axis.lose c t v) (mt (PhaseUnit.lose_off_iff _ _ _ _).mp h.on)).congr
    ⟨by simp, s.integrityLoss_phu a c t v⟩

theorem State.Counting.rangeLoss {s : State} {a : Axis} (h : s.Counting a) (change : Int) (t : Tick) :
    (s.rangeLoss a change t).Counting a := by
  unfold State.rangeLoss
  split
  · exact h.integrityLoss _ _ _
  · exact h

theorem State.Counting.pushHistory {s : State} {a : Axis} (h : s.Counting a) (e : HistEntry) : (s.pushHistory a e).Counting a :=
  h.track ⟨rfl, rfl, rfl, rfl, rfl⟩

theorem State.Counting.offerUpdate {s : State} {a : Axis} (h : s.Counting a) (e : HistEntry) : (s.offerUpdate a e).Counting a :=
  h.congr ⟨by simp, by simp⟩

theorem State.Counting.reportToCapture {s : State} {a : Axis} (h : s.Counting a) (r : AxisReport) :
    (s.reportToCapture a r).Counting a :=
  h.congr ⟨by simp, by simp⟩

theorem State.Counting.bridgeRequest {s : State} {a : Axis} (h : s.Counting a) : (s.bridgeRequest a).Counting a :=
  h.congr ⟨by simp, by simp⟩

theorem State.Counting.enterSample {s : State} {a : Axis} (h : s.Counting a) (t : Tick) (k : SampleKind) :
    (s.enterSample a t k).Counting a :=
  (h.pushHistory _).offerUpdate _

theorem State.Counting.anchorSample {s : State} {a : Axis} (h : s.Counting a) (p : BitVec 9) (t : Tick) :
    (s.anchorSample a p t).Counting a :=
  (h.track ⟨rfl, rfl, rfl, rfl, rfl⟩).enterSample _ _

theorem State.Counting.stepViolation {s : State} {a : Axis} (h : s.Counting a) (p : BitVec 9) (t : Tick) :
    (s.stepViolation a p t).Counting a :=
  ((h.integrityLoss _ _ _).track ⟨rfl, rfl, rfl, rfl, rfl⟩).enterSample _ _

/-- A mark loads a datum into an ARMED axis alone (R55). -/
theorem PhaseUnit.markDatum_armed {p : PhaseUnit} {change v : Int} (h : p.markDatum change = some v) : p.state = .armed := by
  unfold PhaseUnit.markDatum at h
  split at h
  · assumption
  · cases h

/-- A datum makes an axis REFERENCED, which is in order while its lock view is LOCKED and it is not FAULTED (R51, R55). -/
theorem PhaseUnit.Ok.datum {p : PhaseUnit} {l : LinkState} (h : p.Ok l) (hn : p.state ≠ .off) (hf : p.state ≠ .faulted)
    (hv : p.lockView = true) (v : Int) (e : BitVec 4) :
    ({ p with acc := v, state := .referenced, armed := none, epoch := e } : PhaseUnit).Ok l where
  off ho := by cases ho
  view _ := h.view hn
  referenced _ := hv
  armed := rfl
  fault := by rw [h.fault]; simp [hf]
  hold _ := h.hold hf

theorem State.loadDatum_phu (s : State) (a : Axis) (v : Int) :
    (s.loadDatum a v).phu = s.phu.set a
      { s.phu.get a with acc := v, state := .referenced, armed := none, epoch := (s.phu.get a).epoch + 1 } := by
  simp only [State.loadDatum, State.advanceEpoch]
  split <;> simp

theorem State.AxesOk.loadDatum {s : State} {a : Axis} (h : s.AxesOk) (hn : (s.phu.get a).state ≠ .off)
    (hf : (s.phu.get a).state ≠ .faulted) (hv : (s.phu.get a).lockView = true) (v : Int) : (s.loadDatum a v).AxesOk :=
  (h.modPhu (f := fun p => { p with acc := v, state := .referenced, armed := none, epoch := p.epoch + 1 })
    ((h a).2.datum hn hf hv v _)).congr ⟨by simp, s.loadDatum_phu a v⟩

theorem State.Counting.loadDatum {s : State} {a : Axis} (h : s.Counting a) (hf : (s.phu.get a).state ≠ .faulted) (v : Int) :
    (s.loadDatum a v).Counting a where
  ok := h.ok.loadDatum h.on hf (by rw [h.axis.view h.on]; rfl) v
  locked := by simpa using h.locked
  on := by simp [State.loadDatum_phu]

theorem State.Counting.countSample {s : State} {a : Axis} (h : s.Counting a) (mark : Bool) (p : BitVec 9) (d : Int)
    (t : Tick) : (s.countSample a mark p d t).Counting a := by
  unfold State.countSample
  have k : ((s.rangeLoss a ((s.phu.get a).dir.sign * d) t).modPhu a (fun u => u.counted p d t)).Counting a :=
    (h.rangeLoss _ _).track ⟨rfl, rfl, rfl, rfl, rfl⟩
  dsimp only
  generalize (s.rangeLoss a ((s.phu.get a).dir.sign * d) t).modPhu a (fun u => u.counted p d t) = u at k
  split
  · rename_i v _ hv
    have hf : (u.phu.get a).state ≠ .faulted := by rw [PhaseUnit.markDatum_armed hv]; decide
    exact (((k.loadDatum hf v).pushHistory _).reportToCapture _).offerUpdate _
  · exact k.enterSample _ _

theorem State.Counting.bridgeSample {s : State} {a : Axis} (h : s.Counting a) (tn t : Tick) : (s.bridgeSample a tn t).Counting a :=
  ((h.rangeLoss _ _).track ⟨rfl, rfl, rfl, rfl, rfl⟩).enterSample _ _

theorem State.Counting.bridgeSamples {a : Axis} (tn : Tick) (ts : List Tick) :
    ∀ {s : State}, s.Counting a → (s.bridgeSamples a tn ts).Counting a := by
  induction ts with
  | nil => exact id
  | cons t ts ih => exact fun h => ih (h.bridgeSample tn t)

theorem State.Counting.takeNotice {s : State} {a : Axis} (h : s.Counting a) (r : MissingReason) (g : Nat) (tn : Tick) :
    (s.takeNotice a r g tn).Counting a := by
  unfold State.takeNotice
  split
  · exact State.Counting.bridgeRequest (State.Counting.track (.bridgeSamples tn _ h) ⟨rfl, rfl, rfl, rfl, rfl⟩)
  · exact (h.track ⟨rfl, rfl, rfl, rfl, rfl⟩).integrityLoss _ _ _

theorem State.Counting.takePhase {s : State} {a : Axis} (h : s.Counting a) (mark : Bool) (p : BitVec 9) (t : Tick) :
    (s.takePhase a mark p t).Counting a := by
  unfold State.takePhase
  split
  · exact h.anchorSample p t
  · dsimp only
    split
    · exact h.countSample _ _ _ _
    · exact h.stepViolation p t

theorem State.Counting.takeSample {s : State} {a : Axis} (h : s.Counting a) (f : SampleFields) (t : Tick) :
    (s.takeSample a f t).Counting a := by
  unfold State.takeSample
  dsimp only
  split
  · exact h.takeNotice _ _ _
  · exact State.Counting.takePhase (h.track ⟨rfl, rfl, rfl, rfl, rfl⟩) _ _ _

end Sys2Proof.Machine

namespace Sys2Proof.Machine

/-! ## The law of the axes in the receivers -/

theorem satAdd_le (top c k : Nat) : satAdd top c k ≤ top := Nat.min_le_left _ _

/-- Outside LOCKED the law of an axis does not depend on the link state. -/
theorem PhaseUnit.Ok.relink_unlocked {p : PhaseUnit} {l k : LinkState} (h : p.Ok l) (hl : l ≠ .locked) (hk : k ≠ .locked) :
    p.Ok k :=
  { h with view := fun hn => by rw [h.view hn]; cases l <;> cases k <;> trivial }

/-- No bad run outside LOCKED. -/
theorem Receiver.Ok.badRun_unlocked {r : Receiver} (h : r.Ok) (hl : r.link ≠ .locked) : r.badRun = 0 := by
  cases e : r.link with
  | down => exact (h.down e).2.2.1
  | acquiring => exact (h.acquiring e).2
  | locked => exact absurd e hl

theorem Receiver.Ok.toDown {r : Receiver} (h : r.Ok) : r.toDown.Ok :=
  { h with
    down := fun _ => ⟨rfl, rfl, rfl, rfl⟩
    followed := fun hn => absurd rfl hn
    acquiring := fun ha => by cases ha
    badRun := Nat.zero_le 6 }

/-- A receiver in ACQUIRING with a run of at most 15. -/
theorem Receiver.Ok.run {r : Receiver} (h : r.Ok) (hl : r.link ≠ .locked) {n : Nat} (hn : n ≤ 15) {last : Option (BitVec 6)}
    (hlast : last.isSome = true) (t : Tick) :
    ({ r with link := .acquiring, goodRun := n, lastSeq := last, silence := some t } : Receiver).Ok :=
  { h with
    down := fun hd => by cases hd
    followed := fun _ => ⟨hlast, rfl⟩
    acquiring := fun _ => ⟨hn, h.badRun_unlocked hl⟩ }

/-- A receiver in LOCKED that follows a sequence with a bad run below its limit. -/
theorem Receiver.Ok.follow {r : Receiver} (h : r.Ok) {n : Nat} (hn : n ≤ 6) {last : Option (BitVec 6)}
    (hlast : last.isSome = true) (run : Nat) (t : Tick) :
    ({ r with link := .locked, goodRun := run, badRun := n, lastSeq := last, silence := some t } : Receiver).Ok :=
  { h with
    down := fun hd => by cases hd
    followed := fun _ => ⟨hlast, rfl⟩
    acquiring := fun ha => by cases ha
    badRun := hn }

/-- A change of the counters of a receiver, each within its range. -/
theorem Receiver.Ok.count {r : Receiver} (h : r.Ok) (n : BitVec 32) {c g o l : Nat}
    (hc : c ≤ 65535 ∧ g ≤ 65535 ∧ o ≤ 65535 ∧ l ≤ 255) :
    ({ r with goodFrames := n, crcErrors := c, gaps := g, outOfOrder := o, lockLosses := l } : Receiver).Ok :=
  { h with counters := hc }

/-! ## The law of the axes in the operations of a link -/

theorem State.AxesOk.handSample {s : State} {a : Axis} (h : s.AxesOk) (hl : (s.slr.get a).link = .locked) (f : SampleFields)
    (t : Tick) : (s.handSample a f t).AxesOk := by
  unfold State.handSample State.isOff
  split
  · exact h
  · rename_i hn
    exact (State.Counting.takeSample ⟨h, hl, by simpa using hn⟩ f t).ok

theorem State.AxesOk.handNotice {s : State} {a : Axis} (h : s.AxesOk) (hl : (s.slr.get a).link = .locked)
    (r : MissingReason) (g : Nat) (t : Tick) : (s.handNotice a r g t).AxesOk := by
  unfold State.handNotice State.isOff
  split
  · exact h
  · rename_i hn
    exact (State.Counting.takeNotice ⟨h, hl, by simpa using hn⟩ r g t).ok

theorem State.AxesOk.contribute {s : State} (h : s.AxesOk) (a : Axis) (n : Nat) : (s.contribute a n).AxesOk :=
  h.congr ⟨by simp, by simp⟩

/-- A change of a receiver that leaves its link state. -/
theorem State.AxesOk.modSlr_sameLink {s : State} {a : Axis} {f : Receiver → Receiver} (h : s.AxesOk)
    (hf : (f (s.slr.get a)).Ok) (hl : (f (s.slr.get a)).link = (s.slr.get a).link) : (s.modSlr a f).AxesOk :=
  h.modSlr hf (by rw [hl]; exact (h a).2)

theorem State.loseLock_slr (s : State) (a : Axis) (t : Tick) :
    (s.loseLock a t).slr =
      s.slr.set a { (s.slr.get a).toDown with lockLosses := satAdd 255 (s.slr.get a).lockLosses 1 } := by
  simp [State.loseLock]

theorem State.loseLock_phu (s : State) (a : Axis) (t : Tick) :
    (s.loseLock a t).phu =
      if (s.phu.get a).state = .off then s.phu else s.phu.set a ((s.phu.get a).unlocked t) := by
  unfold State.loseLock
  split
  · rename_i h
    rw [State.lockLost_off (by simpa using h), State.modSlr_phu]
  · rename_i h
    rw [State.lockLost_phu (by simpa using h), State.modSlr_phu]

theorem State.AxesOk.loseLock {s : State} (h : s.AxesOk) (a : Axis) (t : Tick) : (s.loseLock a t).AxesOk := by
  obtain ⟨hc, hg, ho, hk⟩ := (h a).1.counters
  refine h.of_axis (a := a) ?_ ?_ (fun b e => ⟨by simp [State.loseLock_slr, e], ?_⟩)
  · rw [State.loseLock_slr, Four.get_set_self]
    exact (h a).1.toDown.count _ ⟨hc, hg, ho, satAdd_le 255 _ 1⟩
  · by_cases hoff : (s.phu.get a).state = .off
    · simpa [State.loseLock_phu, hoff] using (h a).2.relink hoff _
    · simpa [State.loseLock_phu, State.loseLock_slr, Receiver.toDown, hoff] using (h a).2.unlocked hoff t
  · rw [State.loseLock_phu]
    split
    · rfl
    · exact Four.get_set_ne _ _ e

theorem State.AxesOk.dropLink {s : State} (h : s.AxesOk) (a : Axis) (t : Tick) : (s.dropLink a t).AxesOk := by
  unfold State.dropLink
  split
  · exact h
  · rename_i hl
    exact h.modSlr (h a).1.toDown ((h a).2.relink_unlocked (by rw [hl]; decide) nofun)
  · exact h.loseLock a t

theorem State.AxesOk.acceptSample {s : State} {a : Axis} (h : s.AxesOk) (hl : (s.slr.get a).link = .locked)
    (f : SampleFields) : (s.acceptSample a f).AxesOk := by
  have hr := (h a).1.follow (n := 0) (by decide) (last := some f.seq) rfl (s.slr.get a).goodRun s.tick
  refine State.AxesOk.handSample (.contribute (h.modSlr_sameLink ?_ rfl) a 1) (by simpa using hl) _ _
  rwa [← hl] at hr

theorem State.AxesOk.occupyPosition {s : State} {a : Axis} (h : s.AxesOk) (hl : (s.slr.get a).link = .locked)
    (hb : (s.slr.get a).badRun + 1 ≤ 6) (dup : Bool) : (s.occupyPosition a dup).AxesOk := by
  have hlast := ((h a).1.followed (by rw [hl]; decide)).1
  have hr := fun last hs => (h a).1.follow hb (last := last) hs (s.slr.get a).goodRun s.tick
  rw [← hl] at hr
  unfold State.occupyPosition
  split
  · exact h.modSlr_sameLink (hr _ hlast) rfl
  · exact State.AxesOk.handNotice (h.modSlr_sameLink (hr _ (by simpa using hlast)) rfl) (by simpa using hl) _ _ _

theorem State.AxesOk.badInLocked {s : State} {a : Axis} (h : s.AxesOk) (hl : (s.slr.get a).link = .locked) (dup : Bool) :
    (s.badInLocked a dup).AxesOk := by
  have hlim := (h a).1.limit.2
  unfold State.badInLocked
  split
  · exact h.loseLock a _
  · exact h.occupyPosition hl (by omega) dup

theorem State.AxesOk.goodInLocked {s : State} {a : Axis} (h : s.AxesOk) (hl : (s.slr.get a).link = .locked)
    (f : SampleFields) : (s.goodInLocked a f).AxesOk := by
  obtain ⟨hc, hg, ho, hk⟩ := (h a).1.counters
  unfold State.goodInLocked
  dsimp only
  split
  · exact h.acceptSample hl f
  · split
    · refine State.AxesOk.acceptSample (.handNotice (.contribute (h.modSlr_sameLink ?_ rfl) a _) ?_ _ _ _) ?_ f
      · exact (h a).1.count _ ⟨hc, satAdd_le _ _ _, ho, hk⟩
      · simpa using hl
      · simpa using hl
    · refine State.AxesOk.badInLocked (h.modSlr_sameLink ?_ rfl) (by simpa using hl) _
      exact (h a).1.count _ ⟨hc, hg, satAdd_le _ _ _, hk⟩

theorem State.AxesOk.enterLocked {s : State} {a : Axis} (h : s.AxesOk) (f : SampleFields) : (s.enterLocked a f).AxesOk := by
  unfold State.enterLocked
  dsimp only
  refine State.AxesOk.handSample (.contribute ?_ a 1) (by simp) _ _
  refine h.of_axis (a := a) ?_ ?_ (fun b e => ⟨by simp [e], ?_⟩)
  · simpa using (h a).1.follow (n := 0) (by decide) rfl _ _
  · unfold State.lockGained State.isOff
    split
    · rename_i ho
      exact (h a).2.relink (by simpa using ho) _
    · rename_i hn
      simpa using (h a).2.lockGained (by simpa using hn)
  · unfold State.lockGained
    split <;> simp [e]

theorem State.AxesOk.goodInAcquiring {s : State} {a : Axis} (h : s.AxesOk) (hl : (s.slr.get a).link = .acquiring)
    (f : SampleFields) : (s.goodInAcquiring a f).AxesOk := by
  have hn : (s.slr.get a).link ≠ .locked := by rw [hl]; decide
  have hrun := ((h a).1.acquiring hl).1
  have hr := fun n (k : n ≤ 15) => (h a).1.run hn k (last := some f.seq) rfl s.tick
  rw [← hl] at hr
  unfold State.goodInAcquiring
  dsimp only
  split
  · split
    · exact h.enterLocked f
    · exact h.modSlr_sameLink (hr _ (by omega)) rfl
  · refine h.modSlr_sameLink ?_ hl.symm
    simpa [Receiver.startRun, hl] using hr 1 (by decide)

/-- A frame on a sample link keeps the law of the axes (R2 to R14). -/
theorem State.AxesOk.takeFrame {s : State} (h : s.AxesOk) (a : Axis) (bits : List Bool) : (s.takeFrame a bits).AxesOk := by
  obtain ⟨hc, hg, ho, hk⟩ := (h a).1.counters
  unfold State.takeFrame
  split
  · rename_i f _
    have k : (s.modSlr a (fun r => { r with goodFrames := r.goodFrames + 1 })).AxesOk :=
      h.modSlr_sameLink ((h a).1.count _ ⟨hc, hg, ho, hk⟩) rfl
    unfold State.goodFrame
    dsimp only
    generalize s.modSlr a (fun r => { r with goodFrames := r.goodFrames + 1 }) = u at k
    split
    · rename_i hl
      have hn : (u.slr.get a).link ≠ .locked := by rw [hl]; decide
      exact k.modSlr ((k a).1.run hn (by decide) rfl _) ((k a).2.relink_unlocked hn nofun)
    · rename_i hl
      exact k.goodInAcquiring hl f
    · rename_i hl
      exact k.goodInLocked hl f
  · have k : (s.modSlr a (fun r => { r with crcErrors := satAdd 65535 r.crcErrors 1 })).AxesOk :=
      h.modSlr_sameLink ((h a).1.count _ ⟨satAdd_le _ _ _, hg, ho, hk⟩) rfl
    unfold State.badFrame
    dsimp only
    generalize s.modSlr a (fun r => { r with crcErrors := satAdd 65535 r.crcErrors 1 }) = u at k
    split
    · exact k
    · rename_i hl
      have hn : (u.slr.get a).link ≠ .locked := by rw [hl]; decide
      have hr := (k a).1.run hn (Nat.zero_le 15) ((k a).1.followed (by rw [hl]; decide)).1 u.tick
      exact k.modSlr_sameLink (by rwa [← hl] at hr) rfl
    · rename_i hl
      exact k.badInLocked hl false

end Sys2Proof.Machine

namespace Sys2Proof.Machine

/-! ## The law of the axes at frame events and servo reads -/

/-- A change of the phase units that keeps each within its law, whatever its link. -/
theorem State.AxesOk.mapPhu {s t : State} (h : s.AxesOk) (hr : t.slr = s.slr)
    (hp : ∀ a l, (s.phu.get a).Ok l → (t.phu.get a).Ok l) : t.AxesOk := by
  intro a
  rw [hr]
  exact ⟨(h a).1, hp a _ (h a).2⟩

theorem State.AxesOk.clearReadMarks {s : State} (h : s.AxesOk) : s.clearReadMarks.AxesOk := by
  refine h.mapPhu (by simp) (fun a l hp => ?_)
  simp only [State.clearReadMarks, Four.get_mapIdx]
  split
  · exact hp.of_sameState ⟨rfl, rfl, rfl, rfl, rfl⟩ (fun _ => rfl)
  · exact hp

theorem State.AxesOk.servoFrameEvent {s : State} (h : s.AxesOk) (k : FrameKind) : (s.servoFrameEvent k).AxesOk :=
  State.AxesOk.clearReadMarks (h.congr ⟨by simp, by simp⟩)

theorem State.AxesOk.activateK {s : State} (h : s.AxesOk) : s.activateK.AxesOk := h.congr ⟨by simp, by simp⟩

theorem State.AxesOk.frameEvent {s : State} (h : s.AxesOk) (k : FrameKind) : (s.frameEvent k).AxesOk := by
  have hs : ((s.modFru (fun x => { x with frameNo := x.frameNo + 1 })).activateAndSnapshot k).AxesOk := by
    have h0 : (s.modFru (fun x => { x with frameNo := x.frameNo + 1 })).AxesOk := h.congr ⟨by simp, by simp⟩
    unfold State.activateAndSnapshot
    split
    · exact (h0.servoFrameEvent k).activateK
    · exact h0.activateK.servoFrameEvent k
  exact hs.congr ⟨by simp [State.frameEvent], by simp [State.frameEvent]⟩

theorem State.AxesOk.timerEvent {s : State} (h : s.AxesOk) : s.timerEvent.AxesOk :=
  State.AxesOk.frameEvent (h.congr ⟨by simp, by simp⟩) _

theorem State.AxesOk.syncRise {s : State} (h : s.AxesOk) : s.syncRise.AxesOk := by
  unfold State.syncRise
  split
  · exact h
  · exact State.AxesOk.frameEvent (h.congr ⟨by simp, by simp⟩) _
  · exact State.AxesOk.frameEvent (h.congr ⟨by simp, by simp⟩) _

theorem State.AxesOk.judgeFrameTimers {s : State} (h : s.AxesOk) (b : Bool) : (s.judgeFrameTimers b).AxesOk := by
  unfold State.judgeFrameTimers
  split
  · exact h.congr ⟨by simp, by simp⟩
  · split
    · exact h.timerEvent
    · exact h

theorem State.AxesOk.setFrameBlock {s : State} (h : s.AxesOk) (ps : List Byte) : (setFrameBlock s ps).2.AxesOk := by
  have k : ∀ f, (s.modFru f).AxesOk := fun f => h.congr ⟨by simp, by simp⟩
  unfold Machine.setFrameBlock
  split
  · split
    · simp only [State.accept, State.applyFrame]
      split
      · exact k _
      · exact (k _).judgeFrameTimers _
      · exact (k _).judgeFrameTimers _
    · exact h
  · exact h

theorem PhaseUnit.Ok.takeArm {p : PhaseUnit} {l : LinkState} (h : p.Ok l) : p.takeArm.Ok l := by
  obtain ⟨hoff, hview, href, harm, hfault, hhold⟩ := h
  unfold PhaseUnit.takeArm PhaseUnit.arm
  split <;> constructor <;> simp_all

theorem PhaseUnit.Ok.takeDisarm {p : PhaseUnit} {l : LinkState} (h : p.Ok l) : p.takeDisarm.Ok l := by
  obtain ⟨hoff, hview, href, harm, hfault, hhold⟩ := h
  unfold PhaseUnit.takeDisarm
  split <;> constructor <;> simp_all

theorem State.AxesOk.completeRead {s : State} (h : s.AxesOk) (word : BitVec 8) : (s.completeRead word).AxesOk := by
  rcases s.completeRead_cases word with ⟨r, _, _, e⟩ | e <;> rw [e]
  · refine h.mapPhu (by simp) (fun a l hp => ?_)
    simp only [State.takeWord, State.modSvp_phu, Four.get_mapIdx]
    split
    · split
      · exact hp.takeArm
      · split
        · exact hp.takeDisarm
        · exact hp
    · exact hp
  · exact h

/-! ## The law of the axes in the host commands -/

theorem State.AxesOk.hostCommand {s : State} {code : Byte} {n : Nat} {body : List Byte}
    {block : State → List Byte → Reply × State} (h : s.AxesOk) (hb : ∀ ps, (block s ps).2.AxesOk) :
    (s.hostCommand code n body block).AxesOk := by
  rcases s.hostCommand_cases code n body block with ⟨_, e⟩ | ⟨_, _, e⟩ | ⟨ps, _, _, e⟩ <;> rw [e]
  · exact h
  · exact h.congr (s.answer_sameAxes _ _)
  · exact (hb ps).congr (State.answer_sameAxes _ _ _)

theorem State.AxesOk.axisCommand {s : State} {act : State → Axis → Reply × State} (h : s.AxesOk)
    (ha : ∀ a, (act s a).2.AxesOk) (ps : List Byte) : (axisCommand act s ps).2.AxesOk := by
  unfold Machine.axisCommand
  (repeat' split) <;> first | exact ha _ | exact h

theorem State.AxesOk.datumCommand {s : State} {act : State → Axis → Datum → Reply × State} (h : s.AxesOk)
    (ha : ∀ a d, (act s a d).2.AxesOk) (ps : List Byte) : (datumCommand act s ps).2.AxesOk := by
  unfold Machine.datumCommand
  (repeat' split) <;> first | exact ha _ _ | exact h

/-- The settings of the counting record are no part of the law. -/
theorem State.AxesOk.setCorrectionBlock {s : State} (h : s.AxesOk) (ps : List Byte) : (setCorrectionBlock s ps).2.AxesOk := by
  unfold Machine.setCorrectionBlock
  (repeat' split) <;> first | exact h.modPhu_sameState ⟨rfl, rfl, rfl, rfl, rfl⟩ rfl | exact h

theorem State.AxesOk.setAmplitudeBlock {s : State} (h : s.AxesOk) (ps : List Byte) : (setAmplitudeBlock s ps).2.AxesOk := by
  unfold Machine.setAmplitudeBlock
  (repeat' split) <;> first | exact h.modPhu_sameState ⟨rfl, rfl, rfl, rfl, rfl⟩ rfl | exact h

theorem State.AxesOk.setDirectionBlock {s : State} (h : s.AxesOk) (ps : List Byte) : (setDirectionBlock s ps).2.AxesOk := by
  unfold Machine.setDirectionBlock
  (repeat' split) <;> first | exact h.modPhu_sameState ⟨rfl, rfl, rfl, rfl, rfl⟩ rfl | exact h

theorem State.AxesOk.setBridgeBlock {s : State} (h : s.AxesOk) (ps : List Byte) : (setBridgeBlock s ps).2.AxesOk := by
  have k : ∀ (p : PhaseUnit) n, p.SameState (p.setBridge n) ∧ (p.setBridge n).acc = p.acc := by
    intro p n
    unfold PhaseUnit.setBridge
    split <;> exact ⟨⟨rfl, rfl, rfl, rfl, rfl⟩, rfl⟩
  unfold Machine.setBridgeBlock
  (repeat' split) <;> first | exact h.modPhu_sameState (k _ _).1 (k _ _).2 | exact h

theorem State.AxesOk.enableAxis {s : State} (h : s.AxesOk) (a : Axis) : (enableAxisBlock s a).2.AxesOk := by
  unfold enableAxisBlock State.isOff
  split
  · rename_i ho
    have ho : (s.phu.get a).state = .off := by simpa using ho
    have hp := (h a).2
    refine h.modPhu ⟨nofun, fun _ => rfl, nofun, ?_, ?_, fun _ => hp.hold (by rw [ho]; decide)⟩
    · exact hp.armed.trans (by rw [ho]; rfl)
    · exact hp.fault.trans (by rw [ho]; rfl)
  · exact h

theorem State.AxesOk.advanceEpoch {s : State} (h : s.AxesOk) (a : Axis) : (s.advanceEpoch a).AxesOk := by
  have k : (s.modPhu a (fun p => { p with epoch := p.epoch + 1 })).AxesOk :=
    h.modPhu_sameState ⟨rfl, rfl, rfl, rfl, rfl⟩ rfl
  unfold State.advanceEpoch
  dsimp only
  split
  · exact k
  · exact k

theorem State.AxesOk.disableAxis {s : State} (h : s.AxesOk) (a : Axis) : (disableAxisBlock s a).2.AxesOk := by
  unfold disableAxisBlock State.isOff
  split
  · exact h
  · have k : (s.modPhu a PhaseUnit.disable).AxesOk :=
      h.modPhu ⟨fun _ => ⟨rfl, rfl⟩, fun hn => absurd rfl hn, nofun, rfl, rfl, fun _ => rfl⟩
    exact (k.advanceEpoch a).congr ⟨by simp [State.accept], by simp [State.accept]⟩

theorem State.AxesOk.axisRestart {s : State} (h : s.AxesOk) (a : Axis) : (axisRestartBlock s a).2.AxesOk := by
  unfold axisRestartBlock State.isOff
  split
  · exact h
  · rename_i hn
    have k : (s.modPhu a PhaseUnit.restart).AxesOk :=
      h.modPhu ⟨nofun, fun _ => (h a).2.view (by simpa using hn), nofun, rfl, rfl, fun _ => rfl⟩
    exact (k.advanceEpoch a).congr ⟨by simp [State.accept], by simp [State.accept]⟩

theorem State.AxesOk.ackFault {s : State} (h : s.AxesOk) (a : Axis) : (ackFaultBlock s a).2.AxesOk := by
  unfold ackFaultBlock
  split
  · rename_i hf
    have hp := (h a).2
    have k : (s.modPhu a (fun p => { p with state := .unreferenced, fault := none, hold := 0 })).AxesOk :=
      h.modPhu ⟨nofun, fun _ => hp.view (by rw [hf]; decide), nofun, hp.armed.trans (by rw [hf]; rfl), rfl, fun _ => rfl⟩
    exact k.congr ⟨by simp [State.accept], by simp [State.accept]⟩
  all_goals exact h

theorem State.AxesOk.datumNow {s : State} (h : s.AxesOk) (a : Axis) (v : Int) : (datumNowAt s a v).2.AxesOk := by
  have load (hn : (s.phu.get a).state ≠ .off) (hf : (s.phu.get a).state ≠ .faulted) :
      (if (s.phu.get a).lockView then ((s.loadDatum a v).reportToCapture a .epochChange).accept
        else s.refuse .noLock).2.AxesOk := by
    split
    · rename_i hv
      exact (h.loadDatum hn hf hv v).congr ⟨by simp [State.accept], by simp [State.accept]⟩
    · exact h
  unfold datumNowAt
  dsimp only
  split
  · exact h
  · exact h
  all_goals
    rename_i hs
    exact load (by rw [hs]; decide) (by rw [hs]; decide)

theorem State.AxesOk.datumNowBlock {s : State} (h : s.AxesOk) (ps : List Byte) : (datumNowBlock s ps).2.AxesOk := by
  unfold Machine.datumNowBlock
  (repeat' split) <;> first | exact h.datumNow _ _ | exact h

theorem State.AxesOk.datumAtMark {s : State} (h : s.AxesOk) (a : Axis) (d : Datum) : (datumAtMarkAt s a d).2.AxesOk := by
  have hp := (h a).2
  unfold datumAtMarkAt
  split
  · rename_i hs
    exact h.modPhu ⟨nofun, fun _ => hp.view (by rw [hs]; decide), nofun, rfl, hp.fault.trans (by rw [hs]; rfl),
      fun _ => hp.hold (by rw [hs]; decide)⟩
  all_goals exact h

theorem State.AxesOk.releaseAxis {s : State} (h : s.AxesOk) (a : Axis) : (releaseAxisBlock s a).2.AxesOk := by
  have hp := (h a).2
  unfold releaseAxisBlock
  split
  · rename_i hs
    exact h.modPhu ⟨nofun, fun _ => hp.view (by rw [hs]; decide), nofun, rfl, hp.fault.trans (by rw [hs]; rfl),
      fun _ => hp.hold (by rw [hs]; decide)⟩
  · rename_i hs
    exact h.modPhu ⟨nofun, fun _ => hp.view (by rw [hs]; decide), nofun, hp.armed.trans (by rw [hs]; rfl),
      hp.fault.trans (by rw [hs]; rfl), fun _ => hp.hold (by rw [hs]; decide)⟩
  all_goals exact h

/-! ## The law of the axes in the commands of the links -/

/-- A value read within a range lies in it. -/
theorem natIn_bounds {lo hi v : Nat} {bytes : List Byte} (h : natIn lo hi bytes = some v) : lo ≤ v ∧ v ≤ hi := by
  unfold natIn at h
  dsimp only at h
  split at h
  · cases h
    assumption
  · cases h

theorem State.AxesOk.writeLink {s : State} (h : s.AxesOk) (a : Axis) {l t d : Nat} (hl : 1 ≤ l ∧ l ≤ 7) (ht : 1 ≤ t ∧ t ≤ 255)
    (hd : d ≤ 1023) : (s.writeLink a l t d).AxesOk := by
  have k : (s.modSlr a (fun r => { r with badRunLimit := l, linkTimeout := t, sampleDelay := d })).AxesOk :=
    h.modSlr_sameLink { (h a).1 with limit := hl, timeout := ht, delay := hd } rfl
  unfold State.writeLink
  dsimp only
  split
  · exact k.dropLink a _
  · exact k

theorem State.AxesOk.setLinkBlock {s : State} (h : s.AxesOk) (ps : List Byte) : (setLinkBlock s ps).2.AxesOk := by
  unfold Machine.setLinkBlock
  split
  · split
    · rename_i hl ht hd
      exact h.writeLink _ (natIn_bounds hl) (natIn_bounds ht) (natIn_bounds hd).2
    · exact h
  · exact h

theorem State.AxesOk.readLinkCountersBlock {s : State} (h : s.AxesOk) (ps : List Byte) :
    (readLinkCountersBlock s ps).2.AxesOk := by
  unfold Machine.readLinkCountersBlock
  split
  · split
    · dsimp only
      split
      · intro a
        simp only [Four.get_mapIdx]
        split
        · exact ⟨(h a).1.count 0 ⟨Nat.zero_le _, Nat.zero_le _, Nat.zero_le _, Nat.zero_le _⟩, (h a).2⟩
        · exact h a
      · exact h
    · exact h
  · exact h

/-! ## The law of the axes at reset and in every step -/

theorem Receiver.reset_ok : Receiver.reset.Ok := by
  constructor <;> decide

theorem PhaseUnit.reset_ok : PhaseUnit.reset.Ok .down := by
  constructor <;> decide

/-- After a reset every receiver and every phase unit holds its reset values. -/
theorem State.axesOk_of_reset {t : State} (hr : t.slr = Four.replicate Receiver.reset)
    (hp : t.phu = Four.replicate PhaseUnit.reset) : t.AxesOk := by
  intro a
  rw [hr, hp, Four.get_replicate, Four.get_replicate]
  exact ⟨Receiver.reset_ok, PhaseUnit.reset_ok⟩

/-- Every command keeps the law of the axes. -/
theorem State.AxesOk.exec {s t : State} (h : s.AxesOk) {i : Instr} (e : exec i s = .next t) : t.AxesOk := by
  by_cases hi : reachesAxes i = false
  · exact h.congr (exec_sameAxes hi e)
  cases i <;> first | exact absurd rfl hi | obtain rfl := Host.Outcome.next.inj e
  case sampleFrame a bits => exact h.takeFrame a bits
  case silenceTimerExpiry a =>
    split
    · exact h.dropLink a _
    · exact h
  case setLink => exact h.hostCommand h.setLinkBlock
  case readLinkCounters => exact h.hostCommand h.readLinkCountersBlock
  case syncEdge => exact h.syncRise
  case frameTimerExpiry =>
    split
    · exact h.timerEvent
    · exact h
  case setFrame => exact h.hostCommand h.setFrameBlock
  case servoReadComplete word | servoArm word | servoDisarm word => exact h.completeRead word
  case setCorrection => exact h.hostCommand h.setCorrectionBlock
  case setAmplitude => exact h.hostCommand h.setAmplitudeBlock
  case setDirection => exact h.hostCommand h.setDirectionBlock
  case setBridge => exact h.hostCommand h.setBridgeBlock
  case enableAxis => exact h.hostCommand (h.axisCommand h.enableAxis)
  case disableAxis => exact h.hostCommand (h.axisCommand h.disableAxis)
  case ackFault => exact h.hostCommand (h.axisCommand h.ackFault)
  case datumNow => exact h.hostCommand h.datumNowBlock
  case setDatumPreset =>
    exact h.hostCommand (h.datumCommand (fun a d => h.modPhu_sameState ⟨rfl, rfl, rfl, rfl, rfl⟩ rfl))
  case datumAtMark => exact h.hostCommand (h.datumCommand h.datumAtMark)
  case releaseAxis => exact h.hostCommand (h.axisCommand h.releaseAxis)
  case axisRestart => exact h.hostCommand (h.axisCommand h.axisRestart)
  case powerOnReset => exact State.axesOk_of_reset rfl rfl
  case resetUnit =>
    split
    · exact h
    · split
      · exact h.congr (s.answer_sameAxes _ _)
      · exact State.axesOk_of_reset rfl rfl

/-- A line event changes of a receiver the frame being assembled alone, which the law does not read (R2). -/
theorem State.AxesOk.takeLine {s : State} (h : s.AxesOk) (e : LineEvent) : (s.takeLine e).1.AxesOk := by
  intro a
  obtain ⟨x, hx⟩ := s.takeLine_slr e a
  have hp : (s.takeLine e).1.phu = s.phu := by simp
  rw [hx, hp]
  exact ⟨{ (h a).1 with }, (h a).2⟩

end Sys2Proof.Machine

namespace Sys2Proof.Proofs

open Sys2Proof.Machine

/-- A step that keeps a law of the state keeps it by each command, each line event and the tick. -/
theorem step_induction {P : State → Prop} {s t : State} (h : P s) (hs : step s = .next t)
    (pending : ∀ s q, P s → P (s.withPending q)) (lines : ∀ s q, P s → P (s.withLines q))
    (exec : ∀ i s t, P s → exec i s = .next t → P t) (line : ∀ s e, P s → P (s.takeLine e).1)
    (tick : ∀ s, P s → P s.advanceTick) : P t := by
  unfold step at hs
  split at hs
  · exact exec _ _ _ (pending _ _ h) hs
  · unfold idleStep at hs
    split at hs
    · exact exec _ _ _ h hs
    · split at hs
      · rename_i e rest _
        have k := line _ e (lines _ rest h)
        unfold lineStep at hs
        split at hs
        · rename_i he
          rw [he] at k
          exact exec _ _ _ k hs
        · rename_i he
          rw [he] at k
          cases hs
          exact k
      · cases hs
        exact tick _ h

/-- Settles O6: every command, line event and tick keeps the law of the axes. -/
theorem stepKeepsAxes : Obligations.StepKeepsAxes := by
  intro s t h hs
  exact step_induction h hs (fun _ _ k => k) (fun _ _ k => k) (fun _ _ _ k e => k.exec e) (fun _ e k => k.takeLine e)
    (fun _ k => k)

end Sys2Proof.Proofs

namespace Sys2Proof.Machine

/-! ## The laws of the other blocks at reset -/

theorem PhaseUnit.reset_trackingOk : PhaseUnit.reset.TrackingOk where
  acc := by unfold InAcc; decide
  hold := by unfold InAcc; decide
  preset := by unfold InAcc; decide
  armed := nofun
  history := by decide
  realRun := by decide
  missing := by decide
  bridgeMax := by decide
  pendingMax := nofun
  dLast := by decide
  noRef _ := ⟨rfl, rfl, rfl, rfl, rfl⟩
  firstReal := nofun
  interval := nofun
  window := by decide

theorem Compensation.reset_ok : Compensation.reset.Ok := by
  constructor
  case probes => intro k; cases k <;> decide
  all_goals decide

theorem Compensation.reset_stepsOk : Compensation.reset.StepsOk where
  optics a := by unfold Optics.Ok; cases a <;> decide
  computing := nofun
  active a := by cases a <;> decide
  staged := nofun

theorem FrameUnit.reset_ok : FrameUnit.reset.Ok := by
  constructor
  case checks => intro a; cases a <;> decide
  all_goals decide

theorem ServoPort.reset_ok : ServoPort.reset.Ok where
  layout := by unfold LayoutOk; decide
  staged := nofun
  snapshot := nofun
  reading := nofun
  holds y h e := by
    have hn : ServoPort.reset.holds.get y = none := by cases y <;> first | rfl | exact Four.get_replicate _ _
    rw [hn] at e
    cases e

theorem ContextsOk.nil : ContextsOk [] := ⟨Nat.zero_le _, fun _ hc => absurd hc List.not_mem_nil⟩

theorem LineCapture.reset_entriesOk : LineCapture.reset.EntriesOk where
  capture _ hc := by simp [LineCapture.reset] at hc
  records _ hr := by simp [LineCapture.reset] at hr
  missed := by decide

theorem LineCapture.reset_numbersRise : LineCapture.reset.NumbersRise :=
  ⟨List.Pairwise.nil, fun _ hr => absurd hr List.not_mem_nil⟩

theorem State.reset_recordsOk : State.reset.RecordsOk where
  depth := by decide
  level := by decide
  ready := by decide

theorem MicroLink.reset_ok : MicroLink.reset.Ok where
  depth := by decide
  quiet := by decide
  lengths := nofun
  rate := by decide
  counters := by decide
  assembling := nofun

theorem State.reset_alertOk : State.reset.AlertOk where
  level := by decide
  ended := nofun
  times := by decide
  coalesced := by decide
  monitors m := by cases m <;> decide

theorem HostPort.reset_ok : HostPort.reset.Ok where
  attn := ⟨nofun, fun ⟨i, hi, _⟩ => by simp [HostPort.reset] at hi⟩
  waiting _ := rfl
  receiving := nofun

end Sys2Proof.Machine

namespace Sys2Proof.Proofs

open Sys2Proof.Machine

/-- Settles O4: the tables of the chapters, field by field. -/
theorem resetHoldsTheStatedValues : Obligations.ResetHoldsTheStatedValues := by
  unfold Obligations.ResetHoldsTheStatedValues
  refine ⟨rfl, fun a => Four.get_replicate _ a, fun a => Four.get_replicate _ a, rfl, fun a => ?_, by decide, ?_, rfl, rfl, ?_,
    fun m => Four.get_replicate _ m, rfl, by decide⟩
  · exact ⟨Four.get_replicate _ a, Four.get_replicate _ a, Four.get_replicate _ a, Four.get_replicate _ a⟩
  · exact ⟨rfl, rfl, rfl, rfl, rfl, rfl, rfl, rfl, fun a => Four.get_replicate _ a⟩
  · exact ⟨rfl, ⟨_, rfl⟩, rfl, rfl, rfl, rfl, rfl, rfl⟩

/-- Settles O5: block by block. -/
theorem resetKeepsEveryLaw : Obligations.ResetKeepsEveryLaw := by
  have tracking : State.reset.TrackingOk := fun a => by
    rw [show State.reset.phu.get a = PhaseUnit.reset from Four.get_replicate _ a]
    exact PhaseUnit.reset_trackingOk
  exact ⟨State.axesOk_of_reset rfl rfl, tracking, Compensation.reset_ok, Compensation.reset_stepsOk, FrameUnit.reset_ok,
    ServoPort.reset_ok, ContextsOk.nil, LineCapture.reset_entriesOk, State.reset_recordsOk,
    LineCapture.reset_numbersRise, MicroLink.reset_ok, State.reset_alertOk,
    HostPort.reset_ok⟩

end Sys2Proof.Proofs

namespace Sys2Proof.Machine

open Sys2Proof.Claims

/-! ## The operations in the vocabulary of the statements -/

theorem State.modSlr_eq_withSlr (s : State) (a : Axis) (f : Receiver → Receiver) : s.modSlr a f = withSlr s a (f (s.slr.get a)) :=
  rfl

theorem State.contribute_eq_contributed (s : State) (a : Axis) (n : Nat) : s.contribute a n = contributed s a n := rfl

theorem PhaseUnit.trackingRestart_eq_restarted (p : PhaseUnit) : p.trackingRestart = restarted p := rfl

@[simp] theorem withSlr_slr (s : State) (a : Axis) (r : Receiver) : (withSlr s a r).slr = s.slr.set a r := rfl

@[simp] theorem withSlr_frame (s : State) (a : Axis) (r : Receiver) :
    (withSlr s a r).tick = s.tick ∧
    (withSlr s a r).phu = s.phu ∧
    (withSlr s a r).mEpoch = s.mEpoch ∧
    (withSlr s a r).cmu = s.cmu ∧
    (withSlr s a r).fru = s.fru ∧
    (withSlr s a r).svp = s.svp ∧
    (withSlr s a r).lcu = s.lcu ∧
    (withSlr s a r).msl = s.msl ∧
    (withSlr s a r).mnu = s.mnu ∧
    (withSlr s a r).alc = s.alc ∧
    (withSlr s a r).hpt = s.hpt ∧
    (withSlr s a r).choices = s.choices ∧
    (withSlr s a r).pending = s.pending ∧
    (withSlr s a r).lines = s.lines :=
  ⟨rfl, rfl, rfl, rfl, rfl, rfl, rfl, rfl, rfl, rfl, rfl, rfl, rfl, rfl⟩

@[simp] theorem withSlr_withSlr (s : State) (a : Axis) (r q : Receiver) : withSlr (withSlr s a r) a q = withSlr s a q := by
  simp [withSlr]

@[simp] theorem withSlr_get (s : State) (a : Axis) : withSlr s a (s.slr.get a) = s := by simp [withSlr]

@[simp] theorem contributed_slr (s : State) (a : Axis) (n : Nat) : (contributed s a n).slr = s.slr := rfl

@[simp] theorem contributed_phu (s : State) (a : Axis) (n : Nat) : (contributed s a n).phu = s.phu := rfl

@[simp] theorem contributed_tick (s : State) (a : Axis) (n : Nat) : (contributed s a n).tick = s.tick := rfl

/-! ## A frame by the link state and its class (R3, R6 to R11) -/

theorem exec_sampleFrame (a : Axis) (bits : List Bool) (s : State) : exec (.sampleFrame a bits) s = .next (s.takeFrame a bits) :=
  rfl

theorem State.takeFrame_good {bits : List Bool} {f : SampleFields} (h : parseSample bits = some f) (s : State) (a : Axis) :
    s.takeFrame a bits = s.goodFrame a f := by
  simp [State.takeFrame, h]

theorem State.takeFrame_bad {bits : List Bool} (h : parseSample bits = none) (s : State) (a : Axis) :
    s.takeFrame a bits = s.badFrame a := by
  simp [State.takeFrame, h]

/-- The receiver with one more good frame counted (R14). -/
def Receiver.good (r : Receiver) : Receiver := { r with goodFrames := r.goodFrames + 1 }

/-- The receiver with one more CRC error counted (R14). -/
def Receiver.bad (r : Receiver) : Receiver := { r with crcErrors := min 65535 (r.crcErrors + 1) }

theorem State.goodFrame_down {s : State} {a : Axis} (h : (s.slr.get a).link = .down) (f : SampleFields) :
    s.goodFrame a f = withSlr s a ((s.slr.get a).good.startRun f.seq s.tick) := by
  simp [State.goodFrame, State.modSlr_eq_withSlr, Receiver.good, h]

theorem State.goodFrame_acquiring {s : State} {a : Axis} (h : (s.slr.get a).link = .acquiring) (f : SampleFields) :
    s.goodFrame a f = (withSlr s a (s.slr.get a).good).goodInAcquiring a f := by
  simp [State.goodFrame, State.modSlr_eq_withSlr, Receiver.good, h]

theorem State.goodFrame_locked {s : State} {a : Axis} (h : (s.slr.get a).link = .locked) (f : SampleFields) :
    s.goodFrame a f = (withSlr s a (s.slr.get a).good).goodInLocked a f := by
  simp [State.goodFrame, State.modSlr_eq_withSlr, Receiver.good, h]

theorem State.badFrame_down {s : State} {a : Axis} (h : (s.slr.get a).link = .down) :
    s.badFrame a = withSlr s a (s.slr.get a).bad := by
  simp [State.badFrame, State.modSlr_eq_withSlr, Receiver.bad, satAdd, h]

theorem State.badFrame_acquiring {s : State} {a : Axis} (h : (s.slr.get a).link = .acquiring) :
    s.badFrame a = withSlr s a { (s.slr.get a).bad with goodRun := 0, silence := some s.tick } := by
  simp [State.badFrame, State.modSlr_eq_withSlr, Receiver.bad, satAdd, h]

theorem State.badFrame_locked {s : State} {a : Axis} (h : (s.slr.get a).link = .locked) :
    s.badFrame a = (withSlr s a (s.slr.get a).bad).badInLocked a false := by
  simp [State.badFrame, State.modSlr_eq_withSlr, Receiver.bad, satAdd, h]

/-- A frame is next in sequence where the last number is one before its own, modulo 64 (R7, R9). -/
theorem nextSeq_iff (last : Option (BitVec 6)) (seq : BitVec 6) :
    last.map (fun q => q + 1) = some seq ↔ last = some (seq - 1) := by
  cases last with
  | none => simp
  | some q =>
    simp only [Option.map_some, Option.some.injEq]
    constructor <;> rintro rfl <;> simp

theorem State.goodInAcquiring_sixteenth {s : State} {a : Axis} {f : SampleFields} (hrun : (s.slr.get a).goodRun = 15)
    (hseq : (s.slr.get a).lastSeq = some (f.seq - 1)) : s.goodInAcquiring a f = s.enterLocked a f := by
  simp [State.goodInAcquiring, hrun, hseq]

theorem State.goodInAcquiring_next {s : State} {a : Axis} {f : SampleFields} (hrun : 1 ≤ (s.slr.get a).goodRun)
    (hseq : (s.slr.get a).lastSeq = some (f.seq - 1)) (hn : (s.slr.get a).goodRun ≠ 15) :
    s.goodInAcquiring a f = withSlr s a { s.slr.get a with
      goodRun := (s.slr.get a).goodRun + 1, lastSeq := some f.seq, silence := some s.tick } := by
  simp [State.goodInAcquiring, hseq, hrun, hn, State.modSlr_eq_withSlr]

theorem State.goodInAcquiring_anew {s : State} {a : Axis} {f : SampleFields}
    (h : (s.slr.get a).goodRun = 0 ∨ (s.slr.get a).lastSeq ≠ some (f.seq - 1)) :
    s.goodInAcquiring a f = withSlr s a ((s.slr.get a).startRun f.seq s.tick) := by
  have hc : ¬ (1 ≤ (s.slr.get a).goodRun ∧ (s.slr.get a).lastSeq.map (fun q => q + 1) = some f.seq) := by
    rw [nextSeq_iff]
    rintro ⟨hr, hs⟩
    rcases h with h | h
    · omega
    · exact h hs
  simp only [State.goodInAcquiring, hc, if_false, State.modSlr_eq_withSlr]

/-! ## A frame in LOCKED (R9 to R11) -/

theorem Receiver.gapOf_some {r : Receiver} {last : BitVec 6} (h : r.lastSeq = some last) (seq : BitVec 6) :
    r.gapOf seq = (seq - (last + 1)).toNat := by
  simp [Receiver.gapOf, h]

theorem State.goodInLocked_inSequence {s : State} {a : Axis} {f : SampleFields} (h : (s.slr.get a).gapOf f.seq = 0) :
    s.goodInLocked a f = s.acceptSample a f := by
  simp [State.goodInLocked, h]

theorem State.goodInLocked_gap {s : State} {a : Axis} {f : SampleFields} {g : Nat} (h : (s.slr.get a).gapOf f.seq = g)
    (h1 : 1 ≤ g) (h31 : g ≤ 31) :
    s.goodInLocked a f =
      ((contributed (withSlr s a { s.slr.get a with gaps := min 65535 ((s.slr.get a).gaps + g) }) a g).handNotice a .gap g
        (s.frameInstant a)).acceptSample a f := by
  have h0 : g ≠ 0 := by omega
  simp [State.goodInLocked, h, h0, h31, State.modSlr_eq_withSlr, State.contribute_eq_contributed, satAdd,
    State.frameInstant]

theorem State.goodInLocked_outOfOrder {s : State} {a : Axis} {f : SampleFields} {g : Nat}
    (h : (s.slr.get a).gapOf f.seq = g) (h32 : 32 ≤ g) :
    s.goodInLocked a f =
      (withSlr s a { s.slr.get a with outOfOrder := min 65535 ((s.slr.get a).outOfOrder + 1) }).badInLocked a (g == 63) := by
  have h0 : g ≠ 0 := by omega
  have h31 : ¬ g ≤ 31 := by omega
  simp [State.goodInLocked, h, h0, h31, State.modSlr_eq_withSlr, satAdd]

theorem State.badInLocked_limit {s : State} {a : Axis} (h : (s.slr.get a).badRunLimit ≤ (s.slr.get a).badRun + 1) (dup : Bool) :
    s.badInLocked a dup = s.loseLock a s.tick := by
  simp [State.badInLocked, h]

theorem State.badInLocked_below {s : State} {a : Axis} (h : (s.slr.get a).badRun + 1 < (s.slr.get a).badRunLimit)
    (dup : Bool) : s.badInLocked a dup = s.occupyPosition a dup := by
  have hn : ¬ (s.slr.get a).badRunLimit ≤ (s.slr.get a).badRun + 1 := by omega
  simp [State.badInLocked, hn]

theorem State.occupyPosition_duplicate (s : State) (a : Axis) :
    s.occupyPosition a true =
      withSlr s a { s.slr.get a with badRun := (s.slr.get a).badRun + 1, silence := some s.tick } := rfl

theorem State.occupyPosition_next {s : State} {a : Axis} {last : BitVec 6} (h : (s.slr.get a).lastSeq = some last) :
    s.occupyPosition a false = (withSlr s a { s.slr.get a with
      badRun := (s.slr.get a).badRun + 1, silence := some s.tick, lastSeq := some (last + 1) }).handNotice a .bad 1
        (s.frameInstant a) := by
  simp [State.occupyPosition, State.modSlr_eq_withSlr, State.frameInstant, h]

theorem State.acceptSample_eq (s : State) (a : Axis) (f : SampleFields) :
    s.acceptSample a f = (contributed (withSlr s a { s.slr.get a with
      lastSeq := some f.seq, badRun := 0, silence := some s.tick }) a 1).handSample a f (s.frameInstant a) := by
  simp [State.acceptSample, State.modSlr_eq_withSlr, State.contribute_eq_contributed, State.frameInstant]

/-- The receiver that has lost lock (R11, R12, R16). -/
def Receiver.lost (r : Receiver) : Receiver := { r.toDown with lockLosses := min 255 (r.lockLosses + 1) }

theorem State.loseLock_eq (s : State) (a : Axis) (t : Tick) :
    s.loseLock a t = (withSlr s a (s.slr.get a).lost).lockLost a t := rfl

/-! ## Hand-offs to an axis that is OFF are discarded (R18) -/

theorem State.handSample_off {s : State} {a : Axis} (h : (s.phu.get a).state = .off) (f : SampleFields) (t : Tick) :
    s.handSample a f t = s := by
  simp [State.handSample, State.isOff, h]

theorem State.handNotice_off {s : State} {a : Axis} (h : (s.phu.get a).state = .off) (r : MissingReason) (g : Nat) (t : Tick) :
    s.handNotice a r g t = s := by
  simp [State.handNotice, State.isOff, h]

theorem State.lockGained_off {s : State} {a : Axis} (h : (s.phu.get a).state = .off) : s.lockGained a = s := by
  simp [State.lockGained, State.isOff, h]

theorem State.handSample_on {s : State} {a : Axis} (h : (s.phu.get a).state ≠ .off) (f : SampleFields) (t : Tick) :
    s.handSample a f t = s.takeSample a f t := by
  simp [State.handSample, State.isOff, h]

theorem State.handNotice_on {s : State} {a : Axis} (h : (s.phu.get a).state ≠ .off) (r : MissingReason) (g : Nat) (t : Tick) :
    s.handNotice a r g t = s.takeNotice a r g t := by
  simp [State.handNotice, State.isOff, h]

end Sys2Proof.Machine

namespace Sys2Proof.Proofs

open Sys2Proof.Machine Sys2Proof.Claims

/-- Settles O19: the two classes of a frame in DOWN. -/
theorem framesTakenInDown : Obligations.FramesTakenInDown := by
  intro s a bits hl hr
  refine ⟨fun f hf => ?_, fun hb => ⟨_, rfl, ?_⟩⟩
  · rw [exec_sampleFrame, State.takeFrame_good hf, State.goodFrame_down hl]
    rfl
  · rw [State.takeFrame_bad hb, State.badFrame_down hl]
    refine ⟨rfl, ?_, ?_⟩
    · simpa [Receiver.bad] using hl
    · simpa [Receiver.bad] using (hr.down hl).2.2.2

/-- Settles O20: a frame lengthens the run, starts it anew or empties it. -/
theorem framesTakenInAcquiring : Obligations.FramesTakenInAcquiring := by
  intro s a bits hl
  refine ⟨fun f hf hrun hseq hn => ?_, fun f hf h => ?_, fun hb => ?_⟩
  · rw [exec_sampleFrame, State.takeFrame_good hf, State.goodFrame_acquiring hl,
      State.goodInAcquiring_next (by simpa [Receiver.good] using hrun) (by simpa [Receiver.good] using hseq)
        (by simpa [Receiver.good] using hn)]
    simp [Receiver.good]
  · rw [exec_sampleFrame, State.takeFrame_good hf, State.goodFrame_acquiring hl,
      State.goodInAcquiring_anew (by simpa [Receiver.good] using h)]
    simp [Receiver.good, Receiver.startRun, hl]
  · rw [exec_sampleFrame, State.takeFrame_bad hb, State.badFrame_acquiring hl]
    rfl

end Sys2Proof.Proofs

namespace Sys2Proof.Machine

open Sys2Proof.Claims

/-! ## Frames in LOCKED, receiver and hand-off apart -/

/-- The sixteenth good frame in sequence: the receiver in LOCKED, lock gained, and the frame handed over (R8). -/
theorem State.takeFrame_sixteenth {s : State} {a : Axis} {bits : List Bool} {f : SampleFields} (hf : parseSample bits = some f)
    (hl : (s.slr.get a).link = .acquiring) (hrun : (s.slr.get a).goodRun = 15)
    (hseq : (s.slr.get a).lastSeq = some (f.seq - 1)) :
    s.takeFrame a bits = ((contributed ((withSlr s a { s.slr.get a with
      link := .locked, goodRun := 16, badRun := 0, lastSeq := some f.seq, silence := some s.tick,
      goodFrames := (s.slr.get a).goodFrames + 1 }).lockGained a) a 1).handSample a f (s.frameInstant a)) := by
  rw [State.takeFrame_good hf, State.goodFrame_acquiring hl, State.goodInAcquiring_sixteenth
    (by simpa [Receiver.good] using hrun) (by simpa [Receiver.good] using hseq)]
  simp [State.enterLocked, State.modSlr_eq_withSlr, State.contribute_eq_contributed, State.frameInstant, Receiver.good]

/-- A frame in sequence in LOCKED (R9). -/
theorem State.takeFrame_inSequence {s : State} {a : Axis} {bits : List Bool} {f : SampleFields} {last : BitVec 6}
    (hf : parseSample bits = some f) (hl : (s.slr.get a).link = .locked) (hlast : (s.slr.get a).lastSeq = some last)
    (hg : (f.seq - (last + 1)).toNat = 0) :
    s.takeFrame a bits = (contributed (withSlr s a { s.slr.get a with
      lastSeq := some f.seq, badRun := 0, silence := some s.tick, goodFrames := (s.slr.get a).goodFrames + 1 })
      a 1).handSample a f (s.frameInstant a) := by
  have hgap : (s.slr.get a).good.gapOf f.seq = 0 := by rw [Receiver.gapOf_some (by exact hlast), hg]
  rw [State.takeFrame_good hf, State.goodFrame_locked hl, State.goodInLocked_inSequence (by simpa using hgap),
    State.acceptSample_eq]
  simp [State.frameInstant, Receiver.good]

/-- A frame after a gap in LOCKED: its GAP notice, and then itself (R9). -/
theorem State.takeFrame_gap {s : State} {a : Axis} {bits : List Bool} {f : SampleFields} {last : BitVec 6} {g : Nat}
    (hf : parseSample bits = some f) (hl : (s.slr.get a).link = .locked) (hlast : (s.slr.get a).lastSeq = some last)
    (hg : (f.seq - (last + 1)).toNat = g) (h1 : 1 ≤ g) (h31 : g ≤ 31) :
    s.takeFrame a bits = ((contributed (withSlr s a { s.slr.get a with
      goodFrames := (s.slr.get a).goodFrames + 1, gaps := min 65535 ((s.slr.get a).gaps + g) }) a g).handNotice a .gap g
        (s.frameInstant a)).acceptSample a f := by
  have hgap : (s.slr.get a).good.gapOf f.seq = g := by rw [Receiver.gapOf_some (by exact hlast), hg]
  rw [State.takeFrame_good hf, State.goodFrame_locked hl, State.goodInLocked_gap (by simpa using hgap) h1 h31]
  simp [State.frameInstant, Receiver.good]

/-- A frame out of order in LOCKED is a bad frame; with a gap of 63 it is a duplicate (R9, R10). -/
theorem State.takeFrame_outOfOrder {s : State} {a : Axis} {bits : List Bool} {f : SampleFields} {last : BitVec 6}
    (hf : parseSample bits = some f) (hl : (s.slr.get a).link = .locked) (hlast : (s.slr.get a).lastSeq = some last)
    (h32 : 32 ≤ (f.seq - (last + 1)).toNat) :
    s.takeFrame a bits = (withSlr s a { s.slr.get a with
      goodFrames := (s.slr.get a).goodFrames + 1, outOfOrder := min 65535 ((s.slr.get a).outOfOrder + 1) }).badInLocked a
        ((f.seq - (last + 1)).toNat == 63) := by
  have hgap : (s.slr.get a).good.gapOf f.seq = (f.seq - (last + 1)).toNat := Receiver.gapOf_some (by exact hlast) _
  rw [State.takeFrame_good hf, State.goodFrame_locked hl, State.goodInLocked_outOfOrder (by simpa using hgap) h32]
  simp [Receiver.good]

end Sys2Proof.Machine

namespace Sys2Proof.Proofs

open Sys2Proof.Machine Sys2Proof.Claims

/-- Settles O21: the classes of R9 one by one, each hand-off discarded. -/
theorem framesTakenInLocked : Obligations.FramesTakenInLocked := by
  intro s a bits hoff
  refine ⟨fun f hf hl hrun hseq => ?_, fun f last hf hl hlast h31 => ?_, fun f last hf hl hlast h32 hbad => ?_,
    fun last hb hl hlast hbad => ?_, fun hb hl hbad => ?_, fun f last hf hl hlast h32 hbad => ?_⟩
  · rw [exec_sampleFrame, State.takeFrame_sixteenth hf hl hrun hseq, State.lockGained_off (by exact hoff),
      State.handSample_off (by exact hoff)]
  · generalize hg : (f.seq - (last + 1)).toNat = g at *
    by_cases h0 : g = 0
    · refine ⟨_, by rw [exec_sampleFrame, State.takeFrame_inSequence hf hl hlast (hg.trans h0), State.handSample_off (by exact hoff)],
        ?_, ?_, ?_⟩
      · simp [h0]
      · simp [contributed, h0]
      · simp [contributed, withSlr]
    · refine ⟨_, by rw [exec_sampleFrame, State.takeFrame_gap hf hl hlast hg (by omega) h31,
        State.handNotice_off (by exact hoff), State.acceptSample_eq, State.handSample_off (by exact hoff)], ?_, ?_, ?_⟩
      · simp [h0]
      · simp [contributed]
        omega
      · simp [contributed, withSlr]
  · rw [exec_sampleFrame, State.takeFrame_outOfOrder hf hl hlast h32, State.badInLocked_below (by simpa using hbad)]
    generalize (f.seq - (last + 1)).toNat = g
    by_cases h63 : g = 63
    · rw [beq_iff_eq.mpr h63, State.occupyPosition_duplicate]
      simp [h63, hlast]
    · rw [beq_eq_false_iff_ne.mpr h63, State.occupyPosition_next (last := last) (by simpa using hlast),
        State.handNotice_off (by exact hoff)]
      simp [h63]
  · rw [exec_sampleFrame, State.takeFrame_bad hb, State.badFrame_locked hl,
      State.badInLocked_below (by simpa [Receiver.bad] using hbad),
      State.occupyPosition_next (last := last) (by simpa [Receiver.bad] using hlast), State.handNotice_off (by exact hoff)]
    simp [Receiver.bad]
  · rw [exec_sampleFrame, State.takeFrame_bad hb, State.badFrame_locked hl,
      State.badInLocked_limit (by simpa [Receiver.bad] using hbad), State.loseLock_eq, State.lockLost_off (by exact hoff)]
    simp [Receiver.bad, Receiver.lost, Receiver.toDown]
  · rw [exec_sampleFrame, State.takeFrame_outOfOrder hf hl hlast h32, State.badInLocked_limit (by simpa using hbad),
      State.loseLock_eq, State.lockLost_off (by exact hoff)]
    simp [Receiver.lost, Receiver.toDown]

end Sys2Proof.Proofs

namespace Sys2Proof.Machine

open Sys2Proof.Claims

/-! ## The event flags that a capture leaves alone -/

theorem State.raise_flags (s : State) (f : Flag) (i : Nat) :
    (s.raise f).hpt.flags.getLsbD i = true ↔ s.hpt.flags.getLsbD i = true ∨ i = f.index := by
  simp [State.raise, State.withFlags, Flag.getLsbD_bit]

theorem State.raiseIf_flags_ne (s : State) (b : Bool) {f : Flag} {i : Nat} (h : i ≠ f.index) :
    (s.raiseIf b f).hpt.flags.getLsbD i = s.hpt.flags.getLsbD i := by
  unfold State.raiseIf
  split
  · rw [Bool.eq_iff_iff, State.raise_flags]
    simp [h]
  · rfl

/-- RECORDS_READY alone follows the record queue (R135). -/
theorem State.judgeReady_flags (s : State) {i : Nat} (h : 1 ≤ i) (hi : i < 27) :
    s.judgeReady.hpt.flags.getLsbD i = s.hpt.flags.getLsbD i := by
  have h0 : i ≠ Flag.recordsReady.index := by simp only [Flag.index]; omega
  simp only [State.judgeReady, State.withFlags]
  split <;> simp only [BitVec.getLsbD_or, BitVec.getLsbD_and, BitVec.getLsbD_not, Flag.getLsbD_bit, h0, hi] <;> simp

/-- A completed capture reaches no event flag but the two of the record queue (R134, R135). -/
theorem State.completeCapture_flags (s : State) (c : Capture) {i : Nat} (h : 2 ≤ i) (hi : i < 27) :
    (s.completeCapture c).hpt.flags.getLsbD i = s.hpt.flags.getLsbD i := by
  have h1 : i ≠ Flag.captureOverflow.index := by simp only [Flag.index]; omega
  simp only [State.completeCapture]
  split <;> simp [State.judgeReady_flags _ (by omega : 1 ≤ i) hi, State.raiseIf_flags_ne _ _ h1]

theorem State.completeIfSettled_flags (s : State) {i : Nat} (h : 2 ≤ i) (hi : i < 27) :
    s.completeIfSettled.hpt.flags.getLsbD i = s.hpt.flags.getLsbD i := by
  rcases s.completeIfSettled_cases with ⟨c, _, _, e⟩ | ⟨_, e⟩ <;> rw [e]
  exact s.completeCapture_flags c h hi

theorem State.progressEntry_flags (s : State) (a : Axis) (f : Capture → PhysEntry → Option HistEntry → EntryProgress)
    {i : Nat} (h : 2 ≤ i) (hi : i < 27) : (s.progressEntry a f).hpt.flags.getLsbD i = s.hpt.flags.getLsbD i := by
  rcases s.progressEntry_cases a f with e | ⟨c, x, b, _, _, _, e⟩ <;> rw [e]
  exact State.completeIfSettled_flags _ h hi

theorem State.reportToCapture_flags (s : State) (a : Axis) (r : AxisReport) {i : Nat} (h : 2 ≤ i) (hi : i < 27) :
    (s.reportToCapture a r).hpt.flags.getLsbD i = s.hpt.flags.getLsbD i :=
  s.progressEntry_flags a _ h hi

/-! ## An integrity loss and lock lost in the vocabulary of the statements -/

theorem State.integrityLoss_eq_suffers (s : State) (a : Axis) (c : Cause) (t : Tick) (h : Int) :
    s.integrityLoss a c t h = suffers s a c t h := by
  unfold State.integrityLoss suffers
  cases (s.phu.get a).state <;> rfl

theorem State.lockLost_eq_lockLostAt {s : State} {a : Axis} (h : (s.phu.get a).state ≠ .off) :
    s.lockLost a s.tick = lockLostAt s a := by
  simp only [State.lockLost, State.isOff, beq_iff_eq, h, if_false, State.integrityLoss_eq_suffers]
  rfl

/-- The flags that a loss raises: AXIS_FAULT from REFERENCED and ARM_CANCELLED from ARMED (R48, R59). -/
theorem State.integrityLoss_flags (s : State) (a : Axis) (c : Cause) (t : Tick) (h : Int) {i : Nat} (hi : 2 ≤ i)
    (hi27 : i < 27) :
    (s.integrityLoss a c t h).hpt.flags.getLsbD i = true ↔
      s.hpt.flags.getLsbD i = true ∨ ((s.phu.get a).state = .referenced ∧ i = 3 + a.toNat) ∨
        ((s.phu.get a).state = .armed ∧ i = 7 + a.toNat) := by
  rcases s.integrityLoss_cases a c t h with ⟨hs | hs, e⟩ | ⟨hs, e⟩ | ⟨hs, e⟩ | ⟨hs, e⟩ <;> rw [e]
  · simp [hs]
  · simp [hs]
  · simp [hs, State.raise_flags, Flag.index]
  · simp [hs, State.reportToCapture_flags _ _ _ hi hi27, State.raise_flags, Flag.index]
  · simp [hs]

/-- What a loss makes of a phase unit, by its state (R48, R49). -/
theorem PhaseUnit.lose_lossTaken (p : PhaseUnit) (c : Cause) (t : Tick) (h : Int) : LossTaken p (p.lose c t h) c t h 0 := by
  unfold PhaseUnit.lose
  constructor <;> intros <;> simp_all [FaultRecord.addCause, Cause.bit]

/-- Lock lost leaves count, epoch and settings of the phase unit, and restarts its tracking. -/
theorem PhaseUnit.unlocked_eq (p : PhaseUnit) (t : Tick) : ∃ st ar fr hd, p.unlocked t =
    { restarted p with lockView := false, state := st, armed := ar, fault := fr, hold := hd } := by
  unfold PhaseUnit.unlocked PhaseUnit.lose
  split <;> exact ⟨_, _, _, _, rfl⟩

/-- Lock lost moves neither the line capture unit nor ALERT unless the axis faults (R48, R59). -/
theorem State.lockLost_unreferenced {s : State} {a : Axis} (h : (s.phu.get a).state ≠ .referenced) (t : Tick) :
    (s.lockLost a t).lcu = s.lcu ∧ (s.lockLost a t).msl = s.msl ∧ (s.lockLost a t).alc = s.alc := by
  unfold State.lockLost
  split
  · exact ⟨rfl, rfl, rfl⟩
  · rcases s.integrityLoss_cases a .link t (s.phu.get a).acc with ⟨_, e⟩ | ⟨_, e⟩ | ⟨hs, _⟩ | ⟨_, e⟩
    · rw [e]; simp
    · rw [e]; simp
    · exact absurd hs h
    · rw [e]; simp

theorem State.lockLost_hpt {s : State} {a : Axis} (h : (s.phu.get a).state ≠ .off) (t : Tick) :
    (s.lockLost a t).hpt = (s.integrityLoss a .link t (s.phu.get a).acc).hpt := by
  simp [State.lockLost, State.isOff, h]

/-- What lock lost makes of the part where the axis is not OFF (R19, R45, R48, R49, R59). -/
theorem State.lockLost_taken (s : State) (a : Axis) (r : Receiver) (h : (s.phu.get a).state ≠ .off) :
    LockLostTaken s ((withSlr s a r).lockLost a s.tick) a := by
  have hphu : ((withSlr s a r).lockLost a s.tick).phu = s.phu.set a ((s.phu.get a).unlocked s.tick) :=
    State.lockLost_phu (by exact h) _
  have loss : LossTaken (s.phu.get a) ((s.phu.get a).unlocked s.tick) .link s.tick (s.phu.get a).acc 0 :=
    { (s.phu.get a).lose_lossTaken .link s.tick (s.phu.get a).acc with }
  have events : EventsRaised s ((withSlr s a r).lockLost a s.tick) a true := by
    intro i hi hi27
    rw [State.lockLost_hpt (by exact h), State.integrityLoss_flags _ _ _ _ _ hi hi27]
    simp
  have apart := State.lockLost_unreferenced (s := withSlr s a r) (a := a) (t := s.tick)
  unfold LockLostTaken
  rw [hphu, Four.get_set_self]
  obtain ⟨st, ar, fr, hd, e⟩ := (s.phu.get a).unlocked_eq s.tick
  rw [e] at loss ⊢
  refine ⟨rfl, rfl, rfl, rfl, rfl, rfl, rfl, rfl, rfl, rfl, rfl, loss, events, fun b hb => Four.get_set_ne _ _ hb, ?_⟩
  simpa using apart

end Sys2Proof.Machine

namespace Sys2Proof.Machine

open Sys2Proof.Claims

/-! ## A command frame in the vocabulary of the statements -/

theorem PendingResponse.isPending_eq (p : PendingResponse) : p.isPending = (p != .none) := by cases p <;> rfl

theorem State.answer_ok {s t : State} (h : t.tick = s.tick) (code : Byte) (data : List Byte) :
    t.answer code (.ok data) = accepted s code data t := by
  simp [State.answer, State.respond, State.modHpt, Reply.response, accepted, answeredBy, PendingResponse.isPending_eq, h]

theorem State.answer_refused (s : State) (code : Byte) (r : RefusalCode) : s.answer code (.refused r) = refused s code r := by
  simp [State.answer, State.respond, State.modHpt, Reply.response, refused, answeredBy, PendingResponse.isPending_eq]

theorem HostPort.closed_iff (x : HostPort) : x.closed = true ↔ x.waitHsel = true ∨ x.frame ≠ .idle := by
  simp [HostPort.closed]

/-- A command frame of the required length is handed to its block where the port takes frames by rows (R162 to R164). -/
theorem State.hostCommand_frame (s : State) (code : Byte) {n : Nat} (ps extra : List Byte)
    (block : State → List Byte → Reply × State) (hn : ps.length = n) (h : n ≤ 60) :
    s.hostCommand code n (frame ps extra) block = taken s ((block s ps).2.answer code (block s ps).1) := by
  subst hn
  have hp : paramsOf ps.length (frame ps extra) = some ps := paramsOf_cons ps extra h
  simp only [State.hostCommand, hp, taken, HostPort.closed_iff]

/-- A block that checks its parameters, and then accepts or refuses BAD_VALUE. -/
theorem State.hostCommand_checked {s t : State} {code : Byte} {n : Nat} {ps extra : List Byte}
    {block : State → List Byte → Reply × State} {ok : Prop} [Decidable ok] (hn : ps.length = n) (h : n ≤ 60)
    (hb : block s ps = if ok then t.accept else s.refuse .badValue) (ht : t.tick = s.tick) :
    s.hostCommand code n (frame ps extra) block = checked s code ok t := by
  rw [State.hostCommand_frame s code ps extra block hn h, hb, checked]
  split
  · rw [State.accept, State.answer_ok ht]
  · rw [State.refuse, State.answer_refused]

theorem quadOf_eq (b : Byte) : quadOf b = if b.toNat ≤ 3 then some (quadAt b) else none := by
  have toEq : ∀ k : Nat, k < 256 → b.toNat = k → b = BitVec.ofNat 8 k := fun k hk e =>
    BitVec.eq_of_toNat_eq (by rw [e, BitVec.toNat_ofNat, Nat.mod_eq_of_lt hk])
  unfold quadOf
  split
  case h_1 e => obtain rfl := toEq 0 (by decide) e; rfl
  case h_2 e => obtain rfl := toEq 1 (by decide) e; rfl
  case h_3 e => obtain rfl := toEq 2 (by decide) e; rfl
  case h_4 e => obtain rfl := toEq 3 (by decide) e; rfl
  case h_5 h0 h1 h2 h3 =>
    have : b.toNat ≠ 0 ∧ b.toNat ≠ 1 ∧ b.toNat ≠ 2 ∧ b.toNat ≠ 3 := ⟨h0, h1, h2, h3⟩
    rw [if_neg (by omega)]

theorem bytesToNat_singleton (b : Byte) : bytesToNat [b] = b.toNat := by simp [bytesToNat]

/-! ## A link that is dropped (R12, R16) -/

theorem timerDue_eq_ranOut (now : Tick) (timer : Option Tick) (period : Nat) : timerDue now timer period = ranOut now timer period := by
  cases timer <;> rfl

theorem ranOut_some (now start : Tick) (period : Nat) : ranOut now (some start) period = true ↔ hasPassed now start period := by
  simp [ranOut]

theorem State.silenceDue_eq (s : State) (a : Axis) :
    s.silenceDue a = ranOut s.tick (s.slr.get a).silence ((s.slr.get a).linkTimeout * 100) :=
  timerDue_eq_ranOut _ _ _

theorem State.dropLink_down {s : State} {a : Axis} (h : (s.slr.get a).link = .down) (t : Tick) : s.dropLink a t = s := by
  simp [State.dropLink, h]

theorem State.dropLink_acquiring {s : State} {a : Axis} (h : (s.slr.get a).link = .acquiring) (t : Tick) :
    s.dropLink a t = withSlr s a (s.slr.get a).toDown := by
  simp [State.dropLink, h, State.modSlr_eq_withSlr]

theorem State.dropLink_locked {s : State} {a : Axis} (h : (s.slr.get a).link = .locked) (t : Tick) :
    s.dropLink a t = (withSlr s a (s.slr.get a).lost).lockLost a t := by
  simp [State.dropLink, h, State.loseLock_eq]

/-! ## Lock lost by the axis state (R19, R48, R49) -/

theorem PhaseUnit.unlocked_unreferenced {p : PhaseUnit} (h : p.state = .unreferenced) (t : Tick) :
    p.unlocked t = { restarted p with lockView := false } := by
  simp [PhaseUnit.unlocked, PhaseUnit.lose, h, PhaseUnit.trackingRestart_eq_restarted]

theorem PhaseUnit.unlocked_armed {p : PhaseUnit} (h : p.state = .armed) (t : Tick) :
    p.unlocked t = { restarted p with lockView := false, state := .unreferenced, armed := none } := by
  simp [PhaseUnit.unlocked, PhaseUnit.lose, h, PhaseUnit.trackingRestart_eq_restarted, restarted]

theorem PhaseUnit.unlocked_referenced {p : PhaseUnit} (h : p.state = .referenced) (t : Tick) :
    p.unlocked t = { restarted p with
      lockView := false, state := .faulted, hold := p.acc
      fault := some { first := .link, further := 0, tick := t } } := by
  simp [PhaseUnit.unlocked, PhaseUnit.lose, h, PhaseUnit.trackingRestart_eq_restarted, restarted]

theorem PhaseUnit.unlocked_faulted {p : PhaseUnit} {r : FaultRecord} (h : p.state = .faulted) (hr : p.fault = some r) (t : Tick) :
    p.unlocked t = { restarted p with lockView := false, fault := some { r with further := r.further ||| 1 } } := by
  simp [PhaseUnit.unlocked, PhaseUnit.lose, h, hr, PhaseUnit.trackingRestart_eq_restarted, restarted, FaultRecord.addCause,
    Cause.bit, Cause.index]

/-- The host port after lock lost: untouched unless the axis was ARMED or REFERENCED (R48, R59). -/
theorem State.lockLost_hpt_same {s : State} {a : Axis} (ha : (s.phu.get a).state ≠ .armed)
    (hr : (s.phu.get a).state ≠ .referenced) (t : Tick) : (s.lockLost a t).hpt = s.hpt := by
  by_cases ho : (s.phu.get a).state = .off
  · rw [State.lockLost_off ho]
  · rw [State.lockLost_hpt ho]
    rcases s.integrityLoss_cases a .link t (s.phu.get a).acc with ⟨_, e⟩ | ⟨hs, _⟩ | ⟨hs, _⟩ | ⟨_, e⟩
    · rw [e]
    · exact absurd hs ha
    · exact absurd hs hr
    · rw [e, State.modPhu_hpt]

theorem State.lockLost_hpt_armed {s : State} {a : Axis} (h : (s.phu.get a).state = .armed) (t : Tick) :
    (s.lockLost a t).hpt = (raised s (7 + a.toNat)).hpt := by
  rw [State.lockLost_hpt (by rw [h]; decide), State.integrityLoss, h]
  rfl

end Sys2Proof.Machine

namespace Sys2Proof.Proofs

open Sys2Proof.Machine Sys2Proof.Claims

/-- Settles O25: an expiry drops the link, and lock lost acts by the axis state. -/
theorem silenceLosesLockAndActsByState : Obligations.SilenceLosesLockAndActsByState := by
  intro s a since hs
  have due : s.silenceDue a = true ↔ hasPassed s.tick since ((s.slr.get a).linkTimeout * 100) := by
    rw [State.silenceDue_eq, hs, ranOut_some]
  have expiry : exec (.silenceTimerExpiry a) s = .next (if s.silenceDue a then s.dropLink a s.tick else s) := rfl
  refine ⟨fun hn => ?_, fun hp hl => ?_, fun hp hl => ?_⟩
  · rw [expiry, if_neg (mt due.mp hn)]
  · rw [expiry, if_pos (due.mpr hp), State.dropLink_acquiring hl]
    rfl
  rw [expiry, if_pos (due.mpr hp), State.dropLink_locked hl]
  generalize ht : (withSlr s a (s.slr.get a).lost).lockLost a s.tick = t
  have hslr : t.slr = s.slr.set a (s.slr.get a).lost := by simp [← ht]
  have hget : t.slr.get a = (s.slr.get a).lost := by simp [hslr]
  have hoff (ho : (s.phu.get a).state = .off) : t = withSlr s a (s.slr.get a).lost := by
    rw [← ht, State.lockLost_off (by exact ho)]
  have hphu (hn : (s.phu.get a).state ≠ .off) : t.phu = s.phu.set a ((s.phu.get a).unlocked s.tick) := by
    rw [← ht]
    exact State.lockLost_phu (by exact hn) _
  have hlcu (hn : (s.phu.get a).state ≠ .referenced) : t.lcu = s.lcu := by
    rw [← ht]
    exact (State.lockLost_unreferenced (by exact hn) _).1
  have hhpt (ha : (s.phu.get a).state ≠ .armed) (hr : (s.phu.get a).state ≠ .referenced) : t.hpt = s.hpt := by
    rw [← ht]
    exact State.lockLost_hpt_same (by exact ha) (by exact hr) _
  refine ⟨t, rfl, hslr, fun ho => by rw [hget]; exact hoff ho, fun hn => ⟨?_, ?_⟩, fun b hb => ?_, ?_, ?_, ?_, ?_, ?_, ?_,
    fun ho => ?_, fun hu => ?_, fun ha => ?_, fun hr => ?_, fun r hf hfault => ?_⟩
  · rw [hget, ← ht]
    exact State.lockLost_eq_lockLostAt (by exact hn)
  · rw [← ht]
    exact s.lockLost_taken a _ hn
  · by_cases ho : (s.phu.get a).state = .off
    · rw [hoff ho]; rfl
    · rw [hphu ho, Four.get_set_ne _ _ hb]
  iterate 6 simp [← ht]
  · rw [hoff ho]
    exact ⟨rfl, rfl, rfl, rfl⟩
  · refine ⟨?_, hhpt (by rw [hu]; decide) (by rw [hu]; decide), hlcu (by rw [hu]; decide)⟩
    rw [hphu (by rw [hu]; decide), Four.get_set_self, PhaseUnit.unlocked_unreferenced hu]
  · refine ⟨?_, ?_, hlcu (by rw [ha]; decide)⟩
    · rw [hphu (by rw [ha]; decide), Four.get_set_self, PhaseUnit.unlocked_armed ha]
    · rw [← ht]
      exact State.lockLost_hpt_armed (by exact ha) _
  · have hn : (s.phu.get a).state ≠ .off := by rw [hr]; decide
    refine ⟨by rw [hphu hn, Four.get_set_self, PhaseUnit.unlocked_referenced hr], ?_⟩
    rw [← ht, State.lockLost_hpt (by exact hn), State.integrityLoss_flags _ _ _ _ _ (by omega) (by cases a <;> decide)]
    exact .inr (.inl ⟨hr, rfl⟩)
  · refine ⟨?_, hhpt (by rw [hf]; decide) (by rw [hf]; decide), hlcu (by rw [hf]; decide)⟩
    rw [hphu (by rw [hf]; decide), Four.get_set_self, PhaseUnit.unlocked_faulted hf hfault]

/-- Settles O57: the checks of SET_LINK, and by the link state what a changed delay or a timeout that has passed brings about. -/
theorem setLinkWritesAndDrops : Obligations.SetLinkWritesAndDrops := by
  intro s a limit timeout d1 d0 extra u hu
  refine ⟨s.writeLink (quadAt a) limit.toNat timeout.toNat (bytesToNat [d1, d0]), ?_, ?_⟩
  · refine congrArg Host.Outcome.next (State.hostCommand_checked rfl (by decide) ?_ (by simp))
    have ht : timeout.toNat ≤ 255 := by omega
    simp only [setLinkBlock, quadOf_eq, natIn, bytesToNat_singleton]
    split
    · rename_i ha hl hto hd
      simp only [Option.ite_none_right_eq_some, Option.some.injEq] at ha hl hto hd
      obtain ⟨ha, rfl⟩ := ha
      obtain ⟨hl, rfl⟩ := hl
      obtain ⟨hto, rfl⟩ := hto
      obtain ⟨hd, rfl⟩ := hd
      rw [if_pos ⟨ha, hl.1, hl.2, hto.1, hd.2⟩]
    · rename_i h
      rw [if_neg]
      rintro ⟨ha, hl1, hl7, hto, hd⟩
      exact h _ _ _ _ (if_pos ha) (if_pos ⟨hl1, hl7⟩) (if_pos ⟨hto, ht⟩) (if_pos ⟨Nat.zero_le _, hd⟩)
  have hr : u.slr.get (quadAt a) = { s.slr.get (quadAt a) with
      badRunLimit := limit.toNat, linkTimeout := timeout.toNat, sampleDelay := bytesToNat [d1, d0] } := by simp [hu]
  have hdue : u.silenceDue (quadAt a) = ranOut s.tick (s.slr.get (quadAt a)).silence (timeout.toNat * 100) := by
    rw [State.silenceDue_eq, hr, hu]
    rfl
  have hwrite : s.writeLink (quadAt a) limit.toNat timeout.toNat (bytesToNat [d1, d0]) =
      if (s.slr.get (quadAt a)).sampleDelay ≠ bytesToNat [d1, d0] ∨
        ranOut s.tick (s.slr.get (quadAt a)).silence (timeout.toNat * 100) = true then u.dropLink (quadAt a) s.tick else u := by
    rw [← hdue, hu]
    simp [State.writeLink, State.modSlr_eq_withSlr]
  rw [hwrite]
  refine ⟨fun hd hto => if_neg (by simp [hd, hto]), fun hdrop => ?_⟩
  rw [if_pos hdrop]
  refine ⟨fun hl => State.dropLink_down (by rw [hr]; exact hl) _, fun hl => ?_, fun w hl hw => ?_⟩
  · rw [State.dropLink_acquiring (by rw [hr]; exact hl)]
    rfl
  have hv : u.dropLink (quadAt a) s.tick = w.lockLost (quadAt a) s.tick := by
    rw [State.dropLink_locked (by rw [hr]; exact hl), hw]
    rfl
  have hws : w = withSlr s (quadAt a) (u.slr.get (quadAt a)).lost := by
    rw [hw, hu, withSlr_withSlr]
    rfl
  rw [hv]
  refine ⟨by simp, fun ho => State.lockLost_off (by rw [hws]; exact ho) _, fun hn => ⟨?_, ?_⟩⟩
  · rw [show s.tick = w.tick by rw [hws]; rfl]
    exact State.lockLost_eq_lockLostAt (by rw [hws]; exact hn)
  · rw [hws]
    exact s.lockLost_taken _ _ hn

end Sys2Proof.Proofs

namespace Sys2Proof.Machine

open Sys2Proof.Claims

/-! ## Samples that anchor, and samples that are LOW (R22, R24, R26) -/

theorem PhaseUnit.isLow_iff (p : PhaseUnit) (x : Corrected) :
    p.isLow x = true ↔ x.r2 = 0 ∨ x.r2 < (p.ampLow : Int) * p.ampLow := by
  simp [PhaseUnit.isLow]

theorem State.takeSample_low {s : State} {a : Axis} {f : SampleFields}
    (h : (s.phu.get a).isLow (correctPair (s.phu.get a).correction f.sin f.cos) = true) (t : Tick) :
    s.takeSample a f t = s.takeNotice a .low 1 t := by
  simp [State.takeSample, h]

theorem State.takeSample_notLow {s : State} {a : Axis} {f : SampleFields} {x : Corrected}
    (hx : x = correctPair (s.phu.get a).correction f.sin f.cos) (h : (s.phu.get a).isLow x = false) (t : Tick) :
    s.takeSample a f t = (s.modPhu a (fun u =>
      { u with saturated := u.saturated || (x.clamped || (s.phu.get a).isHigh x || f.clip) })).takePhase a f.mark
        (phaseOf x.s1 x.c2) t := by
  subst hx
  simp [State.takeSample, h]

theorem State.enterSample_phu (s : State) (a : Axis) (t : Tick) (k : SampleKind) :
    (s.enterSample a t k).phu = s.phu.set a { s.phu.get a with
      history := enterHistory (s.phu.get a).history ((s.phu.get a).entryAt t k) } := by
  simp [State.enterSample, State.pushHistory]

theorem State.takePhase_anchor {s : State} {a : Axis} (h : (s.phu.get a).pRef = none) (mark : Bool) (p : BitVec 9) (t : Tick) :
    s.takePhase a mark p t = s.anchorSample a p t := by
  simp [State.takePhase, h]

theorem State.anchorSample_phu (s : State) (a : Axis) (p : BitVec 9) (t : Tick) :
    (s.anchorSample a p t).phu = s.phu.set a { (s.phu.get a).clearMissing with
      pRef := some p, realRun := 1
      history := enterHistory (s.phu.get a).history ((s.phu.get a).entryAt t .real) } := by
  simp [State.anchorSample, State.enterSample_phu, PhaseUnit.clearMissing, PhaseUnit.entryAt]

/-! ## An axis stays out of OFF through a notice -/

theorem State.integrityLoss_on {s : State} {a : Axis} (h : (s.phu.get a).state ≠ .off) (c : Cause) (t : Tick) (v : Int) :
    ((s.integrityLoss a c t v).phu.get a).state ≠ .off := by
  rw [State.integrityLoss_phu, Four.get_set_self]
  exact mt (PhaseUnit.lose_off_iff _ _ _ _).mp h

theorem State.bridgeSample_on {s : State} {a : Axis} (h : (s.phu.get a).state ≠ .off) (tn t : Tick) :
    ((s.bridgeSample a tn t).phu.get a).state ≠ .off := by
  simp only [State.bridgeSample, State.enterSample_phu, Four.get_set_self, State.modPhu_phu, State.rangeLoss]
  split
  · exact State.integrityLoss_on h _ _ _
  · exact h

theorem State.bridgeSamples_on {a : Axis} (tn : Tick) (ts : List Tick) :
    ∀ {s : State}, (s.phu.get a).state ≠ .off → ((s.bridgeSamples a tn ts).phu.get a).state ≠ .off := by
  induction ts with
  | nil => exact id
  | cons t ts ih => exact fun h => ih (State.bridgeSample_on h tn t)

theorem State.takeNotice_on {s : State} {a : Axis} (h : (s.phu.get a).state ≠ .off) (r : MissingReason) (g : Nat) (tn : Tick) :
    ((s.takeNotice a r g tn).phu.get a).state ≠ .off := by
  unfold State.takeNotice
  split
  · simpa using State.bridgeSamples_on tn _ h
  · exact State.integrityLoss_on (by simpa [PhaseUnit.clearMissing] using h) _ _ _

end Sys2Proof.Machine

namespace Sys2Proof.Proofs

open Sys2Proof.Machine Sys2Proof.Claims

/-- After a tracking restart the first sample that is not LOW anchors (R19, R26). -/
theorem takeSample_after_restart {s : State} {a : Axis} {f : SampleFields} {x : Corrected} {p : PhaseUnit} (tn : Tick)
    (hp : s.phu.get a = { restarted p with lockView := true }) (hx : x = correctPair p.correction f.sin f.cos)
    (h0 : x.r2 ≠ 0) (hlow : (p.ampLow : Int) * p.ampLow ≤ x.r2) :
    ∃ sat, (s.takeSample a f tn).phu.get a = { restarted p with
      lockView := true, saturated := sat, pRef := some (phaseOf x.s1 x.c2), realRun := 1
      history := [{ instant := tn, acc := p.acc, kind := .real, epoch := p.epoch }] } := by
  have hl : (s.phu.get a).isLow x = false := by
    rw [← Bool.not_eq_true, PhaseUnit.isLow_iff, hp]
    simp only [restarted]
    omega
  rw [State.takeSample_notLow (by rw [hp]; exact hx) hl, State.takePhase_anchor (by simp [hp, restarted]),
    State.anchorSample_phu, Four.get_set_self, State.modPhu_phu, Four.get_set_self, hp]
  exact ⟨_, rfl⟩

/-- Settles O23: each class of frame with its hand-off to an axis that is not OFF. -/
theorem framesHandOverToTheAxis : Obligations.FramesHandOverToTheAxis := by
  rintro s a bits _ _ hon rfl rfl
  have htn : s.frameInstant a = s.tick - BitVec.ofNat 48 (s.slr.get a).sampleDelay := rfl
  rw [← htn]
  refine ⟨fun f u hf hl hrun hseq hu => ⟨?_, fun x hx h0 hlow => ?_⟩, fun f u hf hl hseq hu => ?_,
    fun f last g v hf hl hlast hg h1 h31 hv => ?_, fun last hb hl hlast hbad => ?_,
    fun f last hf hl hlast h32 hbad => ⟨fun h63 => ?_, fun h63 => ?_⟩, fun last hb hl hlast hbad => ?_,
    fun f x hx hlow => ?_⟩
  · have gained : contributed ((withSlr s a { s.slr.get a with
        link := .locked, goodRun := 16, badRun := 0, lastSeq := some f.seq, silence := some s.tick,
        goodFrames := (s.slr.get a).goodFrames + 1 }).lockGained a) a 1 = u := by
      simp only [State.lockGained, State.isOff, withSlr_frame, beq_iff_eq, hon, if_false, hu]
      rfl
    rw [exec_sampleFrame, State.takeFrame_sixteenth hf hl hrun hseq, gained,
      State.handSample_on (by simpa [hu, withPhu, restarted] using hon)]
  · obtain ⟨sat, e⟩ := takeSample_after_restart (s := u) (a := a) (s.frameInstant a) (by simp [hu, withPhu]) hx h0 hlow
    rw [e]
    exact ⟨rfl, rfl, rfl, rfl, rfl, rfl, rfl, rfl⟩
  · rw [exec_sampleFrame, State.takeFrame_inSequence hf hl hseq (by simp), State.handSample_on (by exact hon), hu]
  · rw [exec_sampleFrame, State.takeFrame_gap hf hl hlast hg.symm h1 h31, State.handNotice_on (by exact hon), ← hv,
      State.acceptSample_eq, State.handSample_on]
    · simp [State.frameInstant, hv]
    · rw [hv]
      exact State.takeNotice_on (by exact hon) _ _ _
  · rw [exec_sampleFrame, State.takeFrame_bad hb, State.badFrame_locked hl,
      State.badInLocked_below (by simpa [Receiver.bad] using hbad),
      State.occupyPosition_next (last := last) (by simpa [Receiver.bad] using hlast), State.handNotice_on (by exact hon)]
    simp [Receiver.bad, State.frameInstant]
  · rw [exec_sampleFrame, State.takeFrame_outOfOrder hf hl hlast h32, State.badInLocked_below (by simpa using hbad),
      beq_eq_false_iff_ne.mpr h63, State.occupyPosition_next (last := last) (by simpa using hlast),
      State.handNotice_on (by exact hon)]
    simp [State.frameInstant]
  · rw [exec_sampleFrame, State.takeFrame_outOfOrder hf hl hlast h32, State.badInLocked_below (by simpa using hbad),
      beq_iff_eq.mpr h63, State.occupyPosition_duplicate]
    simp
  · obtain ⟨r, ht, hr⟩ : ∃ r : Receiver, s.takeFrame a bits = (withSlr s a r.lost).lockLost a s.tick ∧
        r.lockLosses = (s.slr.get a).lockLosses := by
      rcases hb with hb | ⟨f, hf, h32⟩
      · refine ⟨(s.slr.get a).bad, ?_, rfl⟩
        rw [State.takeFrame_bad hb, State.badFrame_locked hl, State.badInLocked_limit (by simpa [Receiver.bad] using hbad),
          State.loseLock_eq]
        simp
      · refine ⟨{ s.slr.get a with
          goodFrames := (s.slr.get a).goodFrames + 1, outOfOrder := min 65535 ((s.slr.get a).outOfOrder + 1) }, ?_, rfl⟩
        rw [State.takeFrame_outOfOrder hf hl hlast h32, State.badInLocked_limit (by simpa using hbad), State.loseLock_eq]
        simp
    have hget : ((withSlr s a r.lost).lockLost a s.tick).slr.get a = r.lost := by simp
    refine ⟨_, by rw [exec_sampleFrame, ht], s.lockLost_taken a _ hon, ?_, ?_⟩
    · rw [hget]
      exact State.lockLost_eq_lockLostAt (by exact hon)
    · rw [hget, ← hr]
      exact ⟨rfl, rfl, rfl, rfl⟩
  · exact State.takeSample_low ((PhaseUnit.isLow_iff _ _).mpr (hx ▸ hlow)) _

end Sys2Proof.Proofs

namespace Sys2Proof.Machine

open Sys2Proof.Claims

/-! ## The events that time brings (R12, R72, R78, R80, R91, R92, R119, R131, R142, R143, R145, R154, R157, R164) -/

theorem passed_iff (now start : Tick) (period : Nat) : passed now start period = true ↔ hasPassed now start period := by
  simp [passed, elapsed]

/-- No two characters that follow each other began more than 4 character times apart (R72). -/
theorem unbroken_iff (chars : List CondChar) :
    unbroken chars = true ↔
      ∀ (k : Nat) (x y : CondChar), chars[k]? = some x → chars[k + 1]? = some y → (y.began - x.began).toInt ≤ 34722 := by
  induction chars with
  | nil => simp [unbroken]
  | cons a rest ih =>
    cases rest with
    | nil => simp [unbroken]
    | cons b rest =>
      rw [unbroken, Bool.and_eq_true, ih, decide_eq_true_iff]
      constructor
      · rintro ⟨hab, hrest⟩ k x y hx hy
        cases k with
        | zero =>
          simp only [List.getElem?_cons_zero, List.getElem?_cons_succ, Option.some.injEq] at hx hy
          subst hx hy
          exact hab
        | succ k => exact hrest k x y hx hy
      · exact fun h => ⟨h 0 a b rfl rfl, fun k x y hx hy => h (k + 1) x y hx hy⟩

theorem frameEnded_iff (now : Tick) (chars : List CondChar) : frameEnded now chars = true ↔ frameHasEnded now chars := by
  unfold frameEnded frameHasEnded
  rw [← unbroken_iff]
  cases chars.getLast? with
  | none => simp
  | some c => simp [elapsed, Config.conditionsGapTicks, and_comm]

theorem State.silentSince_iff (s : State) (began : Tick) : s.silentSince began = true ↔ isSilent s began := by
  simp [State.silentSince, isSilent, MicroLink.silenceTicks, elapsed]

theorem State.gapDiscardDue_iff (s : State) :
    s.gapDiscardDue = true ↔ ∃ chars began, s.msl.rx = .assembling chars began ∧ isSilent s began := by
  unfold State.gapDiscardDue
  cases s.msl.rx <;> simp [State.silentSince_iff]

theorem State.silenceWaitDue_iff (s : State) :
    s.silenceWaitDue = true ↔ ∃ began, s.msl.rx = .waiting began ∧ isSilent s began := by
  unfold State.silenceWaitDue
  cases s.msl.rx <;> simp [State.silentSince_iff]

theorem State.messageDue_iff (s : State) : s.messageDue = true ↔ dueNow s .messageSent := by
  unfold State.messageDue dueNow
  cases s.msl.out with
  | nil => cases s.msl.tx <;> simp
  | cons m rest =>
    cases s.msl.tx <;> simp [passed, elapsed, Config.microCharBits, Config.ticksPerSecond]

theorem State.pulseDue_iff (s : State) : s.pulseDue = true ↔ dueNow s .pulseTimerExpiry := by
  unfold State.pulseDue dueNow
  cases s.alc.state <;> simp [passed_iff, Alert.pulseTicks, Config.ticksPerMicrosecond]

theorem State.gapDue_iff (s : State) : s.gapDue = true ↔ dueNow s .gapTimerExpiry := by
  unfold State.gapDue dueNow
  cases s.alc.state <;> simp [passed_iff, Alert.pulseTicks, Config.ticksPerMicrosecond]

theorem State.minimumDue_iff (s : State) : s.minimumDue = true ↔ dueNow s .minimumLevelExpiry := by
  unfold State.minimumDue dueNow
  cases s.alc.state with
  | level ended => cases ended <;> simp [passed_iff, Alert.levelTicks, Config.ticksPerMicrosecond]
  | _ => simp

theorem State.responseDue_iff (s : State) : s.responseDue = true ↔ dueNow s .responseReady := by
  unfold State.responseDue dueNow
  cases s.hpt.response <;> simp [passed_iff, Config.responseLatencyMax]

theorem dueIf_eq_some {b : Bool} {c d : Instr} : dueIf b c = some d ↔ b = true ∧ c = d := by
  cases b <;> simp [dueIf]

/-- The list of due events holds exactly the events whose timers have run out. -/
theorem State.mem_dueEvents (s : State) (c : Instr) : some c ∈ s.dueEvents ↔ dueNow s c := by
  have stale : s.staleDue = true ↔ dueNow s .stalenessTimerExpiry := by
    rw [State.staleDue, timerDue_eq_ranOut]; rfl
  have k : s.kDue = true ↔ dueNow s .kComputationComplete := by
    rw [State.kDue, timerDue_eq_ranOut]; rfl
  have watch : s.watchDue = true ↔ dueNow s .syncWatchExpiry := by
    rw [State.watchDue, timerDue_eq_ranOut]; rfl
  have timer : s.frameTimerDue = true ↔ dueNow s .frameTimerExpiry := by
    rw [State.frameTimerDue, timerDue_eq_ranOut]; rfl
  have capture : s.captureDue = true ↔ dueNow s .captureTimeoutExpiry := by
    rw [State.captureDue, timerDue_eq_ranOut]; rfl
  have silence a : s.silenceDue a = true ↔ dueNow s (.silenceTimerExpiry a) := by
    rw [State.silenceDue_eq]; rfl
  have dead i : s.deadTimeDue i = true ↔ dueNow s (.deadTimeEnd i) := by
    rw [State.deadTimeDue, timerDue_eq_ranOut]; rfl
  have frame : s.frameDue = true ↔ frameHasEnded s.tick s.cmu.frame := frameEnded_iff _ _
  have gapDiscard : s.gapDiscardDue = true ↔ dueNow s .gapDiscard := s.gapDiscardDue_iff
  have silenceWait : s.silenceWaitDue = true ↔ dueNow s .silenceWaitEnd := s.silenceWaitDue_iff
  simp only [State.dueEvents, List.mem_cons, List.not_mem_nil, or_false, eq_comm (a := some c), dueIf_eq_some,
    stale, k, watch, timer, capture, silence, dead, frame, gapDiscard, silenceWait, s.messageDue_iff, s.pulseDue_iff,
    s.gapDue_iff, s.minimumDue_iff, s.responseDue_iff]
  constructor
  · rintro (⟨h, rfl⟩ | ⟨h, rfl⟩ | ⟨h, rfl⟩ | ⟨h, rfl⟩ | ⟨h, rfl⟩ | ⟨h, rfl⟩ | ⟨h, rfl⟩ | ⟨h, rfl⟩ | ⟨h, rfl⟩ | ⟨h, rfl⟩ |
      ⟨h, rfl⟩ | ⟨h, rfl⟩ | ⟨h, rfl⟩ | ⟨h, rfl⟩ | ⟨h, rfl⟩ | ⟨h, rfl⟩ | ⟨h, rfl⟩ | ⟨h, rfl⟩ | ⟨h, rfl⟩)
    case inr.inr.inr.inr.inr.inl => exact ⟨rfl, h⟩
    all_goals exact h
  · intro h
    cases c with
    | silenceTimerExpiry a => cases a <;> simp [h]
    | deadTimeEnd i => cases i <;> simp [h]
    | conditionsFrame chars =>
      obtain ⟨rfl, h⟩ := h
      simp [h]
    | stalenessTimerExpiry | kComputationComplete | syncWatchExpiry | frameTimerExpiry | captureTimeoutExpiry
    | gapDiscard | silenceWaitEnd | messageSent | pulseTimerExpiry | gapTimerExpiry | minimumLevelExpiry
    | responseReady => simp [h]
    | _ => exact h.elim

end Sys2Proof.Machine

namespace Sys2Proof.Proofs

open Sys2Proof.Machine Sys2Proof.Claims

/-- Settles O2: the events found due are those whose timers have run out. -/
theorem idleStepTakesDueEventOrTick : Obligations.IdleStepTakesDueEventOrTick := by
  intro s hp
  have idle : step s = idleStep s := by simp [step, hp]
  refine ⟨fun c hc => ⟨?_, ?_⟩, ?_, fun hn e rest hl => ?_, fun hn hl => ?_⟩
  · obtain ⟨o, ho, rfl⟩ := List.exists_of_findSome?_eq_some hc
    exact (s.mem_dueEvents c).mp ho
  · rw [idle, idleStep, hc]
  · rw [State.dueEvent, List.findSome?_eq_none_iff]
    constructor
    · exact fun h c hc => by cases h _ ((s.mem_dueEvents c).mpr hc)
    · intro h o ho
      cases o with
      | none => rfl
      | some c => exact absurd ((s.mem_dueEvents c).mp ho) (h c)
  · rw [idle, idleStep, hn, hl]
    rfl
  · rw [idle, idleStep, hn]
    simp only [hl, State.advanceTick]

end Sys2Proof.Proofs

namespace Sys2Proof.Machine

open Sys2Proof.Claims

/-! ## The line events of a sample link (R2, R17) -/

theorem lineStep_sampleStart (s : State) (a : Axis) :
    lineStep (.sampleStart a) s = .next (withSlr s a { s.slr.get a with frame := some [] }) := rfl

theorem lineStep_sampleBit (s : State) (a : Axis) (b : Bool) :
    lineStep (.sampleBit a b) s =
      .next (withSlr s a { s.slr.get a with frame := (s.slr.get a).frame.map (fun bits => bits ++ [b]) }) := rfl

theorem lineStep_sampleEnd_of_some {s : State} {a : Axis} {bits : List Bool} (h : (s.slr.get a).frame = some bits) :
    lineStep (.sampleEnd a) s = exec (.sampleFrame a bits) (withSlr s a { s.slr.get a with frame := none }) := by
  simp only [lineStep, State.takeLine, State.endSampleFrame, h, Option.map_some, State.modSlr_eq_withSlr]

/-- Outside a frame, taking the frame away leaves the state as it is. -/
theorem withSlr_noFrame {s : State} {a : Axis} (h : (s.slr.get a).frame = none) :
    withSlr s a { s.slr.get a with frame := none } = s := by
  conv_rhs => rw [← withSlr_get s a]
  rw [← h]

theorem lineStep_sampleEnd_of_none {s : State} {a : Axis} (h : (s.slr.get a).frame = none) :
    lineStep (.sampleEnd a) s = .next s := by
  simp only [lineStep, State.takeLine, State.endSampleFrame, h, Option.map_none, State.modSlr_eq_withSlr, withSlr_noFrame h]

/-! ## Bits and the numbers they spell -/

@[simp] theorem natBits_length (w v : Nat) : (natBits w v).length = w := by
  induction w with
  | zero => rfl
  | succ w ih => simp [natBits, ih]

@[simp] theorem intBits_length (w : Nat) (v : Int) : (intBits w v).length = w := natBits_length w _

/-- The bits of a number are its binary digits, most significant first. -/
theorem natBits_eq_field (w v : Nat) : natBits w v = field w v := by
  induction w with
  | zero => rfl
  | succ w ih =>
    simp only [natBits, ih, field, List.range_succ_eq_map, List.map_cons, List.map_map, Nat.add_sub_cancel, Nat.sub_zero,
      List.cons.injEq, true_and]
    exact List.map_congr_left fun i _ => by simp only [Function.comp_apply, Nat.succ_eq_add_one, Nat.sub_sub, Nat.add_comm 1 i]

theorem intBits_eq_signedField (w : Nat) (v : Int) : intBits w v = signedField w v := natBits_eq_field w _

/-- A number spelled before other bits weighs 2 to the power of their count. -/
theorem foldl_bits_eq (bits : List Bool) (n : Nat) :
    bits.foldl (fun n b => 2 * n + b.toNat) n = n * 2 ^ bits.length + bitsToNat bits := by
  induction bits generalizing n with
  | nil => simp [bitsToNat]
  | cons b rest ih =>
    rw [bitsToNat, List.foldl_cons, List.foldl_cons, ih, ih, List.length_cons, pow_succ]
    ring

theorem bitsToNat_cons (b : Bool) (rest : List Bool) : bitsToNat (b :: rest) = b.toNat * 2 ^ rest.length + bitsToNat rest := by
  rw [← foldl_bits_eq, bitsToNat, List.foldl_cons, Nat.mul_zero, Nat.zero_add]

@[simp] theorem bitsToNat_natBits (w v : Nat) : bitsToNat (natBits w v) = v % 2 ^ w := by
  induction w with
  | zero => simp [natBits, bitsToNat, Nat.mod_one]
  | succ w ih =>
    rw [natBits, bitsToNat_cons, natBits_length, ih, Nat.toNat_testBit, Nat.mod_pow_succ, Nat.mul_comm, Nat.add_comm]

/-- A signed number of `w` bits is read back from its bits. -/
theorem bitsToInt_intBits {w : Nat} {v : Int} (hw : 0 < w) (low : -2 ^ (w - 1) ≤ v) (high : v < 2 ^ (w - 1)) :
    bitsToInt w (intBits w v) = v := by
  rw [bitsToInt, intBits, bitsToNat_natBits, Nat.mod_eq_of_lt (BitVec.isLt _), BitVec.ofNat_toNat, BitVec.setWidth_eq,
    BitVec.toInt_ofInt_eq_self hw low high]

/-! ## One inverted bit -/

/-- A fold that is injective in its state, and tells the two values of a bit apart, tells a list from the list with one bit
inverted. -/
theorem foldl_ne_of_inverted {α : Type} {f : α → Bool → α} (inj : ∀ b, Function.Injective (f · b))
    (apart : ∀ r b, f r (!b) ≠ f r b) {bits : List Bool} {i : Nat} (h : i < bits.length) (r : α) :
    (bits.set i (!(bits.getD i false))).foldl f r ≠ bits.foldl f r := by
  have fold_inj (rest : List Bool) {p q : α} (hpq : rest.foldl f p = rest.foldl f q) : p = q := by
    induction rest generalizing p q with
    | nil => exact hpq
    | cons b rest ih => exact inj b (ih hpq)
  induction bits generalizing i r with
  | nil => exact absurd h (Nat.not_lt_zero i)
  | cons b rest ih =>
    cases i with
    | zero => exact fun hpq => apart r b (fold_inj rest hpq)
    | succ i => exact ih (Nat.lt_of_succ_lt_succ h) _

theorem bitsToNat_ne_of_inverted {bits : List Bool} {i : Nat} (h : i < bits.length) :
    bitsToNat (bits.set i (!(bits.getD i false))) ≠ bitsToNat bits :=
  foldl_ne_of_inverted (fun b m n h => by simpa using h) (fun n b => by cases b <;> simp) h 0

/-- The low bit after a step says whether the bit taken differed from the top bit. -/
theorem crcBit_getLsbD_zero (r : BitVec 8) (b : Bool) : (crcBit r b).getLsbD 0 = (r.msb ^^ b) := by
  unfold crcBit
  cases r.msb <;> cases b <;> simp

theorem shiftLeft_one_inj {p q : BitVec 8} (hmsb : p.msb = q.msb) (h : p <<< 1 = q <<< 1) : p = q := by
  rw [BitVec.msb_eq_decide, BitVec.msb_eq_decide, decide_eq_decide] at hmsb
  bv_omega

theorem crcBit_injective (b : Bool) : Function.Injective (crcBit · b) := by
  intro p q h
  have hmsb : p.msb = q.msb := by
    have low := congrArg (BitVec.getLsbD · 0) h
    simpa only [crcBit_getLsbD_zero, Bool.xor_left_inj] using low
  refine shiftLeft_one_inj hmsb ?_
  simp only [crcBit, hmsb] at h
  split at h
  · exact h
  · simpa using h

theorem crcBit_apart (r : BitVec 8) (b : Bool) : crcBit r (!b) ≠ crcBit r b := by
  intro h
  have low := congrArg (BitVec.getLsbD · 0) h
  simp only [crcBit_getLsbD_zero] at low
  simp at low

theorem crc8_ne_of_inverted {bits : List Bool} {i : Nat} (h : i < bits.length) :
    crc8 (bits.set i (!(bits.getD i false))) ≠ crc8 bits :=
  foldl_ne_of_inverted crcBit_injective crcBit_apart h 0

theorem crc8_append (bits : List Bool) (b : Bool) :
    crc8 (bits ++ [b]) =
      if (crc8 bits).getLsbD 7 = b then crc8 bits <<< 1 else (crc8 bits <<< 1) ^^^ 0x07 := by
  simp [crc8, crcBit, BitVec.msb_eq_getLsbD_last]

/-- The check value of the CRC, for the characters 1 to 9 (R174). -/
theorem crc8_checkValue : crc8 (bytesToBits [0x31, 0x32, 0x33, 0x34, 0x35, 0x36, 0x37, 0x38, 0x39]) = 0xF4 := by
  simp [bytesToBits, natBits, Nat.testBit, crc8, crcBit, BitVec.msb_eq_decide]

/-! ## The sample frame (R2, R3) -/

@[simp] theorem samplePayload_length (f : SampleFields) : (samplePayload f).length = 40 := by simp [samplePayload]

/-- A list of 40 bits and 8 more is a good frame exactly when the 8 spell the CRC of the 40. -/
theorem parseSample_isSome_iff {payload sent : List Bool} (hp : payload.length = 40) (hs : sent.length = 8) :
    (parseSample (payload ++ sent)).isSome ↔ (crc8 payload).toNat = bitsToNat sent := by
  unfold parseSample
  rw [List.take_left' hp, List.drop_left' hp]
  split <;> simp_all

theorem parseSample_length {bits : List Bool} (h : (parseSample bits).isSome) : bits.length = 48 := by
  unfold parseSample at h
  split at h
  · next good => exact good.1
  · exact absurd h nofun

/-- A frame is read back as the fields it carries. -/
theorem parseSample_sampleBits {f : SampleFields} (hs : -32768 ≤ f.sin ∧ f.sin ≤ 32767) (hc : -32768 ≤ f.cos ∧ f.cos ≤ 32767) :
    parseSample (sampleBits f) = some f := by
  have good : (parseSample (sampleBits f)).isSome := by
    rw [sampleBits, parseSample_isSome_iff (samplePayload_length f) (natBits_length 8 _), bitsToNat_natBits,
      Nat.mod_eq_of_lt (crc8 (samplePayload f)).isLt]
  obtain ⟨g, hg⟩ := Option.isSome_iff_exists.mp good
  rw [hg]
  unfold parseSample at hg
  split at hg
  case isFalse => exact absurd hg nofun
  have sin := bitsToInt_intBits (w := 16) (v := f.sin) (by omega) (by omega) (by omega)
  have cos := bitsToInt_intBits (w := 16) (v := f.cos) (by omega) (by omega) (by omega)
  have seq : f.seq.toNat % 64 = f.seq.toNat := Nat.mod_eq_of_lt f.seq.isLt
  have past : (intBits 16 f.sin).drop 32 = [] := List.drop_of_length_le (by simp)
  rw [← hg]
  simp [sampleBits, samplePayload, List.drop_append, sin, cos, seq, past]

/-- One inverted bit makes a good frame a bad one: before the CRC it changes the CRC of the payload, in it the CRC sent. -/
theorem parseSample_inverted {bits : List Bool} {f : SampleFields} {i : Nat} (h : parseSample bits = some f) (hi : i < 48) :
    parseSample (bits.set i (!(bits.getD i false))) = none := by
  have hlen := parseSample_length (Option.isSome_of_eq_some h)
  obtain ⟨payload, sent, rfl, hp, hs⟩ : ∃ payload sent, bits = payload ++ sent ∧ payload.length = 40 ∧ sent.length = 8 :=
    ⟨bits.take 40, bits.drop 40, (List.take_append_drop 40 bits).symm, by simp [hlen], by simp [hlen]⟩
  have good := (parseSample_isSome_iff hp hs).mp (Option.isSome_of_eq_some h)
  rw [← Option.not_isSome_iff_eq_none, List.set_append]
  split
  next hi40 =>
    rw [List.getD_append _ _ _ _ hi40, parseSample_isSome_iff (by simp [hp]) hs, ← good, BitVec.toNat_inj]
    exact crc8_ne_of_inverted hi40
  next hi40 =>
    rw [List.getD_append_right _ _ _ _ (by omega), parseSample_isSome_iff hp (by simp [hs]), good]
    exact (bitsToNat_ne_of_inverted (by omega)).symm

end Sys2Proof.Machine

namespace Sys2Proof.Proofs

open Sys2Proof.Machine Sys2Proof.Claims

/-- Settles O16: the line events, the CRC, the round trip of a frame, and a CRC that tells every single inverted bit. -/
theorem sampleFramesCarryTheirFields : Obligations.SampleFramesCarryTheirFields := by
  refine ⟨fun s a => ⟨lineStep_sampleStart s a, fun bits h => ⟨fun b => ?_, lineStep_sampleEnd_of_some h⟩,
    fun h => ⟨fun b => ?_, lineStep_sampleEnd_of_none h⟩, fun low t h => ?_⟩, rfl, crc8_append, crc8_checkValue, fun f payload h => ?_,
    fun f s₀ s₁ c₀ c₁ => ⟨by simp [sampleBits], parseSample_sampleBits ⟨s₀, s₁⟩ ⟨c₀, c₁⟩⟩,
    fun bits f i => parseSample_inverted⟩
  · rw [lineStep_sampleBit, h]; rfl
  · rw [lineStep_sampleBit, h, Option.map_none, withSlr_noFrame h]
  · cases h
    cases a <;> rfl
  · simp only [sampleBits, samplePayload, natBits_eq_field, intBits_eq_signedField, h]

end Sys2Proof.Proofs

namespace Sys2Proof.Machine

open Sys2Proof.Claims

/-! ## READ commands with a clear option (R15, R79, R139, R160, R175) -/

theorem boolOf_eq (b : Byte) : boolOf b = if b.toNat ≤ 1 then some (b == 1) else none := by
  unfold boolOf
  split
  case h_1 h => obtain rfl : b = 0 := BitVec.eq_of_toNat_eq h; rfl
  case h_2 h => obtain rfl : b = 1 := BitVec.eq_of_toNat_eq h; rfl
  case h_3 h0 h1 =>
    have : b.toNat ≠ 0 ∧ b.toNat ≠ 1 := ⟨h0, h1⟩
    rw [if_neg (by omega)]

theorem byteOf_eq_one (v : Nat) : byteOf v = one v := rfl

theorem optBytes_eq_maybe {α : Type} (width : Nat) (enc : α → List Byte) (o : Option α) :
    optBytes width enc o = maybe width (o.map enc) := by
  cases o <;> rfl

theorem listBytes_eq_counted {α : Type} (enc : α → List Byte) (xs : List α) : listBytes enc xs = counted (xs.map enc) := by
  simp [listBytes, counted, byteOf, List.flatMap]

theorem Four.toList_flatMap {α β : Type} (f : Four α) (g : α → List β) :
    f.toList.flatMap g = four.flatMap (fun i => g (f.get i)) := rfl

/-- A command whose only parameter is the clear option answers as its block does, or is refused BAD_VALUE. -/
theorem State.hostCommand_clear {s : State} {code : Byte} (c : Byte) (extra : List Byte) {act : State → Bool → Reply × State}
    {data : List Byte} {cleared : State} (ht : cleared.tick = s.tick) (h : act s (c == 1) = (.ok data, if c = 1 then cleared else s)) :
    s.hostCommand code 1 (frame [c] extra) (clearCommand act) =
      taken s (if c.toNat ≤ 1 then accepted s code data (if c = 1 then cleared else s) else refused s code .badValue) := by
  rw [State.hostCommand_frame (n := 1) s code [c] extra _ rfl (by decide)]
  simp only [clearCommand, boolOf_eq]
  by_cases hc : c.toNat ≤ 1
  · simp only [hc, if_true, h]
    rw [State.answer_ok (by split; exacts [ht, rfl])]
  · simp only [hc, if_false, State.refuse, State.answer_refused]

theorem kSetBytes_eq : kSetBytes = fun k => four.flatMap (fun a => natBytes 4 (k.get a)) := rfl

theorem Compensation.bytes_eq (x : Compensation) : x.bytes = conditionsData x := by
  delta Compensation.bytes conditionsData
  simp only [kSetBytes_eq, optBytes_eq_maybe, Four.toList_flatMap]
  rfl

theorem exec_readConditions (s : State) (c : Byte) (extra : List Byte) :
    exec (.readConditions (frame [c] extra)) s = .next (taken s (if c.toNat ≤ 1 then accepted s 0x1B (conditionsData s.cmu)
      (if c = 1 then { s with cmu := { s.cmu with accepted := 0, crcErrors := 0, duplicates := 0 } } else s)
      else refused s 0x1B .badValue)) := by
  refine congrArg Host.Outcome.next (State.hostCommand_clear c extra rfl ?_)
  rw [readConditionsBlock, Compensation.bytes_eq]
  simp [State.modCmu, Compensation.clearCounters]

theorem Status.good_iff (st : Status) : st.good = true ↔ ¬(st ≠ .ok ∧ st ≠ .bridged) := by cases st <;> decide

theorem overflows_iff (limit len : Int) : overflows limit len = true ↔ len < -limit ∨ limit < len := by
  simp only [overflows, inRange, Bool.not_eq_true', Bool.and_eq_false_iff, decide_eq_false_iff_not, Int.not_le]

/-- The outcome of M or W in a capture is its pair's entry (R86, R87, R132). -/
theorem derivedOutcome_eq (c : Capture) {x : Source} (hx : x = .m ∨ x = .w) (s0 s1 : Status) (x0 x1 : Int) :
    derivedOutcome c x s0 s1 x0 x1 = pairEntry c.kset x s0 s1 x0 x1 := by
  have length : length16Of x c.kset (fun a => if a = .q0 then x0 else x1) =
      if x = .m then roundDiv (x0 * c.kset.get .q0 + x1 * c.kset.get .q1) 2097152
      else roundDiv (x0 * c.kset.get .q0 - x1 * c.kset.get .q1) 1048576 := by
    rcases hx with rfl | rfl <;> simp [length16Of, sourceLength]
  unfold derivedOutcome pairEntry
  rw [length]
  simp only [Bool.and_eq_true, Status.good_iff, overflows_iff, lengthMax]
  by_cases h0 : s0 ≠ .ok ∧ s0 ≠ .bridged
  · rw [if_neg (fun h => h.1 h0), if_neg (fun h => h h0), if_pos h0]
  · by_cases h1 : s1 ≠ .ok ∧ s1 ≠ .bridged
    · rw [if_neg (fun h => h.2 h1), if_pos h0, if_neg h0, if_pos h1]
    · rw [if_pos ⟨h0, h1⟩, if_neg h0, if_neg h1]

/-- The status of a source of a capture, absent while it waits. -/
theorem Capture.settledStatus_eq (c : Capture) (x : Source) : settledStatus c x = (c.sourceOutcome x).map Prod.fst := by
  have pair (y : Source) (hy : y = .m ∨ y = .w) : settledStatus c y = match c.outcome .q0, c.outcome .q1 with
      | some o0, some o1 => some (derivedOutcome c y o0.1 o1.1 o0.2.1 o1.2.1).1
      | _, _ => none := by
    simp only [Capture.outcome, derivedOutcome_eq c hy]
    unfold settledStatus
    rcases c.phys.get .q0 with _ | ⟨_, _ | _⟩ <;> rcases c.phys.get .q1 with _ | ⟨_, _ | _⟩ <;>
      rcases hy with rfl | rfl <;> rfl
  cases x with
  | phys a =>
    simp only [settledStatus, Capture.sourceOutcome, Capture.outcome]
    rcases c.phys.get a with _ | ⟨e, p⟩
    · rfl
    · cases p <;> rfl
  | m =>
    rw [pair .m (.inl rfl), Capture.sourceOutcome]
    cases c.outcome .q0 <;> cases c.outcome .q1 <;> rfl
  | w =>
    rw [pair .w (.inr rfl), Capture.sourceOutcome]
    cases c.outcome .q0 <;> cases c.outcome .q1 <;> rfl

/-- The axes a capture follows that are no sources of it are those of A0 and A1 that only M or W needs. -/
theorem follows_and_not_has (m : SourceSet) (a : Axis) :
    (follows m a && !SourceSet.has m (.phys a)) =
      (!m.getLsbD a.toNat && (m.getLsbD 4 || m.getLsbD 5) && (a == .q0 || a == .q1)) := by
  cases a <;> simp [follows, Source.all, SourceSet.has, Source.dependsOn, Source.toNat, Quad.toNat] <;> grind

theorem Capture.members_append_constituents (c : Capture) :
    SourceSet.members c.sources ++ c.constituents = entriesAndConstituents c.sources := by
  have kept : (Quad.all.filter fun a => follows c.sources a && !SourceSet.has c.sources (.phys a)) =
      [Quad.q0, .q1].filter (fun a => !c.sources.getLsbD a.toNat && (c.sources.getLsbD 4 || c.sources.getLsbD 5)) := by
    simp [follows_and_not_has, Quad.all, List.filter_cons]
  rw [Capture.constituents, kept]
  rfl

theorem inputCode_eq (i : TrigInput) : inputCode i = if i = .t0 then 0 else 1 := by cases i <;> rfl

theorem edgeCode_eq (e : EdgeDir) : edgeCode e = if e = .rise then 0 else 1 := by cases e <;> rfl

theorem Origin.code_eq (o : Origin) : o.code = if o = .host then 0 else 1 := by cases o <;> rfl

theorem QueuePolicy.code_eq (p : QueuePolicy) : p.code = if p = .keepOldest then 0 else 1 := by cases p <;> rfl

theorem Context.bytes_eq : Context.bytes = fun c =>
    [one c.sources.toNat, if c.input = .t0 then 0 else 1, c.edge.code] ++ natBytes 2 c.tag.toNat ++
      [one c.count, one c.remaining, flagByte c.standing, flagByte c.echo, if c.origin = .host then 0 else 1] := by
  funext c
  simp only [Context.bytes, inputCode_eq, Origin.code_eq, byteOf_eq_one]

theorem Capture.identBytes_eq : Capture.identBytes = fun c =>
    natBytes 2 c.tag.toNat ++ [if c.origin = .host then 0 else 1, one c.index,
      if c.input = .t0 then 0 else 1, if c.edge = .rise then 0 else 1] ++ natBytes 6 c.tTrig.toNat ++ [c.compGen] := by
  funext c
  simp only [Capture.identBytes, inputCode_eq, edgeCode_eq, Origin.code_eq, byteOf_eq_one]

theorem Capture.entryBytes_eq (c : Capture) (x : Source) :
    entryBytes (c.sourceOutcome x) = maybe 1 ((settledStatus c x).map (fun st => [st.code])) := by
  rw [entryBytes, optBytes_eq_maybe, c.settledStatus_eq, Option.map_map]
  rfl

/-- The list of the entries and constituents of the capture in flight; of none, the empty list. -/
def entriesData (o : Option Capture) : List (List Byte) :=
  match o with
  | some c => (entriesAndConstituents c.sources).map (fun y => maybe 1 ((settledStatus c y).map (fun st => [st.code])))
  | none => []

theorem captureBytes_eq (o : Option Capture) :
    captureBytes o = maybe 13 (o.map Capture.identBytes) ++ counted (entriesData o) := by
  cases o with
  | none => rfl
  | some c =>
    simp only [captureBytes, optBytes_eq_maybe, listBytes_eq_counted, c.members_append_constituents, c.entryBytes_eq, entriesData]

theorem LineCapture.bytes_append_eq (x : LineCapture) (l : MicroLink) : x.bytes ++ l.bytes = captureData x l := by
  delta LineCapture.bytes MicroLink.bytes captureData
  simp only [captureBytes_eq, Capture.identBytes_eq, listBytes_eq_counted,
    Context.bytes_eq, QueuePolicy.code_eq, byteOf_eq_one, Trigger.bytes, List.flatMap_cons, List.flatMap_nil,
    List.append_assoc, List.append_nil]
  rfl

theorem exec_readCaptureState (s : State) (c : Byte) (extra : List Byte) :
    exec (.readCaptureState (frame [c] extra)) s = .next (taken s (if c.toNat ≤ 1 then
      accepted s 0x27 (captureData s.lcu s.msl)
        (if c = 1 then { s with msl := { s.msl with messages := 0, lineErrors := 0, gapDiscards := 0, outDiscards := 0 } }
          else s)
      else refused s 0x27 .badValue)) := by
  refine congrArg Host.Outcome.next (State.hostCommand_clear c extra rfl ?_)
  rw [readCaptureStateBlock, LineCapture.bytes_append_eq]
  simp [State.modMsl, MicroLink.clearCounters]

theorem Monitor.bytes_eq (m : Monitor) :
    m.bytes = [one m.source.toNat] ++ intBytes 6 m.low ++ intBytes 6 m.high ++
      [if m.mode = .tripOutside then 0 else 1, if m.action = .event then 0 else 1, flagByte m.enabled, flagByte m.tripped] := by
  have mode : m.mode.code = if m.mode = .tripOutside then 0 else 1 := by cases m.mode <;> rfl
  have action : m.action.code = if m.action = .event then 0 else 1 := by cases m.action <;> rfl
  rw [Monitor.bytes, mode, action]
  rfl

theorem State.alertBytes_eq (s : State) (low : Bool) : s.alertBytes low = alertData s low s.guardedFaults s.trippedAlerts := by
  simp only [State.alertBytes, alertData, Four.toList_flatMap, Monitor.bytes_eq]
  rfl

theorem exec_readAlertState (s : State) (c : Byte) (low : Bool) (extra : List Byte) :
    exec (.readAlertState (frame [c] extra) low) s = .next (taken s (if c.toNat ≤ 1 then
      accepted s 0x2C (alertData s low s.guardedFaults s.trippedAlerts)
        (if c = 1 then { s with alc := { s.alc with coalesced := 0 } } else s)
      else refused s 0x2C .badValue)) := by
  refine congrArg Host.Outcome.next (State.hostCommand_clear c extra rfl ?_)
  rw [readAlertStateBlock, State.alertBytes_eq]
  simp [State.modAlc]

theorem quadSetOf_has (m : Byte) (i : Quad) : QuadSet.has (BitVec.ofNat 4 m.toNat) i = picks m i := by
  cases i <;> simp [QuadSet.has, picks, Quad.toNat]

theorem nonEmptyQuads_eq (m : Byte) :
    nonEmptyQuads m = if 1 ≤ m.toNat ∧ m.toNat ≤ 15 then some (BitVec.ofNat 4 m.toNat) else none := by
  by_cases h0 : m = 0
  · subst h0; rfl
  · have pos : m.toNat ≠ 0 := fun h => h0 (BitVec.eq_of_toNat_eq h)
    rw [nonEmptyQuads, if_neg h0, quadSetOf]
    exact if_congr (by omega) rfl rfl

/-- The receivers with the counters of those that a mask selects 0, where the option says so (R15). -/
def clearedReceivers (slr : Four Receiver) (m c : Byte) : Four Receiver :=
  if c = 1 then slr.mapIdx (fun a r => if picks m a then r.clearCounters else r) else slr

theorem clearedReceivers_get (slr : Four Receiver) (m c : Byte) (a : Axis) :
    (clearedReceivers slr m c).get a = if c = 1 ∧ picks m a = true then (slr.get a).clearCounters else slr.get a := by
  unfold clearedReceivers
  by_cases hc : c = 1
  · simp [hc]
  · simp only [hc, if_false, false_and]

theorem readLinkCountersBlock_eq (s : State) (m c : Byte) :
    readLinkCountersBlock s [m, c] = if 1 ≤ m.toNat ∧ m.toNat ≤ 15 ∧ c.toNat ≤ 1 then
      (.ok ((four.filter (fun a => picks m a)).flatMap (fun a => (s.slr.get a).counterBytes)),
        { s with slr := clearedReceivers s.slr m c })
      else s.refuse .badValue := by
  simp only [readLinkCountersBlock, nonEmptyQuads_eq, boolOf_eq]
  by_cases hm : 1 ≤ m.toNat ∧ m.toNat ≤ 15
  · by_cases hc : c.toNat ≤ 1
    · simp only [hm, hc, and_self, if_true, quadSetOf_has, QuadSet.members, clearedReceivers]
      by_cases h1 : c = 1
      · simp [h1, Quad.all, four]
      · simp only [h1, if_false, beq_eq_false_iff_ne.mpr h1]
        rfl
    · simp [hm, hc]
  · simp [hm, ← and_assoc]

theorem exec_readLinkCounters (s : State) (m c : Byte) (extra : List Byte) :
    exec (.readLinkCounters (frame [m, c] extra)) s = .next (taken s
      (if 1 ≤ m.toNat ∧ m.toNat ≤ 15 ∧ c.toNat ≤ 1 then
        accepted s 0x07 ((four.filter (fun a => picks m a)).flatMap (fun a => (s.slr.get a).counterBytes))
          { s with slr := clearedReceivers s.slr m c }
      else refused s 0x07 .badValue)) := by
  refine congrArg Host.Outcome.next ?_
  rw [State.hostCommand_frame (n := 2) s 0x07 [m, c] extra _ rfl (by decide), readLinkCountersBlock_eq]
  split
  · exact congrArg (taken s) (State.answer_ok rfl 0x07 _)
  · rw [State.refuse, State.answer_refused]

end Sys2Proof.Machine

namespace Sys2Proof.Proofs

open Sys2Proof.Machine Sys2Proof.Claims

/-- Settles O56: each block answers with the bytes of its items and clears the counters that the option names. -/
theorem clearingReads : Obligations.ClearingReads := by
  refine ⟨fun s m c extra => ⟨clearedReceivers s.slr m c, clearedReceivers_get s.slr m c, exec_readLinkCounters s m c extra⟩,
    exec_readConditions, exec_readCaptureState, fun s c low extra faulted tripped hf ht => ?_⟩
  subst hf ht
  exact exec_readAlertState s c low extra

end Sys2Proof.Proofs

namespace Sys2Proof.Machine

/-! ## What samples and notices make of a phase unit (R26 to R36) -/

/-- A loss leaves the tracking state and the settings of a phase unit. -/
@[simp] theorem PhaseUnit.lose_frame (p : PhaseUnit) (c : Cause) (t : Tick) (h : Int) :
    (p.lose c t h).correction = p.correction ∧
    (p.lose c t h).ampLow = p.ampLow ∧
    (p.lose c t h).ampHigh = p.ampHigh ∧
    (p.lose c t h).dir = p.dir ∧
    (p.lose c t h).bridgeMax = p.bridgeMax ∧
    (p.lose c t h).pendingBridgeMax = p.pendingBridgeMax ∧
    (p.lose c t h).pRef = p.pRef ∧
    (p.lose c t h).dLast = p.dLast ∧
    (p.lose c t h).lastInterval = p.lastInterval ∧
    (p.lose c t h).realRun = p.realRun ∧
    (p.lose c t h).missing = p.missing ∧
    (p.lose c t h).acc = p.acc ∧
    (p.lose c t h).history = p.history ∧
    (p.lose c t h).saturated = p.saturated ∧
    (p.lose c t h).bridged = p.bridged ∧
    (p.lose c t h).epoch = p.epoch ∧
    (p.lose c t h).preset = p.preset := by
  unfold PhaseUnit.lose
  split <;> exact ⟨rfl, rfl, rfl, rfl, rfl, rfl, rfl, rfl, rfl, rfl, rfl, rfl, rfl, rfl, rfl, rfl, rfl⟩

/-- The phase unit after the RANGE loss of a change, where that would carry ACC outside its range (R31). -/
def PhaseUnit.ranged (p : PhaseUnit) (change : Int) (t : Tick) : PhaseUnit :=
  if leavesRange p.acc change then p.lose .range t p.acc else p

theorem State.rangeLoss_phu (s : State) (a : Axis) (change : Int) (t : Tick) :
    (s.rangeLoss a change t).phu = s.phu.set a ((s.phu.get a).ranged change t) := by
  unfold State.rangeLoss PhaseUnit.ranged
  split
  · exact s.integrityLoss_phu a _ t _
  · exact (Four.set_get _ _).symm

/-- The phase unit with the entry of a sample just processed in its history (R40, R41). -/
def PhaseUnit.entering (p : PhaseUnit) (t : Tick) (k : SampleKind) : PhaseUnit :=
  { p with history := enterHistory p.history (p.entryAt t k) }

/-- The phase unit after a step violation but for its loss and its entry (R29). -/
def PhaseUnit.violated (u : PhaseUnit) (p : BitVec 9) (t : Tick) : PhaseUnit :=
  { u.clearMissing with pRef := some p, dLast := 0, realRun := 1, lastInterval := u.intervalAt t }

theorem State.stepViolation_phu (s : State) (a : Axis) (p : BitVec 9) (t : Tick) :
    (s.stepViolation a p t).phu =
      s.phu.set a ((((s.phu.get a).lose .step t (s.phu.get a).acc).violated p t).entering t .real) := by
  simp [State.stepViolation, State.enterSample_phu, State.integrityLoss_phu, PhaseUnit.violated, PhaseUnit.entering]

/-- The phase unit after a datum (R51, R55). -/
def PhaseUnit.atDatum (p : PhaseUnit) (v : Int) : PhaseUnit :=
  { p with acc := v, state := .referenced, armed := none, epoch := p.epoch + 1 }

/-- A mark loads a datum where the change stays in the range and meets the requirement of an ARMED axis (R55). -/
def PhaseUnit.loads (p : PhaseUnit) (mark : Bool) (change : Int) : Option Int :=
  if mark && !leavesRange p.acc change then p.markDatum change else none

/-- A counting sample without a datum, and one with (R28, R55). -/
theorem State.countSample_cases (s : State) (a : Axis) (mark : Bool) (p : BitVec 9) (d : Int) (t : Tick) :
    ((s.phu.get a).loads mark ((s.phu.get a).dir.sign * d) = none ∧
      s.countSample a mark p d t = ((s.rangeLoss a ((s.phu.get a).dir.sign * d) t).modPhu a
        (fun u => u.counted p d t)).enterSample a t .real) ∨
    ∃ v w e, (s.phu.get a).loads mark ((s.phu.get a).dir.sign * d) = some v ∧
      w = ((s.modPhu a (fun u => u.counted p d t)).loadDatum a v) ∧ e = (w.phu.get a).entryAt t .real ∧
      s.countSample a mark p d t = ((w.pushHistory a e).reportToCapture a .epochChange).offerUpdate a e := by
  generalize hc : (s.phu.get a).dir.sign * d = change
  by_cases ho : mark && !leavesRange (s.phu.get a).acc change
  · have hl : s.rangeLoss a change t = s := by
      simp only [Bool.and_eq_true, Bool.not_eq_true'] at ho
      simp [State.rangeLoss, ho]
    have hm : (((s.modPhu a (fun u => u.counted p d t)).phu.get a).markDatum change) = (s.phu.get a).markDatum change := by
      simp [PhaseUnit.markDatum, PhaseUnit.counted, PhaseUnit.clearMissing]
    simp only [State.countSample, hc, PhaseUnit.loads, hl, ho, if_true, hm]
    cases (s.phu.get a).markDatum change with
    | none => exact .inl ⟨rfl, rfl⟩
    | some v => exact .inr ⟨v, _, _, rfl, rfl, rfl, rfl⟩
  · refine .inl ⟨by simp only [PhaseUnit.loads, ho]; rfl, ?_⟩
    simp only [State.countSample, hc, ho]

/-- The phase unit after a counting sample (R28, R31, R55). -/
theorem State.countSample_phu (s : State) (a : Axis) (mark : Bool) (p : BitVec 9) (d : Int) (t : Tick) :
    (s.countSample a mark p d t).phu = s.phu.set a
      (match (s.phu.get a).loads mark ((s.phu.get a).dir.sign * d) with
      | some v => (((s.phu.get a).counted p d t).atDatum v).entering t .real
      | none => (((s.phu.get a).ranged ((s.phu.get a).dir.sign * d) t).counted p d t).entering t .real) := by
  rcases s.countSample_cases a mark p d t with ⟨h, e⟩ | ⟨v, w, e', h, rfl, rfl, e⟩ <;> rw [e, h]
  · simp [State.enterSample_phu, State.rangeLoss_phu, PhaseUnit.entering]
  · simp [State.pushHistory, State.loadDatum_phu, PhaseUnit.entering, PhaseUnit.atDatum]

/-- The phase unit after a bridged sample but for its RANGE loss and its entry (R34). -/
def PhaseUnit.bridgedBy (u : PhaseUnit) (change : Int) : PhaseUnit :=
  { u with
    acc := movedAcc u.acc change
    pRef := u.pRef.map (fun p => p + BitVec.ofInt 9 u.dLast)
    missing := u.missing + 1 }

theorem State.bridgeSample_phu (s : State) (a : Axis) (tn t : Tick) :
    (s.bridgeSample a tn t).phu = s.phu.set a
      ((((s.phu.get a).ranged ((s.phu.get a).dir.sign * (s.phu.get a).dLast) tn).bridgedBy
        ((s.phu.get a).dir.sign * (s.phu.get a).dLast)).entering t .bridged) := by
  simp [State.bridgeSample, State.enterSample_phu, State.rangeLoss_phu, PhaseUnit.bridgedBy, PhaseUnit.entering]

/-- The phase unit after a failed bridge but for its loss (R36). -/
def PhaseUnit.failed (p : PhaseUnit) : PhaseUnit := { p.clearMissing with realRun := 0, dLast := 0 }

theorem State.failBridge_phu (s : State) (a : Axis) (reason : MissingReason) (tn : Tick) :
    (s.failBridge a reason tn).phu =
      s.phu.set a ((s.phu.get a).failed.lose reason.cause tn (s.phu.get a).acc) := by
  simp [State.failBridge, State.integrityLoss_phu, PhaseUnit.failed]

/-! ## The law of the tracking state, phase unit by phase unit (R28, R31, R33, R37, R41) -/

theorem movedAcc_inAcc (acc change : Int) : InAcc (movedAcc acc change) := by
  unfold InAcc movedAcc clampTo accMin accMax
  omega

theorem enterHistory_length {h : List HistEntry} (hl : h.length ≤ 8) (e : HistEntry) : (enterHistory h e).length ≤ 8 := by
  unfold enterHistory Config.historyCapacity
  split <;> simp <;> omega

theorem enterHistory_getLast? (h : List HistEntry) (e : HistEntry) : (enterHistory h e).getLast? = some e := by
  unfold enterHistory
  split <;> simp

theorem PhaseUnit.TrackingOk.lose {p : PhaseUnit} (h : p.TrackingOk) (c : Cause) (t : Tick) {v : Int} (hv : InAcc v) :
    (p.lose c t v).TrackingOk := by
  unfold PhaseUnit.lose
  split
  · exact h
  · exact h
  · exact { h with armed := nofun }
  · exact { h with hold := hv }
  · exact { h with }

theorem PhaseUnit.TrackingOk.ranged {p : PhaseUnit} (h : p.TrackingOk) (change : Int) (t : Tick) :
    (p.ranged change t).TrackingOk := by
  unfold PhaseUnit.ranged
  split
  · exact h.lose _ _ h.acc
  · exact h

/-- The pending budget that comes into force is at most 3. -/
theorem PhaseUnit.TrackingOk.budget {p : PhaseUnit} (h : p.TrackingOk) : p.pendingBridgeMax.getD p.bridgeMax ≤ 3 := by
  cases e : p.pendingBridgeMax with
  | none => exact h.bridgeMax
  | some n => exact (h.pendingMax n e).1

theorem PhaseUnit.TrackingOk.trackingRestart {p : PhaseUnit} (h : p.TrackingOk) : p.trackingRestart.TrackingOk where
  acc := h.acc
  hold := h.hold
  preset := h.preset
  armed := h.armed
  history := Nat.zero_le 8
  realRun := Nat.zero_le 2
  missing := Nat.zero_le _
  bridgeMax := h.budget
  pendingMax := nofun
  dLast := Nat.zero_le 192
  noRef _ := ⟨rfl, rfl, rfl, rfl, rfl⟩
  firstReal := nofun
  interval := nofun
  window := h.window

/-- A real sample: the missing run ends, there is a phase reference, and the newest entry is REAL. -/
theorem PhaseUnit.TrackingOk.real {p : PhaseUnit} (h : p.TrackingOk) {acc d : Int} {run : Nat} {iv : Option Nat}
    {e : HistEntry} (hacc : InAcc acc) (hd : d.natAbs ≤ 192) (hrun : run ≤ 2) (hiv : run = 2 → iv.isSome = true)
    (he : e.kind = .real) (ref : BitVec 9) :
    ({ p.clearMissing with
      acc := acc, pRef := some ref, dLast := d, realRun := run, lastInterval := iv
      history := enterHistory p.history e } : PhaseUnit).TrackingOk where
  acc := hacc
  hold := h.hold
  preset := h.preset
  armed := h.armed
  history := enterHistory_length h.history e
  realRun := hrun
  missing := Nat.zero_le _
  bridgeMax := h.budget
  pendingMax := nofun
  dLast := hd
  noRef := nofun
  firstReal _ := ⟨e, enterHistory_getLast? _ e, he⟩
  interval := hiv
  window := h.window

/-- The interval of a second real sample in a row is known: the newest entry is the REAL one before it (R28). -/
theorem PhaseUnit.TrackingOk.intervalAt {p : PhaseUnit} (h : p.TrackingOk) (hrun : p.realRun ≠ 0) (t : Tick) :
    (p.intervalAt t).isSome = true := by
  by_cases h1 : p.realRun = 1
  · obtain ⟨e, he, hk⟩ := h.firstReal h1
    simp [PhaseUnit.intervalAt, he, hk, h1]
  · have h2 : p.realRun = 2 := by have := h.realRun; omega
    unfold PhaseUnit.intervalAt
    split
    · split
      · rfl
      · exact h.interval h2
    · exact h.interval h2

theorem PhaseUnit.TrackingOk.violated {p : PhaseUnit} (h : p.TrackingOk) (ref : BitVec 9) (t : Tick) :
    ((p.violated ref t).entering t .real).TrackingOk :=
  h.real (d := 0) h.acc (by decide) (Nat.le_succ 1) (fun e => by cases e) rfl ref

/-- A counting sample, with ACC where it is counted to or where a datum puts it (R28, R55). -/
theorem PhaseUnit.TrackingOk.counted {p : PhaseUnit} (h : p.TrackingOk) {acc d : Int} {e : HistEntry} (hacc : InAcc acc)
    (hd : d.natAbs ≤ 192) (he : e.kind = .real) (ref : BitVec 9) (t : Tick) :
    ({ p.counted ref d t with acc := acc, history := enterHistory p.history e } : PhaseUnit).TrackingOk := by
  refine h.real hacc ?_ (Nat.min_le_left 2 _) (fun hr => h.intervalAt (by omega) t) he ref
  simp only [PhaseUnit.counted]
  split
  · exact h.dLast
  · exact hd

theorem PhaseUnit.TrackingOk.datum {p : PhaseUnit} (h : p.TrackingOk) {v : Int} (hv : InAcc v) : (p.atDatum v).TrackingOk :=
  { h with acc := hv, armed := nofun }

/-- The value a mark loads is that of the armed datum, which lies in the range of ACC (R53, R55). -/
theorem PhaseUnit.TrackingOk.loads {p : PhaseUnit} (h : p.TrackingOk) {mark : Bool} {change v : Int}
    (hv : p.loads mark change = some v) : InAcc v := by
  unfold PhaseUnit.loads PhaseUnit.markDatum at hv
  split at hv
  · split at hv
    · rename_i d _ hd
      split at hv
      · cases hv
        exact h.armed d hd
      · cases hv
    · cases hv
  · cases hv

/-- A bridged sample while the budget lasts (R33, R34). -/
theorem PhaseUnit.TrackingOk.bridgedBy {p : PhaseUnit} (h : p.TrackingOk) (hrun : p.realRun = 2)
    (hm : p.missing + 1 ≤ p.bridgeMax) (change : Int) (t : Tick) : ((p.bridgedBy change).entering t .bridged).TrackingOk where
  acc := movedAcc_inAcc _ _
  hold := h.hold
  preset := h.preset
  armed := h.armed
  history := enterHistory_length h.history _
  realRun := h.realRun
  missing := hm
  bridgeMax := h.bridgeMax
  pendingMax n hn := ⟨(h.pendingMax n hn).1, Nat.succ_pos _⟩
  dLast := h.dLast
  noRef hr := by
    have h0 := (h.noRef (Option.map_eq_none_iff.mp hr)).2.2.1
    omega
  firstReal hr := absurd (hrun.symm.trans hr) (by decide)
  interval := h.interval
  window := h.window

theorem PhaseUnit.TrackingOk.failed {p : PhaseUnit} (h : p.TrackingOk) : p.failed.TrackingOk where
  acc := h.acc
  hold := h.hold
  preset := h.preset
  armed := h.armed
  history := h.history
  realRun := Nat.zero_le 2
  missing := Nat.zero_le _
  bridgeMax := h.budget
  pendingMax := nofun
  dLast := Nat.zero_le 192
  noRef hr :=
    have ⟨hh, _, _, _, hi⟩ := h.noRef hr
    ⟨hh, rfl, rfl, rfl, hi⟩
  firstReal := nofun
  interval := nofun
  window := h.window

/-- A new budget is in force at once outside a missing run, and pending within one (R37). -/
theorem PhaseUnit.TrackingOk.setBridge {p : PhaseUnit} (h : p.TrackingOk) {n : Nat} (hn : n ≤ 3) : (p.setBridge n).TrackingOk := by
  unfold PhaseUnit.setBridge
  split
  · rename_i h0
    exact { h with missing := h0 ▸ Nat.zero_le n, bridgeMax := hn, pendingMax := nofun }
  · rename_i h0
    exact { h with pendingMax := fun k hk => by cases hk; exact ⟨hn, Nat.pos_of_ne_zero h0⟩ }

theorem PhaseUnit.TrackingOk.arm {p : PhaseUnit} (h : p.TrackingOk) {d : Datum} (hd : InAcc d.value) : (p.arm d).TrackingOk :=
  { h with armed := fun x hx => by cases hx; exact hd }

theorem PhaseUnit.TrackingOk.takeArm {p : PhaseUnit} (h : p.TrackingOk) : p.takeArm.TrackingOk := by
  unfold PhaseUnit.takeArm
  split
  · exact h.arm h.preset
  all_goals exact h

theorem PhaseUnit.TrackingOk.takeDisarm {p : PhaseUnit} (h : p.TrackingOk) : p.takeDisarm.TrackingOk := by
  unfold PhaseUnit.takeDisarm
  split
  · exact { h with armed := nofun }
  all_goals exact h

theorem InAcc.zero : InAcc 0 := by unfold InAcc accMin accMax; omega

theorem PhaseUnit.TrackingOk.disable {p : PhaseUnit} (h : p.TrackingOk) : p.disable.TrackingOk :=
  { h.trackingRestart with acc := .zero, hold := .zero, armed := nofun }

theorem PhaseUnit.TrackingOk.restart {p : PhaseUnit} (h : p.TrackingOk) : p.restart.TrackingOk :=
  { h.trackingRestart with acc := .zero, hold := .zero, armed := nofun }

end Sys2Proof.Machine

namespace Sys2Proof.Machine

/-! ## The law of the tracking state along the sample path -/

theorem State.TrackingOk.congr {s t : State} (h : s.TrackingOk) (e : t.phu = s.phu) : t.TrackingOk := by
  intro a
  rw [e]
  exact h a

/-- A change that reaches one phase unit keeps the law where that phase unit keeps it. -/
theorem State.TrackingOk.set {s t : State} {a : Axis} {q : PhaseUnit} (h : s.TrackingOk) (e : t.phu = s.phu.set a q)
    (hq : q.TrackingOk) : t.TrackingOk := by
  intro b
  rw [e, Four.get_set]
  split
  · exact hq
  · exact h b

theorem State.TrackingOk.modPhu {s : State} {a : Axis} {f : PhaseUnit → PhaseUnit} (h : s.TrackingOk)
    (hf : (f (s.phu.get a)).TrackingOk) : (s.modPhu a f).TrackingOk :=
  h.set rfl hf

theorem State.TrackingOk.modSlr {s : State} (h : s.TrackingOk) (a : Axis) (f : Receiver → Receiver) :
    (s.modSlr a f).TrackingOk :=
  h.congr rfl

theorem State.TrackingOk.modFru {s : State} (h : s.TrackingOk) (f : FrameUnit → FrameUnit) : (s.modFru f).TrackingOk :=
  h.congr rfl

theorem State.TrackingOk.contribute {s : State} (h : s.TrackingOk) (a : Axis) (n : Nat) : (s.contribute a n).TrackingOk :=
  h.modFru _

theorem State.TrackingOk.anchorSample {s : State} {a : Axis} (h : s.TrackingOk) (p : BitVec 9)
    (t : Tick) : (s.anchorSample a p t).TrackingOk :=
  h.set (s.anchorSample_phu a p t) ((h a).real (h a).acc (h a).dLast (Nat.le_succ 1) (fun e => by cases e) rfl p)

theorem State.TrackingOk.stepViolation {s : State} {a : Axis} (h : s.TrackingOk) (p : BitVec 9) (t : Tick) :
    (s.stepViolation a p t).TrackingOk :=
  h.set (s.stepViolation_phu a p t) (((h a).lose _ _ (h a).acc).violated p t)

theorem State.TrackingOk.countSample {s : State} {a : Axis} (h : s.TrackingOk) {d : Int} (hd : d.natAbs ≤ 192) (mark : Bool)
    (p : BitVec 9) (t : Tick) : (s.countSample a mark p d t).TrackingOk := by
  refine h.set (s.countSample_phu a mark p d t) ?_
  split
  · rename_i v hv
    exact ((h a).datum (v := v) ((h a).loads hv)).counted ((h a).loads hv) hd rfl p t
  · exact ((h a).ranged _ t).counted (movedAcc_inAcc _ _) hd rfl p t

theorem State.TrackingOk.takePhase {s : State} {a : Axis} (h : s.TrackingOk) (mark : Bool) (p : BitVec 9) (t : Tick) :
    (s.takePhase a mark p t).TrackingOk := by
  unfold State.takePhase
  split
  · exact h.anchorSample p t
  · dsimp only
    split
    · rename_i hd
      exact h.countSample hd mark p t
    · exact h.stepViolation p t

/-- The budget of a notice lasts for each of its samples (R33). -/
theorem State.TrackingOk.bridgeSamples {a : Axis} (tn : Tick) (ts : List Tick) :
    ∀ {s : State}, s.TrackingOk → (s.phu.get a).realRun = 2 → (s.phu.get a).missing + ts.length ≤ (s.phu.get a).bridgeMax →
      (s.bridgeSamples a tn ts).TrackingOk := by
  induction ts with
  | nil => exact fun h _ _ => h
  | cons t ts ih =>
    intro s h hrun hm
    rw [List.length_cons] at hm
    have hp := s.bridgeSample_phu a tn t
    generalize (s.phu.get a).dir.sign * (s.phu.get a).dLast = change at hp
    have run : ((s.phu.get a).ranged change tn).realRun = 2 ∧
        ((s.phu.get a).ranged change tn).missing = (s.phu.get a).missing ∧
        ((s.phu.get a).ranged change tn).bridgeMax = (s.phu.get a).bridgeMax := by
      unfold PhaseUnit.ranged
      split <;> simp [hrun]
    obtain ⟨run, missing, budget⟩ := run
    refine ih (h.set hp (((h a).ranged change tn).bridgedBy run (by omega) change t)) ?_ ?_
    · rw [hp, Four.get_set_self]
      exact run
    · rw [hp, Four.get_set_self]
      simp only [PhaseUnit.entering, PhaseUnit.bridgedBy, missing, budget]
      omega

/-- A plan has an instant for each sample of its notice, after a full real run and within the budget (R33, R35). -/
theorem PhaseUnit.bridgePlan_some {u : PhaseUnit} {reason : MissingReason} {g : Nat} {tn : Tick} {instants : List Tick}
    (h : u.bridgePlan reason g tn = some instants) :
    u.realRun = 2 ∧ u.missing + g ≤ u.bridgeMax ∧ instants.length = g := by
  unfold PhaseUnit.bridgePlan at h
  split at h
  · split at h
    · rename_i hc
      cases h
      exact ⟨hc.1, hc.2.1, by simp⟩
    · cases h
  · cases h

theorem State.TrackingOk.takeNotice {s : State} {a : Axis} (h : s.TrackingOk) (reason : MissingReason) (g : Nat) (tn : Tick) :
    (s.takeNotice a reason g tn).TrackingOk := by
  unfold State.takeNotice
  split
  · rename_i instants hplan
    obtain ⟨hrun, hm, hlen⟩ := PhaseUnit.bridgePlan_some hplan
    have k := h.bridgeSamples tn instants hrun (hlen ▸ hm)
    refine State.TrackingOk.congr (k.modPhu (a := a) (f := fun u => { u with bridged := true }) ?_) (by simp)
    exact { k a with }
  · exact h.set (s.failBridge_phu a reason tn) ((h a).failed.lose _ _ (h a).acc)

theorem State.TrackingOk.takeSample {s : State} {a : Axis} (h : s.TrackingOk) (f : SampleFields) (t : Tick) :
    (s.takeSample a f t).TrackingOk := by
  unfold State.takeSample
  dsimp only
  split
  · exact h.takeNotice _ _ _
  · exact State.TrackingOk.takePhase (h.modPhu { h a with }) _ _ _

/-! ## The law of the tracking state in the operations of a link -/

theorem State.TrackingOk.handSample {s : State} (h : s.TrackingOk) (a : Axis) (f : SampleFields) (t : Tick) :
    (s.handSample a f t).TrackingOk := by
  unfold State.handSample
  split
  · exact h
  · exact h.takeSample f t

theorem State.TrackingOk.handNotice {s : State} (h : s.TrackingOk) (a : Axis) (r : MissingReason) (g : Nat) (t : Tick) :
    (s.handNotice a r g t).TrackingOk := by
  unfold State.handNotice
  split
  · exact h
  · exact h.takeNotice r g t

theorem State.TrackingOk.lockGained {s : State} (h : s.TrackingOk) (a : Axis) : (s.lockGained a).TrackingOk := by
  unfold State.lockGained
  split
  · exact h
  · exact h.modPhu { (h a).trackingRestart with }

theorem State.TrackingOk.loseLock {s : State} (h : s.TrackingOk) (a : Axis) (t : Tick) : (s.loseLock a t).TrackingOk := by
  by_cases ho : (s.phu.get a).state = .off
  · exact h.congr (by simp [State.loseLock_phu, ho])
  · exact h.set ((s.loseLock_phu a t).trans (if_neg ho)) { ((h a).lose .link t (h a).acc).trackingRestart with }

theorem State.TrackingOk.dropLink {s : State} (h : s.TrackingOk) (a : Axis) (t : Tick) : (s.dropLink a t).TrackingOk := by
  unfold State.dropLink
  split
  · exact h
  · exact h.modSlr a _
  · exact h.loseLock a t

theorem State.TrackingOk.acceptSample {s : State} (h : s.TrackingOk) (a : Axis) (f : SampleFields) :
    (s.acceptSample a f).TrackingOk :=
  ((h.modSlr a _).contribute a 1).handSample a f _

theorem State.TrackingOk.occupyPosition {s : State} (h : s.TrackingOk) (a : Axis) (dup : Bool) :
    (s.occupyPosition a dup).TrackingOk := by
  unfold State.occupyPosition
  split
  · exact h.modSlr a _
  · exact (h.modSlr a _).handNotice a _ _ _

theorem State.TrackingOk.badInLocked {s : State} (h : s.TrackingOk) (a : Axis) (dup : Bool) :
    (s.badInLocked a dup).TrackingOk := by
  unfold State.badInLocked
  split
  · exact h.loseLock a _
  · exact h.occupyPosition a dup

theorem State.TrackingOk.goodInLocked {s : State} (h : s.TrackingOk) (a : Axis) (f : SampleFields) :
    (s.goodInLocked a f).TrackingOk := by
  unfold State.goodInLocked
  dsimp only
  split
  · exact h.acceptSample a f
  · split
    · exact (((h.modSlr a _).contribute a _).handNotice a _ _ _).acceptSample a f
    · exact (h.modSlr a _).badInLocked a _

theorem State.TrackingOk.goodInAcquiring {s : State} (h : s.TrackingOk) (a : Axis) (f : SampleFields) :
    (s.goodInAcquiring a f).TrackingOk := by
  unfold State.goodInAcquiring State.enterLocked
  dsimp only
  split
  · split
    · exact (((h.modSlr a _).lockGained a).contribute a 1).handSample a f _
    · exact h.modSlr a _
  · exact h.modSlr a _

theorem State.TrackingOk.takeFrame {s : State} (h : s.TrackingOk) (a : Axis) (bits : List Bool) :
    (s.takeFrame a bits).TrackingOk := by
  unfold State.takeFrame State.goodFrame State.badFrame
  dsimp only
  split
  · split
    · exact (h.modSlr a _).modSlr a _
    · exact (h.modSlr a _).goodInAcquiring a _
    · exact (h.modSlr a _).goodInLocked a _
  · split
    · exact h.modSlr a _
    · exact (h.modSlr a _).modSlr a _
    · exact (h.modSlr a _).badInLocked a _

/-! ## The law of the tracking state at frame events and servo reads -/

/-- A change of the phase units that keeps each within its law. -/
theorem State.TrackingOk.mapPhu {s t : State} (h : s.TrackingOk)
    (hp : ∀ a, (s.phu.get a).TrackingOk → (t.phu.get a).TrackingOk) : t.TrackingOk :=
  fun a => hp a (h a)

theorem State.TrackingOk.clearReadMarks {s : State} (h : s.TrackingOk) : s.clearReadMarks.TrackingOk := by
  refine h.mapPhu (fun a hp => ?_)
  simp only [State.clearReadMarks, Four.get_mapIdx]
  split
  · exact { hp with }
  · exact hp

theorem State.TrackingOk.servoFrameEvent {s : State} (h : s.TrackingOk) (k : FrameKind) :
    (s.servoFrameEvent k).TrackingOk :=
  State.TrackingOk.clearReadMarks (h.congr (by simp))

theorem State.TrackingOk.activateK {s : State} (h : s.TrackingOk) : s.activateK.TrackingOk := h.congr (by simp)

theorem State.TrackingOk.frameEvent {s : State} (h : s.TrackingOk) (k : FrameKind) : (s.frameEvent k).TrackingOk := by
  have hs : ((s.modFru (fun x => { x with frameNo := x.frameNo + 1 })).activateAndSnapshot k).TrackingOk := by
    unfold State.activateAndSnapshot
    split
    · exact ((h.modFru _).servoFrameEvent k).activateK
    · exact (h.modFru _).activateK.servoFrameEvent k
  exact hs.congr (by simp [State.frameEvent])

theorem State.TrackingOk.timerEvent {s : State} (h : s.TrackingOk) : s.timerEvent.TrackingOk :=
  State.TrackingOk.frameEvent (h.congr (by simp)) _

theorem State.TrackingOk.syncRise {s : State} (h : s.TrackingOk) : s.syncRise.TrackingOk := by
  unfold State.syncRise
  split
  · exact h
  · exact State.TrackingOk.frameEvent (h.congr (by simp)) _
  · exact State.TrackingOk.frameEvent (h.congr (by simp)) _

theorem State.TrackingOk.judgeFrameTimers {s : State} (h : s.TrackingOk) (b : Bool) : (s.judgeFrameTimers b).TrackingOk := by
  unfold State.judgeFrameTimers
  split
  · exact h.congr (by simp)
  · split
    · exact h.timerEvent
    · exact h

theorem State.TrackingOk.setFrameBlock {s : State} (h : s.TrackingOk) (ps : List Byte) : (setFrameBlock s ps).2.TrackingOk := by
  unfold Machine.setFrameBlock
  split
  · split
    · simp only [State.accept, State.applyFrame]
      split
      · exact h.modFru _
      · exact (h.modFru _).judgeFrameTimers _
      · exact (h.modFru _).judgeFrameTimers _
    · exact h
  · exact h

theorem State.TrackingOk.completeRead {s : State} (h : s.TrackingOk) (word : BitVec 8) : (s.completeRead word).TrackingOk := by
  rcases s.completeRead_cases word with ⟨r, _, _, e⟩ | e <;> rw [e]
  · refine h.mapPhu (fun a hp => ?_)
    simp only [State.takeWord, State.modSvp_phu, Four.get_mapIdx]
    split
    · split
      · exact hp.takeArm
      · split
        · exact hp.takeDisarm
        · exact hp
    · exact hp
  · exact h

/-! ## The law of the tracking state in the host commands -/

theorem State.TrackingOk.hostCommand {s : State} {code : Byte} {n : Nat} {body : List Byte}
    {block : State → List Byte → Reply × State} (h : s.TrackingOk) (hb : ∀ ps, (block s ps).2.TrackingOk) :
    (s.hostCommand code n body block).TrackingOk := by
  rcases s.hostCommand_cases code n body block with ⟨_, e⟩ | ⟨_, _, e⟩ | ⟨ps, _, _, e⟩ <;> rw [e]
  · exact h
  · exact h.congr (s.answer_sameAxes _ _).2
  · exact (hb ps).congr (State.answer_sameAxes _ _ _).2

theorem State.TrackingOk.axisCommand {s : State} {act : State → Axis → Reply × State} (h : s.TrackingOk)
    (ha : ∀ a, (act s a).2.TrackingOk) (ps : List Byte) : (axisCommand act s ps).2.TrackingOk := by
  unfold Machine.axisCommand
  split
  · split
    · exact ha _
    · exact h
  · exact h

/-- A signed value read within a range lies in it. -/
theorem intIn_bounds {lo hi v : Int} {bytes : List Byte} (h : intIn lo hi bytes = some v) : lo ≤ v ∧ v ≤ hi := by
  unfold intIn at h
  dsimp only at h
  split at h
  · cases h
    assumption
  · cases h

theorem State.TrackingOk.datumCommand {s : State} {act : State → Axis → Datum → Reply × State} (h : s.TrackingOk)
    (ha : ∀ a d, InAcc d.value → (act s a d).2.TrackingOk) (ps : List Byte) : (datumCommand act s ps).2.TrackingOk := by
  unfold Machine.datumCommand
  split
  · split
    · rename_i hv _
      exact ha _ _ (intIn_bounds hv)
    · exact h
  · exact h

/-- The correction is no part of the law. -/
theorem State.TrackingOk.setCorrectionBlock {s : State} (h : s.TrackingOk) (ps : List Byte) :
    (setCorrectionBlock s ps).2.TrackingOk := by
  unfold Machine.setCorrectionBlock
  split
  · split
    · exact h.modPhu { h _ with }
    · exact h
  · exact h

theorem State.TrackingOk.setAmplitudeBlock {s : State} (h : s.TrackingOk) (ps : List Byte) :
    (setAmplitudeBlock s ps).2.TrackingOk := by
  unfold Machine.setAmplitudeBlock
  split
  · split
    · rename_i hlow hhigh
      split
      · rename_i hlt
        exact h.modPhu { h _ with window := ⟨hlt, (natIn_bounds hhigh).2⟩ }
      · exact h
    · exact h
  · exact h

theorem State.TrackingOk.setDirectionBlock {s : State} (h : s.TrackingOk) (ps : List Byte) :
    (setDirectionBlock s ps).2.TrackingOk := by
  unfold Machine.setDirectionBlock
  split
  · split
    · split
      · exact h.modPhu { h _ with }
      · exact h.modPhu { h _ with }
      all_goals exact h
    · exact h
  · exact h

theorem State.TrackingOk.setBridgeBlock {s : State} (h : s.TrackingOk) (ps : List Byte) :
    (setBridgeBlock s ps).2.TrackingOk := by
  unfold Machine.setBridgeBlock
  split
  · split
    · rename_i hn
      exact h.modPhu ((h _).setBridge (natIn_bounds hn).2)
    · exact h
  · exact h

theorem State.TrackingOk.enableAxis {s : State} (h : s.TrackingOk) (a : Axis) : (enableAxisBlock s a).2.TrackingOk := by
  unfold enableAxisBlock
  split
  · exact h.modPhu { (h a).trackingRestart with }
  · exact h

theorem State.TrackingOk.advanceEpoch {s : State} (h : s.TrackingOk) (a : Axis) : (s.advanceEpoch a).TrackingOk := by
  have k : (s.modPhu a (fun p => { p with epoch := p.epoch + 1 })).TrackingOk := h.modPhu { h a with }
  unfold State.advanceEpoch
  dsimp only
  split
  · exact k
  · exact k

theorem State.TrackingOk.disableAxis {s : State} (h : s.TrackingOk) (a : Axis) : (disableAxisBlock s a).2.TrackingOk := by
  unfold disableAxisBlock
  split
  · exact h
  · exact (State.TrackingOk.advanceEpoch (h.modPhu (h a).disable) a).congr (by simp [State.accept])

theorem State.TrackingOk.axisRestart {s : State} (h : s.TrackingOk) (a : Axis) : (axisRestartBlock s a).2.TrackingOk := by
  unfold axisRestartBlock
  split
  · exact h
  · exact (State.TrackingOk.advanceEpoch (h.modPhu (h a).restart) a).congr (by simp [State.accept])

theorem State.TrackingOk.ackFault {s : State} (h : s.TrackingOk) (a : Axis) : (ackFaultBlock s a).2.TrackingOk := by
  have k : (s.modPhu a (fun p => { p with state := .unreferenced, fault := none, hold := 0 })).TrackingOk :=
    h.modPhu { h a with hold := .zero }
  unfold ackFaultBlock
  split
  · exact k.congr (by simp [State.accept])
  all_goals exact h

theorem State.TrackingOk.datumNow {s : State} (h : s.TrackingOk) (a : Axis) {v : Int} (hv : InAcc v) :
    (datumNowAt s a v).2.TrackingOk := by
  have load : (if (s.phu.get a).lockView then ((s.loadDatum a v).reportToCapture a .epochChange).accept
      else s.refuse .noLock).2.TrackingOk := by
    split
    · exact State.TrackingOk.congr (h.set (s.loadDatum_phu a v) ((h a).datum hv)) (by simp [State.accept])
    · exact h
  unfold datumNowAt
  dsimp only
  split
  · exact h
  · exact h
  all_goals exact load

theorem State.TrackingOk.datumNowBlock {s : State} (h : s.TrackingOk) (ps : List Byte) : (datumNowBlock s ps).2.TrackingOk := by
  unfold Machine.datumNowBlock
  split
  · split
    · rename_i hv
      exact h.datumNow _ (intIn_bounds hv)
    · exact h
  · exact h

theorem State.TrackingOk.datumAtMark {s : State} (h : s.TrackingOk) (a : Axis) {d : Datum} (hd : InAcc d.value) :
    (datumAtMarkAt s a d).2.TrackingOk := by
  unfold datumAtMarkAt
  split
  · exact h.modPhu ((h a).arm hd)
  all_goals exact h

theorem State.TrackingOk.releaseAxis {s : State} (h : s.TrackingOk) (a : Axis) : (releaseAxisBlock s a).2.TrackingOk := by
  unfold releaseAxisBlock
  split
  · exact h.modPhu { h a with armed := nofun }
  · exact h.modPhu { h a with }
  all_goals exact h

theorem State.TrackingOk.setLinkBlock {s : State} (h : s.TrackingOk) (ps : List Byte) : (setLinkBlock s ps).2.TrackingOk := by
  have write (a : Axis) (l t d : Nat) : (s.writeLink a l t d).TrackingOk := by
    unfold State.writeLink
    dsimp only
    split
    · exact (h.modSlr a _).dropLink a _
    · exact h.modSlr a _
  unfold Machine.setLinkBlock
  split
  · split
    · exact write _ _ _ _
    · exact h
  · exact h

theorem State.TrackingOk.readLinkCountersBlock {s : State} (h : s.TrackingOk) (ps : List Byte) :
    (readLinkCountersBlock s ps).2.TrackingOk := by
  refine h.congr ?_
  unfold Machine.readLinkCountersBlock
  split
  · split
    · dsimp only
      split <;> rfl
    · rfl
  · rfl

/-! ## The law of the tracking state in every step -/

theorem State.trackingOk_of_reset {t : State} (hp : t.phu = Four.replicate PhaseUnit.reset) : t.TrackingOk := by
  intro a
  rw [hp, Four.get_replicate]
  exact PhaseUnit.reset_trackingOk

/-- Every command keeps the law of the tracking state. -/
theorem State.TrackingOk.exec {s t : State} (h : s.TrackingOk) {i : Instr} (e : exec i s = .next t) : t.TrackingOk := by
  by_cases hi : reachesAxes i = false
  · exact h.congr (exec_sameAxes hi e).2
  cases i <;> first | exact absurd rfl hi | obtain rfl := Host.Outcome.next.inj e
  case sampleFrame a bits => exact h.takeFrame a bits
  case silenceTimerExpiry a =>
    split
    · exact h.dropLink a _
    · exact h
  case setLink => exact h.hostCommand h.setLinkBlock
  case readLinkCounters => exact h.hostCommand h.readLinkCountersBlock
  case syncEdge => exact h.syncRise
  case frameTimerExpiry =>
    split
    · exact h.timerEvent
    · exact h
  case setFrame => exact h.hostCommand h.setFrameBlock
  case servoReadComplete word | servoArm word | servoDisarm word => exact h.completeRead word
  case setCorrection => exact h.hostCommand h.setCorrectionBlock
  case setAmplitude => exact h.hostCommand h.setAmplitudeBlock
  case setDirection => exact h.hostCommand h.setDirectionBlock
  case setBridge => exact h.hostCommand h.setBridgeBlock
  case enableAxis => exact h.hostCommand (h.axisCommand h.enableAxis)
  case disableAxis => exact h.hostCommand (h.axisCommand h.disableAxis)
  case ackFault => exact h.hostCommand (h.axisCommand h.ackFault)
  case datumNow => exact h.hostCommand h.datumNowBlock
  case setDatumPreset => exact h.hostCommand (h.datumCommand (fun a d hd => h.modPhu { h a with preset := hd }))
  case datumAtMark => exact h.hostCommand (h.datumCommand (fun a d hd => h.datumAtMark a hd))
  case releaseAxis => exact h.hostCommand (h.axisCommand h.releaseAxis)
  case axisRestart => exact h.hostCommand (h.axisCommand h.axisRestart)
  case powerOnReset => exact State.trackingOk_of_reset rfl
  case resetUnit =>
    split
    · exact h
    · split
      · exact h.congr (s.answer_sameAxes _ _).2
      · exact State.trackingOk_of_reset rfl

end Sys2Proof.Machine

namespace Sys2Proof.Proofs

open Sys2Proof.Machine

/-- Settles O7: every command, line event and tick keeps the law of the tracking state. -/
theorem stepKeepsTracking : Obligations.StepKeepsTracking := by
  intro s t h hs
  exact step_induction h hs (fun _ _ k => k) (fun _ _ k => k) (fun _ _ _ k e => k.exec e)
    (fun _ _ k => k.congr (by simp)) (fun _ k => k)

end Sys2Proof.Proofs

namespace Sys2Proof.Machine

/-! ## The digits of an angle (R25) -/

/-- A point other than the origin and its angle as a fraction of a turn, in [0, 1). -/
structure AtTurn (c s : Int) (x : ℝ) : Prop where
  nonneg : 0 ≤ x
  lt_one : x < 1
  point : ∃ r : ℝ, 0 < r ∧ (c : ℝ) = r * Real.cos (2 * Real.pi * x) ∧ (s : ℝ) = r * Real.sin (2 * Real.pi * x)

/-- The first digit of an angle says whether it lies in the second half turn. -/
theorem AtTurn.inSecondHalf_iff {c s : Int} {x : ℝ} (h : AtTurn c s x) : inSecondHalf c s = true ↔ 1 / 2 ≤ x := by
  obtain ⟨h0, h1, r, hr, hc, hs⟩ := h
  have hpi := Real.pi_pos
  have decided : inSecondHalf c s = true ↔ (s : ℝ) < 0 ∨ ((s : ℝ) = 0 ∧ (c : ℝ) < 0) := by
    simp [inSecondHalf]
  rw [decided]
  constructor
  · intro h
    by_contra hx
    have hsin : 0 ≤ Real.sin (2 * Real.pi * x) := Real.sin_nonneg_of_nonneg_of_le_pi (by positivity) (by nlinarith)
    rcases h with h | ⟨hz, hn⟩
    · exact absurd h (not_lt.mpr (hs ▸ mul_nonneg hr.le hsin))
    · rcases h0.eq_or_lt with rfl | hpos
      · rw [hc] at hn
        simp at hn
        linarith
      · have := Real.sin_pos_of_pos_of_lt_pi (x := 2 * Real.pi * x) (by positivity) (by nlinarith)
        exact absurd hz (hs ▸ (mul_pos hr this).ne')
  · intro hx
    rcases hx.eq_or_lt with rfl | hlt
    · right
      have e : 2 * Real.pi * (1 / 2) = Real.pi := by ring
      rw [hc, hs, e]
      simp [hr]
    · left
      have e : Real.sin (2 * Real.pi * x) = -Real.sin (2 * Real.pi * x - Real.pi) := by rw [Real.sin_sub_pi, neg_neg]
      have := Real.sin_pos_of_pos_of_lt_pi (x := 2 * Real.pi * x - Real.pi) (by nlinarith) (by nlinarith)
      rw [hs, e]
      nlinarith

/-- Squaring doubles the angle, less the whole turn that its first digit counts. -/
theorem AtTurn.square {c s : Int} {x : ℝ} (h : AtTurn c s x) :
    AtTurn (c * c - s * s) (2 * c * s) (2 * x - if inSecondHalf c s then 1 else 0) := by
  have hd := h.inSecondHalf_iff
  obtain ⟨h0, h1, r, hr, hc, hs⟩ := h
  have point (y : ℝ) (hcos : Real.cos (2 * Real.pi * y) = Real.cos (2 * (2 * Real.pi * x)))
      (hsin : Real.sin (2 * Real.pi * y) = Real.sin (2 * (2 * Real.pi * x))) :
      ∃ q : ℝ, 0 < q ∧ ((c * c - s * s : Int) : ℝ) = q * Real.cos (2 * Real.pi * y) ∧
        ((2 * c * s : Int) : ℝ) = q * Real.sin (2 * Real.pi * y) := by
    refine ⟨r ^ 2, by positivity, ?_, ?_⟩
    · push_cast
      rw [hcos, Real.cos_two_mul', hc, hs]
      ring
    · push_cast
      rw [hsin, Real.sin_two_mul, hc, hs]
      ring
  split
  · rename_i hb
    have hx := hd.mp hb
    have e : 2 * Real.pi * (2 * x - 1) = 2 * (2 * Real.pi * x) - 2 * Real.pi := by ring
    exact ⟨by linarith, by linarith, point _ (by rw [e, Real.cos_sub_two_pi]) (by rw [e, Real.sin_sub_two_pi])⟩
  · rename_i hb
    have hx := mt hd.mpr hb
    have e : 2 * Real.pi * (2 * x) = 2 * (2 * Real.pi * x) := by ring
    rw [sub_zero]
    exact ⟨by linarith, by linarith, point _ (by rw [e]) (by rw [e])⟩

/-- The first `k` digits are the whole part of 2^k turns of the angle. -/
theorem AtTurn.turnDigits_eq {k : Nat} : ∀ {c s : Int} {x : ℝ} (_ : AtTurn c s x) (acc : Nat),
    (turnDigits k c s acc : Int) = acc * 2 ^ k + ⌊2 ^ k * x⌋ := by
  induction k with
  | zero =>
    intro c s x h acc
    have : ⌊x⌋ = 0 := Int.floor_eq_zero_iff.mpr ⟨h.nonneg, h.lt_one⟩
    simp [Machine.turnDigits, this]
  | succ k ih =>
    intro c s x h acc
    have shift (b : Nat) : ⌊(2 : ℝ) ^ k * (2 * x - b)⌋ = ⌊(2 : ℝ) ^ (k + 1) * x⌋ - 2 ^ k * b := by
      rw [← Int.floor_sub_intCast]
      congr 1
      push_cast
      ring
    rw [Machine.turnDigits, ih h.square]
    split
    · have := shift 1
      push_cast at this ⊢
      rw [this]
      ring
    · have := shift 0
      push_cast at this ⊢
      rw [this]
      ring

/-- A point off the origin with an angle θ in [0, 2π) stands at the θ / 2π-th part of a turn. -/
theorem AtTurn.of_angle {c s : Int} (h : s ≠ 0 ∨ c ≠ 0) {θ : ℝ} (h0 : 0 ≤ θ) (h1 : θ < 2 * Real.pi)
    (hc : (c : ℝ) = Real.sqrt ((c : ℝ) ^ 2 + (s : ℝ) ^ 2) * Real.cos θ)
    (hs : (s : ℝ) = Real.sqrt ((c : ℝ) ^ 2 + (s : ℝ) ^ 2) * Real.sin θ) : AtTurn c s (θ / (2 * Real.pi)) := by
  have hpi := Real.pi_pos
  have e : 2 * Real.pi * (θ / (2 * Real.pi)) = θ := by field_simp
  refine ⟨by positivity, (div_lt_one (by positivity)).mpr h1, _, ?_, by rw [e]; exact hc, by rw [e]; exact hs⟩
  refine Real.sqrt_pos.mpr ?_
  rcases h with h | h
  · have : (s : ℝ) ≠ 0 := Int.cast_ne_zero.mpr h
    positivity
  · have : (c : ℝ) ≠ 0 := Int.cast_ne_zero.mpr h
    positivity

/-- Half of a whole part of twice a number, rounded upward, is that number rounded to nearest, a tie upward. -/
theorem floor_half_up (y : ℝ) : (⌊2 * y⌋ + 1) / 2 = ⌊y + 1 / 2⌋ := by
  have e : y + 1 / 2 = ((2 * y + 1) / (2 : Nat) : ℝ) := by push_cast; ring
  rw [e, Int.floor_div_natCast, Int.floor_add_one]
  rfl

end Sys2Proof.Machine

namespace Sys2Proof.Proofs

open Sys2Proof.Machine

/-- Settles O17: the ten digits are the whole part of 1024 turns of the angle, and half of it is rounded upward. -/
theorem phaseIsExactlyRounded : Obligations.PhaseIsExactlyRounded := by
  intro s1 c2 h θ h0 h1 hc hs
  have digits := (AtTurn.of_angle h h0 h1 hc hs).turnDigits_eq (k := 10) 0
  have half := floor_half_up (512 * θ / (2 * Real.pi))
  have e : (2 : ℝ) ^ 10 * (θ / (2 * Real.pi)) = 2 * (512 * θ / (2 * Real.pi)) := by ring
  rw [e] at digits
  rw [← half, phaseOf, BitVec.toNat_ofNat]
  omega

end Sys2Proof.Proofs

namespace Sys2Proof.Machine

open Sys2Proof.Claims

/-! ## Rounded division (scope file, Arithmetic) -/

/-- The quotient of the absolute values rounded to nearest, half upward. -/
def roundedMagnitude (n d : Int) : Nat := (2 * n.natAbs + d.natAbs) / (2 * d.natAbs)

/-- A rounded quotient times the divisor has the sign of the dividend. -/
theorem mul_roundDiv (n d : Int) :
    d * roundDiv n d = if n < 0 then -((d.natAbs * roundedMagnitude n d : Nat) : Int)
      else ((d.natAbs * roundedMagnitude n d : Nat) : Int) := by
  have e : roundDiv n d = if decide (n < 0) = decide (d < 0) then (roundedMagnitude n d : Int) else -(roundedMagnitude n d : Int) :=
    rfl
  rw [e, Nat.cast_mul]
  by_cases hn : n < 0 <;> by_cases hd : d < 0
  · simp [hn, hd, abs_of_neg hd]
  · simp [hn, hd, abs_of_nonneg (not_lt.mp hd)]
  · simp [hn, hd, abs_of_neg hd]
  · simp [hn, hd, abs_of_nonneg (not_lt.mp hd)]

/-- The magnitude lies within half a divisor above or less than half a divisor below. -/
theorem roundedMagnitude_bounds (n : Int) {d : Int} (hd : d ≠ 0) :
    2 * (d.natAbs * roundedMagnitude n d) ≤ 2 * n.natAbs + d.natAbs ∧
    2 * n.natAbs < 2 * (d.natAbs * roundedMagnitude n d) + d.natAbs := by
  have pos : 0 < 2 * d.natAbs := by omega
  have low := Nat.div_mul_le_self (2 * n.natAbs + d.natAbs) (2 * d.natAbs)
  have high := Nat.lt_div_mul_add (a := 2 * n.natAbs + d.natAbs) pos
  have e : roundedMagnitude n d * (2 * d.natAbs) = 2 * (d.natAbs * roundedMagnitude n d) := by ring
  rw [← roundedMagnitude, e] at low high
  omega

theorem roundDiv_nearest (n : Int) {d : Int} (hd : d ≠ 0) :
    2 * (n - d * roundDiv n d).natAbs ≤ d.natAbs ∧
    (2 * (n - d * roundDiv n d).natAbs = d.natAbs → n.natAbs < (d * roundDiv n d).natAbs) := by
  obtain ⟨low, high⟩ := roundedMagnitude_bounds n hd
  rw [mul_roundDiv]
  generalize d.natAbs * roundedMagnitude n d = m at low high
  split <;> omega

/-! ## Correction and conversion (R20, R74) -/

theorem correctPair_eq {k : Correction} {sin cos s0 c0 q0 s1 c1 : Int} (hs0 : s0 = roundDiv ((sin - k.os) * k.gs) 16384)
    (hs1 : s1 = max (-32768) (min 32767 s0)) (hc0 : c0 = roundDiv ((cos - k.oc) * k.gc) 16384)
    (hc1 : c1 = max (-32768) (min 32767 c0)) (hq0 : q0 = roundDiv (16384 * c1 + s1 * k.q) 16384) :
    correctPair k sin cos = {
      s1 := s1, c2 := max (-32768) (min 32767 q0)
      clamped := decide (s1 ≠ s0 ∨ c1 ≠ c0 ∨ max (-32768) (min 32767 q0) ≠ q0) } := by
  have hq : roundDiv (c1 * 16384 + s1 * k.q) 16384 = q0 := by rw [hq0, Int.mul_comm]
  simp only [correctPair, ← hs0, ← hc0, clamp16, clampTo, ← hs1, ← hc1, hq]
  simp [bne, Bool.or_assoc, beq_eq_decide]

theorem ProbeCal.convert_eq (c : ProbeCal) (raw : Nat) : c.convert raw = roundDiv
    (c.tc1 * ((c.c2 : Int) - c.c1) + ((c.tc2 : Int) - c.tc1) * ((raw : Int) - c.c1)) ((c.c2 : Int) - c.c1) := by
  rw [ProbeCal.convert]

/-! ## Bytes and the numbers they spell (R175) -/

@[simp] theorem natBytes_length (n v : Nat) : (natBytes n v).length = n := by
  induction n with
  | zero => rfl
  | succ n ih => simp [natBytes, ih]

@[simp] theorem intBytes_length (n : Nat) (v : Int) : (intBytes n v).length = n := natBytes_length n _

/-- A number spelled before other bytes weighs 256 to the power of their count. -/
theorem foldl_bytes_eq (bytes : List Byte) (n : Nat) :
    bytes.foldl (fun n b => 256 * n + b.toNat) n = n * 256 ^ bytes.length + bytesToNat bytes := by
  induction bytes generalizing n with
  | nil => simp [bytesToNat]
  | cons b rest ih =>
    rw [bytesToNat, List.foldl_cons, List.foldl_cons, ih, ih, List.length_cons, pow_succ]
    ring

theorem bytesToNat_cons (b : Byte) (rest : List Byte) :
    bytesToNat (b :: rest) = b.toNat * 256 ^ rest.length + bytesToNat rest := by
  rw [← foldl_bytes_eq, bytesToNat, List.foldl_cons, Nat.mul_zero, Nat.zero_add]

@[simp] theorem bytesToNat_natBytes (n v : Nat) : bytesToNat (natBytes n v) = v % 256 ^ n := by
  induction n with
  | zero => simp [natBytes, bytesToNat, Nat.mod_one]
  | succ n ih =>
    rw [natBytes, bytesToNat_cons, natBytes_length, ih, BitVec.toNat_ofNat, Nat.mod_pow_succ (b := 256), Nat.mul_comm,
      Nat.add_comm]

/-- A signed number of `n` bytes is read back from its bytes. -/
theorem bytesToInt_intBytes {n : Nat} {v : Int} (hn : 0 < n) (low : -2 ^ (8 * n - 1) ≤ v) (high : v < 2 ^ (8 * n - 1)) :
    bytesToInt (intBytes n v) = v := by
  have e : (256 : Nat) ^ n = 2 ^ (8 * n) := by rw [pow_mul]; rfl
  rw [bytesToInt, intBytes_length, intBytes, bytesToNat_natBytes, e, Nat.mod_eq_of_lt (BitVec.isLt _), BitVec.ofNat_toNat,
    BitVec.setWidth_eq, BitVec.toInt_ofInt_eq_self (by omega) low high]

end Sys2Proof.Machine

namespace Sys2Proof.Proofs

open Sys2Proof.Machine Sys2Proof.Claims

/-- Settles O18: rounding by its magnitude, the correction step by step, and each coding read back. -/
theorem roundingCorrectionAndCodings : Obligations.RoundingCorrectionAndCodings := by
  refine ⟨fun n d => roundDiv_nearest n, fun k sin cos s0 c0 q0 s1 c1 => correctPair_eq, by decide,
    fun c raw _ => c.convert_eq raw, by decide, natBits_eq_field, fun bytes => ?_,
    fun n v => ⟨natBytes_length n v, bytesToNat_natBytes n v⟩,
    fun n v hn low high => ⟨intBytes_length n v, bytesToInt_intBytes hn low high⟩,
    rfl, rfl, rfl, rfl, rfl, rfl, rfl, fun _ _ => rfl, rfl, rfl⟩
  simp only [bytesToBits, natBits_eq_field]

end Sys2Proof.Proofs

namespace Sys2Proof.Machine

open Sys2Proof.Claims

/-! ## READ commands that clear nothing (R43, R87, R102, R117, R170, R171, R175) -/

/-- A block that answers with data and changes nothing. -/
theorem State.hostCommand_report {s : State} {code : Byte} {n : Nat} {ps extra data : List Byte}
    {block : State → List Byte → Reply × State} (hn : ps.length = n) (h : n ≤ 60) (hb : block s ps = s.report data) :
    s.hostCommand code n (frame ps extra) block = taken s (accepted s code data s) := by
  rw [State.hostCommand_frame s code ps extra block hn h, hb, State.report, State.answer_ok rfl]

/-- A block that checks its parameters, and then answers with data and changes nothing, or refuses BAD_VALUE. -/
theorem State.hostCommand_checkedReport {s : State} {code : Byte} {n : Nat} {ps extra data : List Byte}
    {block : State → List Byte → Reply × State} {ok : Prop} [Decidable ok] (hn : ps.length = n) (h : n ≤ 60)
    (hb : block s ps = if ok then s.report data else s.refuse .badValue) :
    s.hostCommand code n (frame ps extra) block =
      taken s (if ok then accepted s code data s else refused s code .badValue) := by
  rw [State.hostCommand_frame s code ps extra block hn h, hb]
  split
  · rw [State.report, State.answer_ok rfl]
  · rw [State.refuse, State.answer_refused]

/-- A block whose only parameter is an axis. -/
theorem axisCommand_eq (act : State → Axis → Reply × State) (s : State) (a : Byte) :
    axisCommand act s [a] = if a.toNat ≤ 3 then act s (quadAt a) else s.refuse .badValue := by
  simp only [axisCommand, quadOf_eq]
  by_cases h : a.toNat ≤ 3
  · simp only [h, if_true]
  · simp only [h, if_false]

/-! ## READ_STATUS (R170) -/

theorem lockCode_eq (b : Bool) : lockCode b = if b = true then 0 else 1 := rfl

theorem MarkDir.code_eq (d : MarkDir) : d.code = if d = .positive then 0 else if d = .negative then 1 else 2 := by
  cases d <;> rfl

theorem Datum.bytes_eq : Datum.bytes = datumData := by
  funext d
  simp only [Datum.bytes, datumData, MarkDir.code_eq]

theorem axisStatusBytes_eq (r : Receiver) (p : PhaseUnit) : axisStatusBytes r p = axisData r p := by
  simp only [axisStatusBytes, axisData, optBytes_eq_maybe, Datum.bytes_eq, lockCode_eq, byteOf_eq_one]
  rfl

/-! ## READ_TRACKING (R43) -/

theorem CountDir.code_eq (d : CountDir) : d.code = if d = .plus then 0x01 else 0xFF := by cases d <;> rfl

theorem HistEntry.bytes_eq : HistEntry.bytes = fun h => natBytes 6 h.instant.toNat ++ intBytes 6 h.acc ++
    [if h.kind = .real then 0 else 1, one h.epoch.toNat] := by
  have kind (k : SampleKind) : k.code = if k = .real then 0 else 1 := by cases k <;> rfl
  funext h
  simp only [HistEntry.bytes, kind, byteOf_eq_one]

theorem natBytes_one (n : Nat) : natBytes 1 n = [one n] := by simp [natBytes, one]

theorem PhaseUnit.trackingBytes_eq (p : PhaseUnit) : p.trackingBytes = trackingData p := by
  have single : (natBytes 1) = fun n => [one n] := funext natBytes_one
  simp only [PhaseUnit.trackingBytes, trackingData, optBytes_eq_maybe, listBytes_eq_counted, CountDir.code_eq,
    HistEntry.bytes_eq, byteOf_eq_one, single]

/-! ## READ_FRAME_STATE and READ_SERVO_STATE (R102, R117) -/

theorem FrameUnit.bytes_eq (x : FrameUnit) : x.bytes = frameData x := by
  have mode : x.mode.code = if x.mode = .externalWithFallback then 0 else 1 := by cases x.mode <;> rfl
  have source : x.source.code = if x.source = .external then 0 else 1 := by cases x.source <;> rfl
  simp only [FrameUnit.bytes, frameData, mode, source, Four.toList_flatMap, byteOf_eq_one]
  rfl

theorem listBytes_layout (l : List SlotDesc) : listBytes SlotDesc.bytes l = layoutData l := by
  have unit : SlotDesc.bytes = fun d => [one d.source.toNat, if d.unit = .pm then 0 else 1] := by
    funext d
    rw [SlotDesc.bytes]
    cases d.unit <;> rfl
  simp only [listBytes_eq_counted, layoutData, unit]

theorem ServoPort.bytes_eq (x : ServoPort) : x.bytes = servoData x := by
  have staged : stagedBytes x.staged = [flagByte x.staged.isSome] ++ layoutData (x.staged.getD []) := by
    rw [stagedBytes, listBytes_layout]
    rfl
  have read : x.read.bytes = (match x.read with
      | .reading r => 1 :: natBytes 2 r.clocks
      | .idle => [0, 0, 0]
      | .spent => [0, 0, 0]) := by cases x.read <;> rfl
  simp only [ServoPort.bytes, servoData, listBytes_layout, staged, read, optBytes_eq_maybe, List.append_assoc]
  rfl

/-! ## READ_POSITION (R60, R61, R87, R171) -/

theorem PhaseUnit.reported_eq_countOf (p : PhaseUnit) : p.reported = countOf p := by
  unfold PhaseUnit.reported countOf
  cases p.state <;> rfl

theorem State.stepsOf_eq_stepsNow (s : State) (x : Source) : s.stepsOf x = stepsNow s x := by
  have reported : s.reported = fun a => countOf (s.phu.get a) := funext fun a => PhaseUnit.reported_eq_countOf _
  rw [State.stepsOf, reported]
  cases x <;> rfl

theorem State.pmOf_eq_lengthNow (s : State) (x : Source) : s.pmOf x = lengthNow s x := by
  have reported : s.reported = fun a => countOf (s.phu.get a) := funext fun a => PhaseUnit.reported_eq_countOf _
  rw [State.pmOf, reported]
  cases x <;> rfl

theorem allOf_phys (s : State) (a : Axis) (p : PhaseUnit → Bool) : allOf s (.phys a) p = p (s.phu.get a) := by
  cases a <;> simp [allOf, four, Source.dependsOn, beq_eq_decide]

theorem anyOf_phys (s : State) (a : Axis) (p : PhaseUnit → Bool) : anyOf s (.phys a) p = p (s.phu.get a) := by
  cases a <;> simp [anyOf, four, Source.dependsOn, beq_eq_decide]

theorem allOf_pair (s : State) {x : Source} (hx : x = .m ∨ x = .w) (p : PhaseUnit → Bool) :
    allOf s x p = (p (s.phu.get .q0) && p (s.phu.get .q1)) := by
  rcases hx with rfl | rfl <;> simp [allOf, four, Source.dependsOn, beq_eq_decide]

theorem anyOf_pair (s : State) {x : Source} (hx : x = .m ∨ x = .w) (p : PhaseUnit → Bool) :
    anyOf s x p = (p (s.phu.get .q0) || p (s.phu.get .q1)) := by
  rcases hx with rfl | rfl <;> simp [anyOf, four, Source.dependsOn, beq_eq_decide]

/-- The slot of a pair of axes that are both OFF is zero, and any other is formed from the two (R110). -/
theorem State.baseSlot_pair (s : State) {x : Source} (hx : x = .m ∨ x = .w) :
    s.baseSlot x = if s.bothOff then Slot.zero
      else pairSlot (s.phu.get .q0) (s.phu.get .q1) (s.stepsOf x) s.mEpoch (s.watchTripped x) := by
  rcases hx with rfl | rfl <;> rfl

/-- The flags of a slot that is not held, from the axes its source is formed from (R108, R110). -/
structure SlotFlags (s : State) (x : Source) (y : Slot) : Prop where
  valid : y.valid = allOf s x (fun p => decide (p.state = .referenced) && p.lockView)
  fault : y.fault = anyOf s x (fun p => decide (p.state = .faulted))
  armed : y.armed = anyOf s x (fun p => decide (p.state = .armed))
  locked : y.locked = (!allOf s x (fun p => decide (p.state = .off)) && allOf s x (fun p => p.lockView))
  epoch : y.epoch = if allOf s x (fun p => decide (p.state = .off)) = true then 0 else s.epochOf x

theorem State.baseSlot_flags (s : State) (x : Source) : SlotFlags s x (s.baseSlot x) := by
  have pair (y : Source) (hy : y = .m ∨ y = .w) : SlotFlags s y (s.baseSlot y) := by
    have epoch : s.epochOf y = s.mEpoch := by rcases hy with rfl | rfl <;> rfl
    rw [s.baseSlot_pair hy]
    cases h0 : (s.phu.get .q0).state <;> cases h1 : (s.phu.get .q1).state <;>
      constructor <;> simp [allOf_pair s hy, anyOf_pair s hy, State.bothOff, Slot.zero, pairSlot, PhaseUnit.valid, h0, h1, epoch]
  cases x with
  | phys a =>
    simp only [State.baseSlot, State.stepSlot, PhaseUnit.liveSlot]
    cases h : (s.phu.get a).state <;> constructor <;> simp [allOf_phys, anyOf_phys, h, PhaseUnit.valid, State.epochOf]
  | m => exact pair .m (.inl rfl)
  | w => exact pair .w (.inr rfl)

theorem sourceSetOf_has (m : Byte) (x : Source) : SourceSet.has (BitVec.ofNat 6 m.toNat) x = picksSource m x := by
  have h : x.toNat < 6 := by
    cases x with
    | phys a => cases a <;> decide
    | m => decide
    | w => decide
  simp [SourceSet.has, picksSource, h]

theorem nonEmptySources_eq (m : Byte) :
    nonEmptySources m = if 1 ≤ m.toNat ∧ m.toNat ≤ 63 then some (BitVec.ofNat 6 m.toNat) else none := by
  by_cases h0 : m = 0
  · subst h0; rfl
  · have pos : m.toNat ≠ 0 := fun h => h0 (BitVec.eq_of_toNat_eq h)
    rw [nonEmptySources, if_neg h0, sourceSetOf]
    exact if_congr (by omega) rfl rfl

theorem unitOf_eq (u : Byte) : unitOf u = if u.toNat ≤ 1 then some (if u = 1 then .steps else .pm) else none := by
  rw [unitOf, boolOf_eq]
  split <;> simp

/-- The value of a source in READ_POSITION with its clamp, and whether it is VALID (R87, R171). -/
theorem State.positionOf_eq (s : State) (u : Byte) (x : Source) :
    s.positionOf (if u = 1 then .steps else .pm) x =
      (if u = 1 then stepsNow s x else max (-140737488355327) (min 140737488355327 (lengthNow s x)),
        decide (allOf s x (fun p => decide (p.state = .referenced) && p.lockView) = true ∧
          (u = 1 ∨ (-140737488355327 ≤ lengthNow s x ∧ lengthNow s x ≤ 140737488355327)))) := by
  have valid := (s.baseSlot_flags x).valid
  by_cases h : u = 1
  · simp [h, State.positionOf, State.stepsOf_eq_stepsNow, valid]
  · simp only [h, if_false, false_or, State.positionOf, State.pmOf_eq_lengthNow, valid, clampLength, clampTo, lengthMax]
    simp [overflows, inRange]

/-- A source in the data of READ_POSITION (R171, Formats). -/
theorem State.positionBytes_eq (s : State) (u : Byte) (x : Source) :
    s.positionBytes (if u = 1 then .steps else .pm) x =
      intBytes 6 (if u = 1 then stepsNow s x else max (-140737488355327) (min 140737488355327 (lengthNow s x))) ++
        [one (if allOf s x (fun p => decide (p.state = .off)) = true then 0 else (s.epochOf x).toNat),
          one (
            (if allOf s x (fun p => decide (p.state = .referenced) && p.lockView) = true ∧
              (u = 1 ∨ (-140737488355327 ≤ lengthNow s x ∧ lengthNow s x ≤ 140737488355327)) then 1 else 0) +
            (if anyOf s x (fun p => decide (p.state = .faulted)) = true then 2 else 0) +
            (if anyOf s x (fun p => decide (p.state = .armed)) = true then 4 else 0) +
            (if allOf s x (fun p => decide (p.state = .off)) = false ∧ allOf s x (fun p => p.lockView) = true then 8
              else 0))] := by
  obtain ⟨_, fault, armed, locked, epoch⟩ := s.baseSlot_flags x
  simp only [State.positionBytes, s.positionOf_eq, positionFlags, fault, armed, locked, epoch, byteOf_eq_one,
    decide_eq_true_eq, Bool.and_eq_true, Bool.not_eq_true', apply_ite BitVec.toNat]
  rfl

theorem readPositionBlock_eq (s : State) (m u : Byte) :
    readPositionBlock s [m, u] = if 1 ≤ m.toNat ∧ m.toNat ≤ 63 ∧ u.toNat ≤ 1 then
      s.report ([s.cmu.compGen] ++ natBytes 6 s.tick.toNat ++ (six.filter (fun x => picksSource m x)).flatMap
        (s.positionBytes (if u = 1 then .steps else .pm)))
      else s.refuse .badValue := by
  simp only [readPositionBlock, nonEmptySources_eq, unitOf_eq]
  by_cases hm : 1 ≤ m.toNat ∧ m.toNat ≤ 63
  · by_cases hu : u.toNat ≤ 1
    · simp only [hm, hu, and_self, if_true, SourceSet.members, sourceSetOf_has]
      rfl
    · simp [hm, hu]
  · simp [hm, ← and_assoc]

end Sys2Proof.Machine

namespace Sys2Proof.Proofs

open Sys2Proof.Machine Sys2Proof.Claims

/-- Settles O55: each block answers with the bytes of its items and changes nothing. -/
theorem plainReads : Obligations.PlainReads := by
  refine ⟨fun s low extra => ?_, fun s m u extra => ?_, fun s a extra => ?_, fun s extra => ?_, fun s extra => ?_⟩
  all_goals refine congrArg Host.Outcome.next ?_
  · refine State.hostCommand_report rfl (by decide) ?_
    simp only [State.statusBytes, axisStatusBytes_eq]
    rfl
  · refine State.hostCommand_checkedReport rfl (by decide) ?_
    have epoch (x : Source) : (s.epochOf x).toNat = match x with
        | .phys a => (s.phu.get a).epoch.toNat
        | .m => s.mEpoch.toNat
        | .w => s.mEpoch.toNat := by cases x <;> rfl
    rw [readPositionBlock_eq, funext (s.positionBytes_eq u)]
    simp only [epoch]
    rfl
  · refine State.hostCommand_checkedReport rfl (by decide) ?_
    rw [axisCommand_eq, PhaseUnit.trackingBytes_eq]
  · exact State.hostCommand_report rfl (by decide) (by rw [FrameUnit.bytes_eq])
  · exact State.hostCommand_report rfl (by decide) (by rw [ServoPort.bytes_eq])

end Sys2Proof.Proofs

namespace Sys2Proof.Machine

open Sys2Proof.Claims

/-! ## Settings of the counting record (R21, R23, R30, R37, R52) -/

theorem State.modPhu_eq_withPhu (s : State) (a : Axis) (f : PhaseUnit → PhaseUnit) :
    s.modPhu a f = withPhu s a (f (s.phu.get a)) := rfl

theorem setCorrectionBlock_eq (s : State) (a o1 o0 c1 c0 g1 g0 h1 h0 q1 q0 : Byte) :
    setCorrectionBlock s [a, o1, o0, c1, c0, g1, g0, h1, h0, q1, q0] =
      if a.toNat ≤ 3 ∧ -4096 ≤ bytesToInt [o1, o0] ∧ bytesToInt [o1, o0] ≤ 4095 ∧ -4096 ≤ bytesToInt [c1, c0] ∧
        bytesToInt [c1, c0] ≤ 4095 ∧ 8192 ≤ bytesToNat [g1, g0] ∧ bytesToNat [g1, g0] ≤ 24575 ∧
        8192 ≤ bytesToNat [h1, h0] ∧ bytesToNat [h1, h0] ≤ 24575 ∧ -2048 ≤ bytesToInt [q1, q0] ∧
        bytesToInt [q1, q0] ≤ 2047 then
        (withPhu s (quadAt a) { s.phu.get (quadAt a) with correction := {
          os := bytesToInt [o1, o0], oc := bytesToInt [c1, c0], gs := bytesToNat [g1, g0], gc := bytesToNat [h1, h0],
          q := bytesToInt [q1, q0] } }).accept
      else s.refuse .badValue := by
  simp only [setCorrectionBlock, quadOf_eq, intIn, natIn]
  split
  · rename_i ha hos hoc hgs hgc hq
    simp only [Option.ite_none_right_eq_some, Option.some.injEq] at ha hos hoc hgs hgc hq
    obtain ⟨ha, rfl⟩ := ha
    obtain ⟨hos, rfl⟩ := hos
    obtain ⟨hoc, rfl⟩ := hoc
    obtain ⟨hgs, rfl⟩ := hgs
    obtain ⟨hgc, rfl⟩ := hgc
    obtain ⟨hq, rfl⟩ := hq
    rw [if_pos ⟨ha, hos.1, hos.2, hoc.1, hoc.2, hgs.1, hgs.2, hgc.1, hgc.2, hq⟩, State.modPhu_eq_withPhu]
  · rename_i h
    rw [if_neg]
    rintro ⟨ha, hos0, hos1, hoc0, hoc1, hgs0, hgs1, hgc0, hgc1, hq⟩
    exact h _ _ _ _ _ _ (if_pos ha) (if_pos ⟨hos0, hos1⟩) (if_pos ⟨hoc0, hoc1⟩) (if_pos ⟨hgs0, hgs1⟩)
      (if_pos ⟨hgc0, hgc1⟩) (if_pos hq)

theorem setAmplitudeBlock_eq (s : State) (a l1 l0 h1 h0 : Byte) :
    setAmplitudeBlock s [a, l1, l0, h1, h0] =
      if a.toNat ≤ 3 ∧ bytesToNat [l1, l0] < bytesToNat [h1, h0] ∧ bytesToNat [h1, h0] ≤ 32767 then
        (withPhu s (quadAt a) { s.phu.get (quadAt a) with
          ampLow := bytesToNat [l1, l0], ampHigh := bytesToNat [h1, h0] }).accept
      else s.refuse .badValue := by
  simp only [setAmplitudeBlock, quadOf_eq, natIn]
  split
  · rename_i ha hlow hhigh
    simp only [Option.ite_none_right_eq_some, Option.some.injEq] at ha hlow hhigh
    obtain ⟨ha, rfl⟩ := ha
    obtain ⟨hlow, rfl⟩ := hlow
    obtain ⟨hhigh, rfl⟩ := hhigh
    rw [State.modPhu_eq_withPhu]
    exact if_congr ⟨fun h => ⟨ha, h, hhigh.2⟩, fun h => h.2.1⟩ rfl rfl
  · rename_i h
    rw [if_neg]
    rintro ⟨ha, hlt, hhigh⟩
    exact h _ _ _ (if_pos ha) (if_pos ⟨Nat.zero_le _, hlt.le.trans hhigh⟩) (if_pos ⟨Nat.zero_le _, hhigh⟩)

theorem markDirOf_eq (d : Byte) :
    markDirOf d = if d.toNat ≤ 2 then some (if d = 0 then .positive else if d = 1 then .negative else .any) else none := by
  unfold markDirOf
  split
  case h_1 h => obtain rfl : d = 0 := BitVec.eq_of_toNat_eq h; rfl
  case h_2 h => obtain rfl : d = 1 := BitVec.eq_of_toNat_eq h; rfl
  case h_3 h => obtain rfl : d = 2 := BitVec.eq_of_toNat_eq h; rfl
  case h_4 h0 h1 h2 =>
    have : d.toNat ≠ 0 ∧ d.toNat ≠ 1 ∧ d.toNat ≠ 2 := ⟨h0, h1, h2⟩
    rw [if_neg (by omega)]

theorem accIn_eq (v5 v4 v3 v2 v1 v0 : Byte) :
    accIn [v5, v4, v3, v2, v1, v0] =
      if -549755813888 ≤ count6 v5 v4 v3 v2 v1 v0 ∧ count6 v5 v4 v3 v2 v1 v0 ≤ 549755813887 then
        some (count6 v5 v4 v3 v2 v1 v0) else none := rfl

/-- A block whose parameters are an axis and a datum (R52, R53). -/
theorem datumCommand_eq (act : State → Axis → Datum → Reply × State) (s : State) (a v5 v4 v3 v2 v1 v0 d : Byte) :
    datumCommand act s [a, v5, v4, v3, v2, v1, v0, d] =
      if a.toNat ≤ 3 ∧ -549755813888 ≤ count6 v5 v4 v3 v2 v1 v0 ∧ count6 v5 v4 v3 v2 v1 v0 ≤ 549755813887 ∧ d.toNat ≤ 2 then
        act s (quadAt a) {
          value := count6 v5 v4 v3 v2 v1 v0
          direction := if d = 0 then .positive else if d = 1 then .negative else .any }
      else s.refuse .badValue := by
  simp only [datumCommand, quadOf_eq, accIn_eq, markDirOf_eq]
  split
  · rename_i ha hv hd
    simp only [Option.ite_none_right_eq_some, Option.some.injEq] at ha hv hd
    obtain ⟨ha, rfl⟩ := ha
    obtain ⟨hv, rfl⟩ := hv
    obtain ⟨hd, rfl⟩ := hd
    exact (if_pos ⟨ha, hv.1, hv.2, hd⟩).symm
  · rename_i h
    rw [if_neg]
    rintro ⟨ha, hv0, hv1, hd⟩
    exact h _ _ _ (if_pos ha) (if_pos ⟨hv0, hv1⟩) (if_pos hd)

theorem dirOf_eq (d : Byte) :
    dirOf d = if d = 0x01 ∨ d = 0xFF then some (if d = 0x01 then .plus else .minus) else none := by
  unfold dirOf
  by_cases h1 : d = 0x01
  · simp [h1]
  · by_cases hF : d = 0xFF
    · simp [hF]
    · simp only [h1, hF, if_false, or_self]

theorem setDirectionBlock_eq (s : State) (a d : Byte) :
    setDirectionBlock s [a, d] =
      if ¬ (a.toNat ≤ 3 ∧ (d = 0x01 ∨ d = 0xFF)) then s.refuse .badValue
      else if (s.phu.get (quadAt a)).state = .off ∨ (s.phu.get (quadAt a)).state = .unreferenced then
        (withPhu s (quadAt a) { s.phu.get (quadAt a) with dir := if d = 0x01 then .plus else .minus }).accept
      else s.refuse .state := by
  simp only [setDirectionBlock, quadOf_eq, dirOf_eq]
  split
  · rename_i ha hd
    simp only [Option.ite_none_right_eq_some, Option.some.injEq] at ha hd
    obtain ⟨ha, rfl⟩ := ha
    obtain ⟨hd, rfl⟩ := hd
    rw [if_neg (not_not_intro ⟨ha, hd⟩), State.modPhu_eq_withPhu]
    cases (s.phu.get (quadAt a)).state <;> rfl
  · rename_i h
    rw [if_pos]
    rintro ⟨ha, hd⟩
    exact h _ _ (if_pos ha) (if_pos hd)

theorem setBridgeBlock_eq (s : State) (a n : Byte) :
    setBridgeBlock s [a, n] = if a.toNat ≤ 3 ∧ n.toNat ≤ 3 then
        (withPhu s (quadAt a) ((s.phu.get (quadAt a)).setBridge n.toNat)).accept
      else s.refuse .badValue := by
  simp only [setBridgeBlock, quadOf_eq, natIn, bytesToNat_singleton]
  split
  · rename_i ha hn
    simp only [Option.ite_none_right_eq_some, Option.some.injEq] at ha hn
    obtain ⟨ha, rfl⟩ := ha
    obtain ⟨hn, rfl⟩ := hn
    rw [if_pos ⟨ha, hn.2⟩, State.modPhu_eq_withPhu]
  · rename_i h
    rw [if_neg]
    rintro ⟨ha, hn⟩
    exact h _ _ (if_pos ha) (if_pos ⟨Nat.zero_le _, hn⟩)

end Sys2Proof.Machine

namespace Sys2Proof.Proofs

open Sys2Proof.Machine Sys2Proof.Claims

/-- Settles O58: the checks of each command and the setting it writes. -/
theorem axisSettings : Obligations.AxisSettings := by
  refine ⟨fun s a o1 o0 c1 c0 g1 g0 h1 h0 q1 q0 extra => ?_, fun s a l1 l0 h1 h0 extra => ?_,
    fun s a v5 v4 v3 v2 v1 v0 d extra => ?_, fun s a d extra => ?_, fun s a n extra => ?_⟩
  all_goals refine congrArg Host.Outcome.next ?_
  · exact State.hostCommand_checked rfl (by decide) (setCorrectionBlock_eq ..) rfl
  · exact State.hostCommand_checked rfl (by decide) (setAmplitudeBlock_eq ..) rfl
  · exact State.hostCommand_checked rfl (by decide) (datumCommand_eq _ s a v5 v4 v3 v2 v1 v0 d) rfl
  · rw [State.hostCommand_frame (n := 2) s 0x0A [a, d] extra _ rfl (by decide), setDirectionBlock_eq]
    refine congrArg (taken s) ?_
    split
    · exact s.answer_refused _ _
    · split
      · exact State.answer_ok rfl _ _
      · exact s.answer_refused _ _
  · exact State.hostCommand_checked rfl (by decide) (setBridgeBlock_eq ..) rfl

end Sys2Proof.Proofs

namespace Sys2Proof.Machine

open Sys2Proof.Claims

/-! ## What an update makes of the monitors (R148 to R150) -/

/-- Whether a monitor trips depends on its own record, and on the counts and the validity of the axes. -/
theorem State.monitorTrips_congr {s t : State} {i : MonitorId} (a : Axis)
    (hp : ∀ b, (t.phu.get b).valid = (s.phu.get b).valid ∧ (t.phu.get b).acc = (s.phu.get b).acc)
    (hm : t.mnu.get i = s.mnu.get i) : t.monitorTrips a i = s.monitorTrips a i := by
  simp [State.monitorTrips, State.validOf, hm, hp]

/-- A monitor that trips was enabled, watched the axis and was not tripped, and the axis was VALID. -/
theorem State.monitorTrips_iff {s : State} {a : Axis} {i : MonitorId} (h : s.monitorTrips a i = true) :
    (s.mnu.get i).enabled = true ∧ (s.mnu.get i).source.dependsOn a = true ∧ (s.mnu.get i).tripped = false ∧
      (s.phu.get a).valid = true := by
  simp only [State.monitorTrips, Bool.and_eq_true, Bool.not_eq_true'] at h
  obtain ⟨⟨⟨⟨henabled, hsource⟩, htripped⟩, hvalid⟩, _⟩ := h
  refine ⟨henabled, hsource, htripped, ?_⟩
  cases hx : (s.mnu.get i).source <;> rw [hx] at hsource hvalid <;>
    simp only [Source.dependsOn, State.validOf, sourceValid, beq_iff_eq, Bool.or_eq_true, Bool.and_eq_true] at hsource hvalid
  · rwa [← hsource]
  · rcases hsource with rfl | rfl
    · exact hvalid.1
    · exact hvalid.2
  · rcases hsource with rfl | rfl
    · exact hvalid.1
    · exact hvalid.2

/-- A monitor with its tripped mark set. -/
def Monitor.trip (m : Monitor) : Monitor := { m with tripped := true }

theorem State.tripMonitor_mnu (s : State) (i : MonitorId) : (s.tripMonitor i).mnu = s.mnu.set i (s.mnu.get i).trip := by
  unfold State.tripMonitor
  dsimp only
  split <;> simp [Monitor.trip]

theorem State.evaluateMonitor_get (s : State) (a : Axis) (i m : MonitorId) :
    (s.evaluateMonitor a i).mnu.get m =
      if m = i ∧ s.monitorTrips a m = true then (s.mnu.get m).trip else s.mnu.get m := by
  unfold State.evaluateMonitor
  by_cases h : m = i
  · subst h
    split
    · rename_i ht
      simp [State.tripMonitor_mnu, ht]
    · rename_i ht
      simp [ht]
  · split <;> simp [State.tripMonitor_mnu, h]

/-- The monitors evaluated one after another. -/
theorem State.evaluateMonitors_eq_foldl (s : State) (a : Axis) :
    s.evaluateMonitors a = Quad.all.foldl (fun t i => t.evaluateMonitor a i) s := by
  simp only [State.evaluateMonitors, Quad.all, List.foldl_cons, List.foldl_nil]

/-- The evaluation of one monitor bears on no other. -/
theorem State.evaluateMonitor_trips_ne (s : State) (a : Axis) {i m : MonitorId} (h : m ≠ i) :
    (s.evaluateMonitor a i).monitorTrips a m = s.monitorTrips a m :=
  State.monitorTrips_congr a (fun b => by simp) (by simp [State.evaluateMonitor_get, h])

theorem State.foldl_evaluateMonitor_get (a : Axis) (m : MonitorId) (l : List MonitorId) :
    ∀ s : State, l.Nodup → (l.foldl (fun t i => t.evaluateMonitor a i) s).mnu.get m =
      if m ∈ l ∧ s.monitorTrips a m = true then (s.mnu.get m).trip else s.mnu.get m := by
  induction l with
  | nil => simp
  | cons i l ih =>
    intro s hl
    obtain ⟨hi, hl⟩ := List.nodup_cons.mp hl
    rw [List.foldl_cons, ih _ hl]
    by_cases h : m = i
    · subst h
      simp [hi, State.evaluateMonitor_get]
    · simp [h, s.evaluateMonitor_trips_ne a h, State.evaluateMonitor_get]

theorem Quad.mem_all (i : Quad) : i ∈ Quad.all := by cases i <;> decide

/-- The monitors after an update: those that trip have the mark, and the others stand as they were. -/
theorem State.evaluateMonitors_get (s : State) (a : Axis) (m : MonitorId) :
    (s.evaluateMonitors a).mnu.get m = if s.monitorTrips a m = true then (s.mnu.get m).trip else s.mnu.get m := by
  rw [s.evaluateMonitors_eq_foldl, State.foldl_evaluateMonitor_get a m _ s (by decide)]
  simp [Quad.mem_all]

theorem State.evaluateMonitors_mnu_congr {s t : State} (a : Axis)
    (hp : ∀ b, (t.phu.get b).valid = (s.phu.get b).valid ∧ (t.phu.get b).acc = (s.phu.get b).acc) (hm : t.mnu = s.mnu) :
    (t.evaluateMonitors a).mnu = (s.evaluateMonitors a).mnu := by
  refine Four.ext_get _ _ (fun m => ?_)
  rw [State.evaluateMonitors_get, State.evaluateMonitors_get, State.monitorTrips_congr a hp (by rw [hm]), hm]

/-- A monitor is newly tripped by an update exactly where it trips. -/
theorem State.evaluateMonitors_newly (s : State) (a : Axis) (m : MonitorId) :
    (s.mnu.get m).tripped = false ∧ ((s.evaluateMonitors a).mnu.get m).tripped = true ↔ s.monitorTrips a m = true := by
  rw [State.evaluateMonitors_get]
  constructor
  · rintro ⟨h0, h1⟩
    by_contra hn
    rw [if_neg hn, h0] at h1
    cases h1
  · intro h
    obtain ⟨_, _, h0, _⟩ := State.monitorTrips_iff h
    rw [if_pos h]
    exact ⟨h0, rfl⟩

/-! ## What an update makes of the event flags and of ALERT (R150, R155, R156) -/

theorem State.tripMonitor_flags (s : State) (i : MonitorId) (k : Nat) :
    (s.tripMonitor i).hpt.flags.getLsbD k = true ↔ s.hpt.flags.getLsbD k = true ∨ k = 11 + i.toNat := by
  unfold State.tripMonitor
  dsimp only
  split <;> simp [State.raise_flags, Flag.index]

theorem State.foldl_evaluateMonitor_flags (a : Axis) (k : Nat) (l : List MonitorId) :
    ∀ s : State, l.Nodup → ((l.foldl (fun t i => t.evaluateMonitor a i) s).hpt.flags.getLsbD k = true ↔
      s.hpt.flags.getLsbD k = true ∨ ∃ m ∈ l, k = 11 + m.toNat ∧ s.monitorTrips a m = true) := by
  induction l with
  | nil => simp
  | cons i l ih =>
    intro s hl
    obtain ⟨hi, hl⟩ := List.nodup_cons.mp hl
    have head : (s.evaluateMonitor a i).hpt.flags.getLsbD k = true ↔
        s.hpt.flags.getLsbD k = true ∨ (k = 11 + i.toNat ∧ s.monitorTrips a i = true) := by
      unfold State.evaluateMonitor
      split
      · rename_i h
        simp [State.tripMonitor_flags, h]
      · rename_i h
        simp [h]
    have tail : (∃ m ∈ l, k = 11 + m.toNat ∧ (s.evaluateMonitor a i).monitorTrips a m = true) ↔
        ∃ m ∈ l, k = 11 + m.toNat ∧ s.monitorTrips a m = true := by
      refine exists_congr fun m => and_congr_right fun hm => ?_
      have hne : m ≠ i := fun e => hi (e ▸ hm)
      rw [s.evaluateMonitor_trips_ne a hne]
    rw [List.foldl_cons, ih _ hl, head, tail]
    simp [or_assoc]

/-- An update raises MONITOR_TRIP of each monitor that trips, and no other flag (R150). -/
theorem State.evaluateMonitors_flags (s : State) (a : Axis) (k : Nat) :
    (s.evaluateMonitors a).hpt.flags.getLsbD k = true ↔
      s.hpt.flags.getLsbD k = true ∨ ∃ m : MonitorId, k = 11 + m.toNat ∧ s.monitorTrips a m = true := by
  rw [s.evaluateMonitors_eq_foldl, State.foldl_evaluateMonitor_flags a k _ s (by decide)]
  simp [Quad.mem_all]

theorem State.enterLevel_alc_congr {s t : State} (ha : t.alc = s.alc) (ht : t.tick = s.tick) :
    t.enterLevel.alc = s.enterLevel.alc := by
  simp only [State.enterLevel, State.modAlc_alc, ha, ht]

/-- LEVEL is entered once. -/
theorem State.enterLevel_alc_of_level {s : State} {b : Bool} (h : s.alc.state = .level b) : s.enterLevel.alc = s.alc := by
  simp [State.enterLevel, h]

/-- A tripped monitor whose action is ALERT makes the level condition true (R155). -/
theorem State.levelCondition_of_tripped {s : State} (m : MonitorId) (ht : (s.mnu.get m).tripped = true)
    (ha : (s.mnu.get m).action = .alert) : s.levelCondition = true := by
  have hm : m ∈ s.trippedAlerts := by simp [State.trippedAlerts, Quad.mem_all, ht, ha]
  simp [State.levelCondition, List.ne_nil_of_mem hm]

theorem State.judgeLevel_of_levelCondition {s : State} (h : s.levelCondition = true) : s.judgeLevel = s.enterLevel := by
  simp [State.judgeLevel, h]

theorem State.evaluateMonitor_alc (s : State) (a : Axis) (i : MonitorId) :
    (s.evaluateMonitor a i).alc =
      if s.monitorTrips a i = true ∧ (s.mnu.get i).action = .alert then s.enterLevel.alc else s.alc := by
  unfold State.evaluateMonitor State.tripMonitor
  by_cases ht : s.monitorTrips a i = true
  · by_cases ha : (s.mnu.get i).action = .alert
    · have hl := State.levelCondition_of_tripped
        (s := (s.modMonitor i (fun m => { m with tripped := true })).raise (.monitorTrip i)) i (by simp) (by simp [ha])
      simp only [ht, ha, if_true, and_self, State.raise_frame, State.modMonitor_mnu, Four.get_set_self,
        State.judgeLevel_of_levelCondition hl]
      exact State.enterLevel_alc_congr (by simp) (by simp)
    · simp [ht, ha]
  · simp [ht]

theorem State.foldl_evaluateMonitor_alc (a : Axis) (l : List MonitorId) :
    ∀ s : State, l.Nodup → (l.foldl (fun t i => t.evaluateMonitor a i) s).alc =
      if ∃ m ∈ l, s.monitorTrips a m = true ∧ (s.mnu.get m).action = .alert then s.enterLevel.alc else s.alc := by
  induction l with
  | nil => simp
  | cons i l ih =>
    intro s hl
    obtain ⟨hi, hl⟩ := List.nodup_cons.mp hl
    have tail : (∃ m ∈ l, (s.evaluateMonitor a i).monitorTrips a m = true ∧
          ((s.evaluateMonitor a i).mnu.get m).action = .alert) ↔
        ∃ m ∈ l, s.monitorTrips a m = true ∧ (s.mnu.get m).action = .alert := by
      refine exists_congr fun m => and_congr_right fun hm => ?_
      have hne : m ≠ i := fun e => hi (e ▸ hm)
      rw [s.evaluateMonitor_trips_ne a hne, State.evaluateMonitor_get]
      simp [hne]
    rw [List.foldl_cons, ih _ hl]
    simp only [tail, List.exists_mem_cons_iff]
    have halc := s.evaluateMonitor_alc a i
    by_cases h : s.monitorTrips a i = true ∧ (s.mnu.get i).action = .alert
    · rw [if_pos h] at halc
      obtain ⟨b, hb⟩ := s.enterLevel_state
      rw [State.enterLevel_alc_of_level (b := b) (by rw [halc]; exact hb), halc]
      simp [h]
    · rw [if_neg h] at halc
      rw [State.enterLevel_alc_congr halc (by simp), halc]
      simp only [h, false_or]

/-- An update at which a monitor with the action ALERT trips enters LEVEL (R150, R156). -/
theorem State.evaluateMonitors_alc_of_alert {s : State} {a : Axis} {m : MonitorId} (h : s.monitorTrips a m = true)
    (ha : (s.mnu.get m).action = .alert) : (s.evaluateMonitors a).alc = s.enterLevel.alc := by
  rw [s.evaluateMonitors_eq_foldl, State.foldl_evaluateMonitor_alc a _ s (by decide), if_pos ⟨m, Quad.mem_all m, h, ha⟩]

/-- An update at which none trips leaves ALERT alone. -/
theorem State.evaluateMonitors_alc_of_none {s : State} {a : Axis}
    (h : ∀ m, s.monitorTrips a m = true → (s.mnu.get m).action ≠ .alert) : (s.evaluateMonitors a).alc = s.alc := by
  rw [s.evaluateMonitors_eq_foldl, State.foldl_evaluateMonitor_alc a _ s (by decide), if_neg]
  rintro ⟨m, _, ht, ha⟩
  exact h m ht ha

end Sys2Proof.Machine

namespace Sys2Proof.Machine

open Sys2Proof.Claims

/-! ## What the capture in flight sees (R42, R128, R130, R133 to R135) -/

/-- Two states stand alike for the Line Capture Unit and its outgoing messages. -/
structure State.SameCapture (s t : State) : Prop where
  tick : t.tick = s.tick
  lcu : t.lcu = s.lcu
  msl : t.msl = s.msl
  ready : t.flagSet .recordsReady = s.flagSet .recordsReady
  overflow : t.flagSet .captureOverflow = s.flagSet .captureOverflow

theorem State.SameCapture.refl (s : State) : s.SameCapture s := ⟨rfl, rfl, rfl, rfl, rfl⟩

theorem State.SameCapture.symm {s t : State} (h : s.SameCapture t) : t.SameCapture s :=
  ⟨h.tick.symm, h.lcu.symm, h.msl.symm, h.ready.symm, h.overflow.symm⟩

theorem State.SameCapture.trans {s t u : State} (h : s.SameCapture t) (k : t.SameCapture u) : s.SameCapture u :=
  ⟨k.tick.trans h.tick, k.lcu.trans h.lcu, k.msl.trans h.msl, k.ready.trans h.ready, k.overflow.trans h.overflow⟩

/-- A change that reaches neither the capture nor the host port. -/
theorem State.SameCapture.of_frame {s t : State} (ht : t.tick = s.tick) (hl : t.lcu = s.lcu) (hm : t.msl = s.msl)
    (hh : t.hpt = s.hpt) : s.SameCapture t :=
  ⟨ht, hl, hm, by simp only [State.flagSet, hh], by simp only [State.flagSet, hh]⟩

theorem State.SameCapture.modLcu {s t : State} (h : s.SameCapture t) (f : LineCapture → LineCapture) :
    (s.modLcu f).SameCapture (t.modLcu f) :=
  ⟨h.tick, congrArg f h.lcu, h.msl, h.ready, h.overflow⟩

theorem State.SameCapture.raise {s t : State} (h : s.SameCapture t) (f : Flag) : (s.raise f).SameCapture (t.raise f) where
  tick := h.tick
  lcu := h.lcu
  msl := h.msl
  ready := by simp only [State.flagSet_raise, h.ready]
  overflow := by simp only [State.flagSet_raise, h.overflow]

theorem State.SameCapture.judgeReady {s t : State} (h : s.SameCapture t) : s.judgeReady.SameCapture t.judgeReady where
  tick := by simpa using h.tick
  lcu := by simpa using h.lcu
  msl := by simpa using h.msl
  ready := by simp only [State.flagSet_judgeReady, h.lcu, if_true]
  overflow := by simp only [State.flagSet_judgeReady, h.lcu, h.overflow]

theorem State.SameCapture.offerMessage {s t : State} (h : s.SameCapture t) (m : List Byte) :
    (s.offerMessage m).SameCapture (t.offerMessage m) :=
  ⟨h.tick, h.lcu, by simp only [State.offerMessage, State.modMsl_msl, h.msl, h.tick], h.ready, h.overflow⟩

theorem State.SameCapture.completeCapture {s t : State} (h : s.SameCapture t) (c : Capture) :
    (s.completeCapture c).SameCapture (t.completeCapture c) := by
  have raised (x y : State) (b : Bool) (k : x.SameCapture y) :
      (x.raiseIf b .captureOverflow).SameCapture (y.raiseIf b .captureOverflow) := by
    cases b
    · exact k
    · exact k.raise _
  simp only [State.completeCapture, h.lcu]
  have k := (raised _ _ (decide (Config.recordCapacity ≤ s.lcu.records.length)) (h.modLcu (fun x => { x with
    capture := none
    missed := 0
    recordNo := x.recordNo + 1
    records := enqueueRecord x.policy x.records (recordOf c s.lcu.recordNo s.lcu.missed) }))).judgeReady
  split
  · exact k.offerMessage _
  · exact k

theorem State.SameCapture.completeIfSettled {s t : State} (h : s.SameCapture t) :
    s.completeIfSettled.SameCapture t.completeIfSettled := by
  unfold State.completeIfSettled
  rw [h.lcu]
  split
  · split
    · exact h.completeCapture _
    · exact h
  · exact h

theorem State.SameCapture.progressEntry {s t : State} (h : s.SameCapture t) (a : Axis)
    (f : Capture → PhysEntry → Option HistEntry → EntryProgress) : (s.progressEntry a f).SameCapture (t.progressEntry a f) := by
  unfold State.progressEntry
  rw [h.lcu]
  split
  · exact h
  · split
    · exact h
    · split
      · exact h
      · exact (h.modLcu _).completeIfSettled

theorem State.SameCapture.reportToCapture {s t : State} (h : s.SameCapture t) (a : Axis) (r : AxisReport) :
    (s.reportToCapture a r).SameCapture (t.reportToCapture a r) :=
  h.progressEntry a _

theorem State.SameCapture.offerToCapture {s t : State} (h : s.SameCapture t) {a : Axis}
    (hs : (t.phu.get a).state = (s.phu.get a).state) (e : HistEntry) :
    (s.offerToCapture a e).SameCapture (t.offerToCapture a e) := by
  unfold State.offerToCapture
  rw [hs]
  exact h.progressEntry a _

/-- The flags of the record queue are no flags of a monitor. -/
theorem State.evaluateMonitors_sameCapture (s : State) (a : Axis) : s.SameCapture (s.evaluateMonitors a) := by
  have low (f : Flag) (hf : f.index < 2) : (s.evaluateMonitors a).flagSet f = s.flagSet f := by
    rw [State.flagSet, State.flagSet, Bool.eq_iff_iff, State.evaluateMonitors_flags]
    refine or_iff_left ?_
    rintro ⟨m, hm, _⟩
    omega
  exact ⟨by simp, by simp, by simp, low _ (by decide), low _ (by decide)⟩

/-- What a loss leaves for the capture in flight: a report where the axis faults, and nothing otherwise (R59, R130). -/
def State.reportLoss (s u : State) (a : Axis) : State :=
  if (s.phu.get a).state = .referenced then u.reportToCapture a .fault else u

/-- A flag that is neither of the record queue's. -/
theorem State.raise_sameCapture (s : State) {f : Flag} (h0 : .recordsReady ≠ f) (h1 : .captureOverflow ≠ f) :
    s.SameCapture (s.raise f) :=
  ⟨rfl, rfl, rfl, by simp [State.flagSet_raise, h0], by simp [State.flagSet_raise, h1]⟩

theorem State.modPhu_sameCapture (s : State) (a : Axis) (f : PhaseUnit → PhaseUnit) : s.SameCapture (s.modPhu a f) :=
  .of_frame rfl rfl rfl rfl

theorem State.judgeLevel_sameCapture (s : State) : s.SameCapture s.judgeLevel :=
  .of_frame (by simp) (by simp) (by simp) (by simp)

theorem State.integrityLoss_sameCapture (s : State) (a : Axis) (c : Cause) (t : Tick) (h : Int) :
    (s.reportLoss s a).SameCapture (s.integrityLoss a c t h) := by
  unfold State.reportLoss
  rcases s.integrityLoss_cases a c t h with ⟨hs | hs, e⟩ | ⟨hs, e⟩ | ⟨hs, e⟩ | ⟨hs, e⟩ <;> rw [e, hs]
  · exact .refl s
  · exact .refl s
  · exact (s.modPhu_sameCapture a _).trans (State.raise_sameCapture _ (by simp) (by simp))
  · have faulted := (s.modPhu_sameCapture a (fun p =>
      { p with state := .faulted, fault := some { first := c, further := 0, tick := t }, hold := h })).trans
      (State.raise_sameCapture _ (f := .axisFault a) (by simp) (by simp))
    exact (faulted.reportToCapture a .fault).trans (State.judgeLevel_sameCapture _)
  · exact s.modPhu_sameCapture a _

/-! ## What a hand-off leaves of the host port and of ALERT's settings -/

/-- The host port but for its event flags and ATTN, and the settings of ALERT, stand as they were. -/
structure State.SamePort (s t : State) : Prop where
  port : t.hpt = { s.hpt with flags := t.hpt.flags, attn := t.hpt.attn }
  guard : t.alc.guard = s.alc.guard
  pulseOnBridge : t.alc.pulseOnBridge = s.alc.pulseOnBridge

theorem State.SamePort.refl (s : State) : s.SamePort s := ⟨rfl, rfl, rfl⟩

theorem State.SamePort.trans {s t u : State} (h : s.SamePort t) (k : t.SamePort u) : s.SamePort u where
  port := by rw [k.port, h.port]
  guard := k.guard.trans h.guard
  pulseOnBridge := k.pulseOnBridge.trans h.pulseOnBridge

/-- A change that reaches neither of the two. -/
theorem State.SamePort.of_frame {s t : State} (hh : t.hpt = s.hpt) (ha : t.alc = s.alc) : s.SamePort t :=
  ⟨by rw [hh], by rw [ha], by rw [ha]⟩

theorem State.SamePort.withFlags {s t : State} (h : s.SamePort t) (flags : BitVec 27) : s.SamePort (t.withFlags flags) :=
  h.trans ⟨rfl, rfl, rfl⟩

theorem State.SamePort.raise {s t : State} (h : s.SamePort t) (f : Flag) : s.SamePort (t.raise f) := h.withFlags _

theorem State.SamePort.modLcu {s t : State} (h : s.SamePort t) (f : LineCapture → LineCapture) : s.SamePort (t.modLcu f) :=
  h.trans (.of_frame rfl rfl)

theorem State.SamePort.offerMessage {s t : State} (h : s.SamePort t) (m : List Byte) : s.SamePort (t.offerMessage m) :=
  h.trans (.of_frame rfl rfl)

theorem State.SamePort.modPhu {s t : State} (h : s.SamePort t) (a : Axis) (f : PhaseUnit → PhaseUnit) :
    s.SamePort (t.modPhu a f) :=
  h.trans (.of_frame rfl rfl)

theorem State.SamePort.modMonitor {s t : State} (h : s.SamePort t) (i : MonitorId) (f : Monitor → Monitor) :
    s.SamePort (t.modMonitor i f) :=
  h.trans (.of_frame rfl rfl)

theorem State.SamePort.completeCapture {s t : State} (h : s.SamePort t) (c : Capture) : s.SamePort (t.completeCapture c) := by
  have queued (x : State) (b : Bool) (k : s.SamePort x) : s.SamePort (x.raiseIf b .captureOverflow).judgeReady := by
    cases b
    · exact k.withFlags _
    · exact (k.raise .captureOverflow).withFlags _
  simp only [State.completeCapture]
  split
  · exact (queued _ _ (h.modLcu _)).offerMessage _
  · exact queued _ _ (h.modLcu _)

theorem State.SamePort.progressEntry {s t : State} (h : s.SamePort t) (a : Axis)
    (f : Capture → PhysEntry → Option HistEntry → EntryProgress) : s.SamePort (t.progressEntry a f) := by
  rcases t.progressEntry_cases a f with e | ⟨c, x, b, _, _, _, e⟩ <;> rw [e]
  · exact h
  · unfold State.completeIfSettled
    split
    · split
      · exact (h.modLcu _).completeCapture _
      · exact h.modLcu _
    · exact h.modLcu _

theorem State.SamePort.judgeLevel {s t : State} (h : s.SamePort t) : s.SamePort t.judgeLevel := by
  have entered : t.SamePort t.enterLevel := by
    constructor <;> simp only [State.enterLevel, State.modAlc_alc, State.modAlc_hpt] <;> split <;> rfl
  rcases t.judgeLevel_cases with ⟨_, e⟩ | ⟨_, _, e⟩ | ⟨_, _, e⟩ <;> rw [e]
  · exact h.trans entered
  · exact h.trans ⟨rfl, rfl, rfl⟩
  · exact h

theorem State.SamePort.evaluateMonitor {s t : State} (h : s.SamePort t) (a : Axis) (i : MonitorId) :
    s.SamePort (t.evaluateMonitor a i) := by
  have tripped : s.SamePort ((t.modMonitor i (fun m => { m with tripped := true })).raise (.monitorTrip i)) :=
    (h.modMonitor i _).raise _
  unfold State.evaluateMonitor State.tripMonitor
  dsimp only
  split
  · split
    · exact tripped.judgeLevel
    · exact tripped
  · exact h

theorem State.SamePort.evaluateMonitors {s t : State} (h : s.SamePort t) (a : Axis) : s.SamePort (t.evaluateMonitors a) :=
  (((h.evaluateMonitor a .q0).evaluateMonitor a .q1).evaluateMonitor a .q2).evaluateMonitor a .q3

theorem State.SamePort.integrityLoss {s t : State} (h : s.SamePort t) (a : Axis) (c : Cause) (n : Tick) (v : Int) :
    s.SamePort (t.integrityLoss a c n v) := by
  rcases t.integrityLoss_cases a c n v with ⟨_, e⟩ | ⟨_, e⟩ | ⟨_, e⟩ | ⟨_, e⟩ <;> rw [e]
  · exact h
  · exact (h.modPhu a _).raise _
  · exact (((h.modPhu a _).raise _).progressEntry a _).judgeLevel
  · exact h.modPhu a _

end Sys2Proof.Machine

namespace Sys2Proof.Machine

open Sys2Proof.Claims

/-! ## A processed sample: what went before its entry is offered, and what the offer brings (R40 to R42) -/

/-- ALERT after the level condition is judged depends on ALERT, the axis states and the monitors (R155 to R157). -/
theorem State.judgeLevel_alc_congr {s t : State} (ht : t.tick = s.tick) (ha : t.alc = s.alc) (hm : t.mnu = s.mnu)
    (hp : ∀ b, (t.phu.get b).state = (s.phu.get b).state) : t.judgeLevel.alc = s.judgeLevel.alc := by
  have hl : t.levelCondition = s.levelCondition := s.levelCondition_congr t hp (fun m => by simp [hm]) (by rw [ha])
  unfold State.judgeLevel
  rw [hl, ha]
  split
  · exact State.enterLevel_alc_congr ha ht
  · split
    · simp only [State.endLevel, State.modAlc_alc, ha, ht]
    · exact ha

/-- The state `x` in which the entry of a sample taken in `s` is offered: what went before is at most a loss and its event, and to
the capture in flight it stands as `u` does. -/
structure State.OfferedFrom (s u x : State) (a : Axis) (lost : Bool) : Prop where
  port : s.SamePort x
  capture : u.SameCapture x
  tick : x.tick = s.tick
  mnu : x.mnu = s.mnu
  flags : ∀ i, 2 ≤ i → i < 27 → (x.hpt.flags.getLsbD i = true ↔ s.hpt.flags.getLsbD i = true ∨
    (lost = true ∧ (s.phu.get a).state = .referenced ∧ i = 3 + a.toNat) ∨
    (lost = true ∧ (s.phu.get a).state = .armed ∧ i = 7 + a.toNat))
  faulted : lost = true → (s.phu.get a).state = .referenced →
    (x.phu.get a).state = .faulted ∧ x.alc = ({ s with phu := x.phu } : State).judgeLevel.alc
  calm : lost = false ∨ (s.phu.get a).state ≠ .referenced →
    x.alc = s.alc ∧ ((s.phu.get a).state = .referenced → (x.phu.get a).state ≠ .faulted)

theorem State.OfferedFrom.start (s : State) (a : Axis) : s.OfferedFrom s s a false where
  port := .refl s
  capture := .refl s
  tick := rfl
  mnu := rfl
  flags i _ _ := by simp
  faulted := nofun
  calm _ := ⟨rfl, fun h => by rw [h]; decide⟩

/-- An integrity loss before the entry (R48, R49). -/
theorem State.OfferedFrom.loss (s : State) (a : Axis) (c : Cause) (t : Tick) (h : Int) :
    s.OfferedFrom (s.reportLoss s a) (s.integrityLoss a c t h) a true where
  port := (State.SamePort.refl s).integrityLoss a c t h
  capture := s.integrityLoss_sameCapture a c t h
  tick := by simp
  mnu := by simp
  flags i hi hi27 := by simpa using s.integrityLoss_flags a c t h hi hi27
  faulted _ hs := by
    refine ⟨by simp [State.integrityLoss_phu, PhaseUnit.lose, hs], ?_⟩
    rw [State.integrityLoss, hs]
    exact State.judgeLevel_alc_congr (by simp) (by simp) (by simp) (fun b => by simp)
  calm hs := by
    have hn : (s.phu.get a).state ≠ .referenced := by simpa using hs
    refine ⟨?_, fun h => absurd h hn⟩
    rcases s.integrityLoss_cases a c t h with ⟨_, e⟩ | ⟨_, e⟩ | ⟨hr, _⟩ | ⟨_, e⟩
    · rw [e]
    · rw [e]; simp
    · exact absurd hr hn
    · rw [e]; simp

/-- A change of the phase unit alone that leaves the axis state, or one without a loss that does not fault. -/
theorem State.OfferedFrom.change {s u x y : State} {a : Axis} {lost : Bool} (h : s.OfferedFrom u x a lost)
    (port : x.SamePort y) (capture : x.SameCapture y) (flags : y.hpt.flags = x.hpt.flags) (alc : y.alc = x.alc)
    (mnu : y.mnu = x.mnu) (others : ∀ b, b ≠ a → y.phu.get b = x.phu.get b)
    (state : (y.phu.get a).state = (x.phu.get a).state ∨ lost = false ∧ (y.phu.get a).state ≠ .faulted) :
    s.OfferedFrom u y a lost where
  port := h.port.trans port
  capture := h.capture.trans capture
  tick := capture.tick.trans h.tick
  mnu := mnu.trans h.mnu
  flags := by rw [flags]; exact h.flags
  faulted hl hs := by
    obtain ⟨hf, ha⟩ := h.faulted hl hs
    have hy : (y.phu.get a).state = (x.phu.get a).state := state.resolve_right (by simp [hl])
    refine ⟨hy.trans hf, (alc.trans ha).trans (State.judgeLevel_alc_congr rfl rfl rfl (fun b => ?_))⟩
    by_cases hb : b = a
    · rw [hb]; exact hy.symm
    · exact congrArg PhaseUnit.state (others b hb).symm
  calm hs := by
    obtain ⟨ha, hf⟩ := h.calm hs
    refine ⟨alc.trans ha, fun hr => ?_⟩
    rcases state with e | ⟨_, e⟩
    · rw [e]; exact hf hr
    · exact e

theorem State.OfferedFrom.modPhu {s u x : State} {a : Axis} {lost : Bool} (h : s.OfferedFrom u x a lost)
    {f : PhaseUnit → PhaseUnit} (hf : (f (x.phu.get a)).state = (x.phu.get a).state) :
    s.OfferedFrom u (x.modPhu a f) a lost :=
  h.change ((State.SamePort.refl x).modPhu a f) (x.modPhu_sameCapture a f) rfl rfl rfl (fun b hb => by simp [hb])
    (.inl (by simpa using hf))

/-- A datum loaded at a mark, without a loss (R55). -/
theorem State.OfferedFrom.loadDatum {s u x : State} {a : Axis} (h : s.OfferedFrom u x a false) (v : Int) :
    s.OfferedFrom u (x.loadDatum a v) a false :=
  h.change (.of_frame (by simp) (by simp)) (.of_frame (by simp) (by simp) (by simp) (by simp)) (by simp) (by simp) (by simp)
    (fun b hb => by simp [State.loadDatum_phu, hb]) (.inr ⟨rfl, by simp [State.loadDatum_phu]⟩)

/-- A report to the capture in flight, without a loss (R59, R130). -/
theorem State.OfferedFrom.report {s u x : State} {a : Axis} (h : s.OfferedFrom u x a false) (r : AxisReport) :
    s.OfferedFrom (u.reportToCapture a r) (x.reportToCapture a r) a false where
  port := h.port.progressEntry a _
  capture := h.capture.reportToCapture a r
  tick := by simpa using h.tick
  mnu := by simpa using h.mnu
  flags i hi hi27 := by rw [State.reportToCapture_flags _ _ _ hi hi27]; exact h.flags i hi hi27
  faulted := nofun
  calm hs := by simpa using h.calm hs

/-- What a processed sample leaves besides its phase unit, whose entry `e` is offered where the capture in flight stands as `u`:
the events, the monitors, ALERT and the capture (R42, R48, R59, R150, R155). -/
structure State.Processed (s u t : State) (a : Axis) (e : HistEntry) (lost : Bool) : Prop where
  port : s.SamePort t
  capture : ∀ w, u.SameCapture w → (w.phu.get a).state = (t.phu.get a).state → (w.offerToCapture a e).SameCapture t
  events : EventsRaised s t a lost
  judged : t.mnu = (({ s with phu := t.phu } : State).evaluateMonitors a).mnu
  alert : ((∃ m, (s.mnu.get m).tripped = false ∧ (t.mnu.get m).tripped = true ∧ (s.mnu.get m).action = .alert) ∨
      ((s.phu.get a).state = .referenced ∧ (t.phu.get a).state = .faulted) →
        t.alc = ({ s with phu := t.phu, mnu := t.mnu } : State).judgeLevel.alc) ∧
    ((∀ m, (s.mnu.get m).tripped = false → (t.mnu.get m).tripped = true → (s.mnu.get m).action = .event) →
      ((s.phu.get a).state = .referenced → (t.phu.get a).state ≠ .faulted) → t.alc = s.alc)

section
variable {s u x : State} {a : Axis} {lost : Bool}

/-- A monitor is newly tripped at the offer exactly where it trips then. -/
theorem State.OfferedFrom.newly (h : s.OfferedFrom u x a lost) (e : HistEntry) (m : MonitorId) :
    (s.mnu.get m).tripped = false ∧ ((x.offerUpdate a e).mnu.get m).tripped = true ↔
      (x.offerToCapture a e).monitorTrips a m = true := by
  rw [← h.mnu, ← State.evaluateMonitors_newly]
  simp [State.offerUpdate]

/-- No monitor trips on an axis that has just faulted, which is not VALID (R60, R148). -/
theorem State.OfferedFrom.not_trips (h : s.OfferedFrom u x a lost) (hl : lost = true) (hr : (s.phu.get a).state = .referenced)
    (e : HistEntry) (m : MonitorId) : ¬ (x.offerToCapture a e).monitorTrips a m = true := by
  intro hm
  obtain ⟨_, _, _, hv⟩ := State.monitorTrips_iff hm
  simp [PhaseUnit.valid, (h.faulted hl hr).1] at hv

theorem State.OfferedFrom.events (h : s.OfferedFrom u x a lost) (e : HistEntry) : EventsRaised s (x.offerUpdate a e) a lost := by
  intro i hi hi27
  have trips := exists_congr fun m => and_congr_right fun _ : i = 11 + m.toNat => (h.newly e m).symm
  rw [State.offerUpdate, State.evaluateMonitors_flags, trips, State.offerToCapture, State.progressEntry_flags _ _ _ hi hi27,
    h.flags i hi hi27, or_assoc, or_assoc]
  rfl

/-- Where the axis faults, or a monitor with the action ALERT trips, ALERT is as the level condition judges it (R150, R155). -/
theorem State.OfferedFrom.alert_judged (h : s.OfferedFrom u x a lost) (e : HistEntry)
    (hj : (∃ m, (s.mnu.get m).tripped = false ∧ ((x.offerUpdate a e).mnu.get m).tripped = true ∧
      (s.mnu.get m).action = .alert) ∨ ((s.phu.get a).state = .referenced ∧ (x.phu.get a).state = .faulted)) :
    (x.offerUpdate a e).alc = ({ s with phu := x.phu, mnu := (x.offerUpdate a e).mnu } : State).judgeLevel.alc := by
  by_cases hlost : lost = true ∧ (s.phu.get a).state = .referenced
  · obtain ⟨hl, hr⟩ := hlost
    have none (m : MonitorId) := h.not_trips hl hr e m
    have hm : (x.offerUpdate a e).mnu = s.mnu := Four.ext_get _ _ fun m => by
      rw [State.offerUpdate, State.evaluateMonitors_get, if_neg (none m)]
      simp [h.mnu]
    rw [hm, State.offerUpdate, State.evaluateMonitors_alc_of_none (fun m k => absurd k (none m))]
    simpa using (h.faulted hl hr).2
  · obtain ⟨hxalc, hx⟩ := h.calm (by cases lost <;> simp_all)
    obtain ⟨m, h0, h1, ha⟩ := hj.resolve_right (fun k => hx k.1 k.2)
    have trips := (h.newly e m).mp ⟨h0, h1⟩
    have action : ((x.offerUpdate a e).mnu.get m).action = .alert := by
      rw [State.offerUpdate, State.evaluateMonitors_get, if_pos trips]
      simpa [Monitor.trip, h.mnu] using ha
    have level : ({ s with phu := x.phu, mnu := (x.offerUpdate a e).mnu } : State).levelCondition = true :=
      State.levelCondition_of_tripped m h1 action
    rw [State.judgeLevel_of_levelCondition level, State.offerUpdate,
      State.evaluateMonitors_alc_of_alert trips (by simpa [h.mnu] using ha)]
    exact State.enterLevel_alc_congr (by simpa using hxalc) (by simpa using h.tick)

/-- Otherwise ALERT stands as it was. -/
theorem State.OfferedFrom.alert_same (h : s.OfferedFrom u x a lost) (e : HistEntry)
    (hevent : ∀ m, (s.mnu.get m).tripped = false → ((x.offerUpdate a e).mnu.get m).tripped = true →
      (s.mnu.get m).action = .event)
    (hcalm : (s.phu.get a).state = .referenced → (x.phu.get a).state ≠ .faulted) : (x.offerUpdate a e).alc = s.alc := by
  have hnone (m : MonitorId) (hm : (x.offerToCapture a e).monitorTrips a m = true) :
      ((x.offerToCapture a e).mnu.get m).action ≠ .alert := by
    obtain ⟨h0, h1⟩ := (h.newly e m).mpr hm
    simp [h.mnu, hevent m h0 h1]
  have hlost : lost = false ∨ (s.phu.get a).state ≠ .referenced := by
    by_contra hc
    simp only [not_or, Bool.not_eq_false, not_not] at hc
    exact hcalm hc.2 (h.faulted hc.1 hc.2).1
  rw [State.offerUpdate, State.evaluateMonitors_alc_of_none hnone]
  simpa using (h.calm hlost).1

/-- The offer of an entry makes of the state before it a processed sample. -/
theorem State.OfferedFrom.offerUpdate (h : s.OfferedFrom u x a lost) (e : HistEntry) :
    s.Processed u (x.offerUpdate a e) a e lost where
  port := (h.port.progressEntry a _).evaluateMonitors a
  capture w hw hs :=
    ((hw.symm.trans h.capture).offerToCapture (by rw [hs]; simp) e).trans (State.evaluateMonitors_sameCapture _ a)
  events := h.events e
  judged := State.evaluateMonitors_mnu_congr a (fun b => by simp) (by simp [h.mnu])
  alert := by
    have hphu : (x.offerUpdate a e).phu = x.phu := by simp
    rw [hphu]
    exact ⟨h.alert_judged e, h.alert_same e⟩

end

theorem State.OfferedFrom.pushHistory {s u x : State} {a : Axis} {lost : Bool} (h : s.OfferedFrom u x a lost) (e : HistEntry) :
    s.OfferedFrom u (x.pushHistory a e) a lost :=
  h.modPhu rfl

/-- The sample just processed enters the history, and its entry is offered. -/
theorem State.OfferedFrom.enterSample {s u x : State} {a : Axis} {lost : Bool} (h : s.OfferedFrom u x a lost) {t : Tick}
    {k : SampleKind} {e : HistEntry} (he : (x.phu.get a).entryAt t k = e) : s.Processed u (x.enterSample a t k) a e lost := by
  subst he
  exact (h.pushHistory _).offerUpdate _

end Sys2Proof.Machine

namespace Sys2Proof.Machine

open Sys2Proof.Claims

/-! ## The kinds of samples as processed samples (R26 to R34) -/

/-- An offer reaches the capture in flight from every state that stands alike to it. -/
theorem State.Processed.offered {s u t : State} {a : Axis} {e : HistEntry} {lost : Bool} (h : s.Processed u t a e lost)
    (hl : (t.phu.get a).history.getLast? = some e) {w : State} (hw : u.SameCapture w)
    (hs : (w.phu.get a).state = (t.phu.get a).state) : OfferedToCapture w t a := by
  intro e' he'
  obtain rfl : e = e' := Option.some.inj (hl.symm.trans he')
  have same := h.capture w hw hs
  refine ⟨same.lcu, same.msl, fun i hi => ?_⟩
  interval_cases i
  · exact same.ready
  · exact same.overflow

/-- The event flags compared are those of the first state. -/
theorem State.Processed.rebase {s v u t : State} {a : Axis} {e : HistEntry} {lost : Bool} (h : v.Processed u t a e lost)
    (hh : v.hpt = s.hpt) (ha : v.alc = s.alc) (hm : v.mnu = s.mnu) (ht : v.tick = s.tick)
    (hs : (v.phu.get a).state = (s.phu.get a).state) : s.Processed u t a e lost where
  port := (State.SamePort.of_frame hh ha).trans h.port
  capture := h.capture
  events := by simpa only [EventsRaised, hh, hm, hs] using h.events
  judged := h.judged.trans (State.evaluateMonitors_mnu_congr a (fun _ => ⟨rfl, rfl⟩) hm)
  alert := by
    have judge : ({ v with phu := t.phu, mnu := t.mnu } : State).judgeLevel.alc =
        ({ s with phu := t.phu, mnu := t.mnu } : State).judgeLevel.alc :=
      State.judgeLevel_alc_congr ht ha rfl (fun _ => rfl)
    have := h.alert
    rwa [judge, hm, hs, ha] at this

theorem State.anchorSample_processed (s : State) (a : Axis) (p : BitVec 9) (t : Tick) :
    s.Processed s (s.anchorSample a p t) a
      { instant := t, acc := (s.phu.get a).acc, kind := .real, epoch := (s.phu.get a).epoch } false := by
  unfold State.anchorSample
  exact State.OfferedFrom.enterSample ((State.OfferedFrom.start s a).modPhu rfl)
    (by simp [PhaseUnit.entryAt, PhaseUnit.clearMissing])

theorem State.stepViolation_processed (s : State) (a : Axis) (p : BitVec 9) (t : Tick) :
    s.Processed (s.reportLoss s a) (s.stepViolation a p t) a
      { instant := t, acc := (s.phu.get a).acc, kind := .real, epoch := (s.phu.get a).epoch } true := by
  unfold State.stepViolation
  exact State.OfferedFrom.enterSample ((State.OfferedFrom.loss s a .step t (s.phu.get a).acc).modPhu rfl)
    (by simp [PhaseUnit.entryAt, PhaseUnit.clearMissing, State.integrityLoss_phu])

/-- The RANGE loss of a change, where that would carry ACC outside its range (R31). -/
theorem State.OfferedFrom.rangeLoss (s : State) (a : Axis) (change : Int) (t : Tick) :
    s.OfferedFrom (if leavesRange (s.phu.get a).acc change then s.reportLoss s a else s) (s.rangeLoss a change t) a
      (leavesRange (s.phu.get a).acc change) := by
  unfold State.rangeLoss
  cases leavesRange (s.phu.get a).acc change
  · exact .start s a
  · exact .loss s a .range t _

/-- A RANGE loss leaves the tracking state and the settings that a sample reads. -/
@[simp] theorem PhaseUnit.ranged_frame (p : PhaseUnit) (change : Int) (t : Tick) :
    (p.ranged change t).correction = p.correction ∧
    (p.ranged change t).ampLow = p.ampLow ∧
    (p.ranged change t).ampHigh = p.ampHigh ∧
    (p.ranged change t).dir = p.dir ∧
    (p.ranged change t).bridgeMax = p.bridgeMax ∧
    (p.ranged change t).pendingBridgeMax = p.pendingBridgeMax ∧
    (p.ranged change t).pRef = p.pRef ∧
    (p.ranged change t).dLast = p.dLast ∧
    (p.ranged change t).lastInterval = p.lastInterval ∧
    (p.ranged change t).realRun = p.realRun ∧
    (p.ranged change t).missing = p.missing ∧
    (p.ranged change t).acc = p.acc ∧
    (p.ranged change t).history = p.history ∧
    (p.ranged change t).saturated = p.saturated ∧
    (p.ranged change t).bridged = p.bridged ∧
    (p.ranged change t).lockView = p.lockView ∧
    (p.ranged change t).epoch = p.epoch ∧
    (p.ranged change t).preset = p.preset := by
  unfold PhaseUnit.ranged
  split <;> simp

theorem State.countSample_processed {s : State} {a : Axis} {mark : Bool} {d : Int}
    (h : (s.phu.get a).loads mark ((s.phu.get a).dir.sign * d) = none) (p : BitVec 9) (t : Tick) :
    s.Processed (if leavesRange (s.phu.get a).acc ((s.phu.get a).dir.sign * d) then s.reportLoss s a else s)
      (s.countSample a mark p d t) a
      { instant := t, acc := movedAcc (s.phu.get a).acc ((s.phu.get a).dir.sign * d), kind := .real,
        epoch := (s.phu.get a).epoch }
      (leavesRange (s.phu.get a).acc ((s.phu.get a).dir.sign * d)) := by
  rcases s.countSample_cases a mark p d t with ⟨_, e⟩ | ⟨v, _, _, hv, _⟩
  · rw [e]
    exact State.OfferedFrom.enterSample ((State.OfferedFrom.rangeLoss s a _ t).modPhu rfl)
      (by simp [PhaseUnit.entryAt, PhaseUnit.counted, PhaseUnit.clearMissing, State.rangeLoss_phu])
  · rw [h] at hv
    cases hv

theorem State.countSample_datum_processed {s : State} {a : Axis} {mark : Bool} {d v : Int}
    (h : (s.phu.get a).loads mark ((s.phu.get a).dir.sign * d) = some v) (p : BitVec 9) (t : Tick) :
    s.Processed (s.reportToCapture a .epochChange) (s.countSample a mark p d t) a
      { instant := t, acc := v, kind := .real, epoch := (s.phu.get a).epoch + 1 } false := by
  rcases s.countSample_cases a mark p d t with ⟨hn, _⟩ | ⟨v', w, e', hv, hw, he', e⟩
  · rw [h] at hn
    cases hn
  · obtain rfl : v = v' := Option.some.inj (h.symm.trans hv)
    have entry : e' = { instant := t, acc := v, kind := .real, epoch := (s.phu.get a).epoch + 1 } := by
      simp [he', hw, State.loadDatum_phu, PhaseUnit.entryAt, PhaseUnit.counted, PhaseUnit.clearMissing]
    rw [e, entry, hw]
    exact (((((State.OfferedFrom.start s a).modPhu rfl).loadDatum v).pushHistory _).report .epochChange).offerUpdate _

theorem State.bridgeSample_processed (s : State) (a : Axis) (tn place : Tick) :
    s.Processed
      (if leavesRange (s.phu.get a).acc ((s.phu.get a).dir.sign * (s.phu.get a).dLast) then s.reportLoss s a else s)
      (s.bridgeSample a tn place) a
      { instant := place, acc := movedAcc (s.phu.get a).acc ((s.phu.get a).dir.sign * (s.phu.get a).dLast),
        kind := .bridged, epoch := (s.phu.get a).epoch }
      (leavesRange (s.phu.get a).acc ((s.phu.get a).dir.sign * (s.phu.get a).dLast)) := by
  unfold State.bridgeSample
  exact State.OfferedFrom.enterSample ((State.OfferedFrom.rangeLoss s a _ tn).modPhu rfl)
    (by simp [PhaseUnit.entryAt, State.rangeLoss_phu])

end Sys2Proof.Machine

namespace Sys2Proof.Machine

open Sys2Proof.Claims

/-! ## The range of ACC and the datum at a mark (R30, R31, R55) -/

theorem changeOf_eq (u : PhaseUnit) (d : Int) : changeOf u d = u.dir.sign * d := by
  unfold changeOf
  cases u.dir <;> rfl

theorem movedAcc_of_inAcc {acc change : Int} (h : InAcc (acc + change)) : movedAcc acc change = acc + change := by
  unfold InAcc at h
  unfold movedAcc clampTo
  omega

theorem leavesRange_iff (acc change : Int) : leavesRange acc change = true ↔ ¬ InAcc (acc + change) := by
  unfold leavesRange movedAcc clampTo InAcc accMin accMax
  rw [bne_iff_ne]
  omega

theorem leavesRange_of_inAcc {acc change : Int} (h : InAcc (acc + change)) : leavesRange acc change = false := by
  rw [Bool.eq_false_iff, ne_eq, leavesRange_iff]
  exact not_not_intro h

/-- A change that leaves the range sets ACC to the limit on its side (R31). -/
theorem movedAcc_of_not_inAcc {acc change : Int} (h : InAcc acc) (hn : ¬ InAcc (acc + change)) :
    movedAcc acc change = if 0 < change then 549755813887 else -549755813888 := by
  unfold InAcc accMin accMax at *
  unfold movedAcc clampTo accMin accMax
  split <;> omega

theorem PhaseUnit.ranged_of_inAcc {p : PhaseUnit} {change : Int} (h : InAcc (p.acc + change)) (t : Tick) :
    p.ranged change t = p := by
  simp [PhaseUnit.ranged, leavesRange_of_inAcc h]

theorem PhaseUnit.ranged_of_not_inAcc {p : PhaseUnit} {change : Int} (h : ¬ InAcc (p.acc + change)) (t : Tick) :
    p.ranged change t = p.lose .range t p.acc := by
  simp [PhaseUnit.ranged, (leavesRange_iff p.acc change).mpr h]

/-- The requirement of a datum is met where neither direction it may name is missed (R55). -/
theorem MarkDir.met_iff (r : MarkDir) (change : Int) :
    r.met change = true ↔ (r = .positive → 0 < change) ∧ (r = .negative → change < 0) := by
  cases r <;> simp [MarkDir.met]

/-- A mark loads the value of an armed datum whose requirement its change meets (R55). -/
theorem PhaseUnit.loads_armed {p : PhaseUnit} {change : Int} {armed : Datum} (hs : p.state = .armed)
    (ha : p.armed = some armed) (hc : InAcc (p.acc + change)) (hm : armed.direction.met change = true) :
    p.loads true change = some armed.value := by
  simp [PhaseUnit.loads, PhaseUnit.markDatum, leavesRange_of_inAcc hc, hs, ha, hm]

/-- No datum is loaded outside ARMED, without a mark, at a change that leaves the range, or where the requirement is missed. -/
theorem PhaseUnit.loads_none {p : PhaseUnit} {mark : Bool} {change : Int}
    (h : p.state ≠ .armed ∨ mark = false ∨ ¬ InAcc (p.acc + change) ∨
      ∃ armed, p.armed = some armed ∧ armed.direction.met change = false) :
    p.loads mark change = none := by
  unfold PhaseUnit.loads
  split
  next ho =>
    rw [Bool.and_eq_true, Bool.not_eq_true', leavesRange, bne_eq_false_iff_eq] at ho
    unfold PhaseUnit.markDatum
    split
    next d hs hd =>
      rcases h with h | h | h | ⟨armed, ha, hm⟩
      · exact absurd hs h
      · simp [h] at ho
      · exact absurd (ho.2 ▸ movedAcc_inAcc _ _) h
      · obtain rfl : armed = d := Option.some.inj (ha.symm.trans hd)
        simp [hm]
    · rfl
  · rfl

/-! ## The three kinds of real samples (R26 to R29) -/

theorem State.takePhase_count {s : State} {a : Axis} {p ref : BitVec 9} (h : (s.phu.get a).pRef = some ref)
    (hd : (p - ref).toInt.natAbs ≤ 192) (mark : Bool) (t : Tick) :
    s.takePhase a mark p t = s.countSample a mark p (p - ref).toInt t := by
  simp only [State.takePhase, h, hd, if_true]

theorem State.takePhase_violation {s : State} {a : Axis} {p ref : BitVec 9} (h : (s.phu.get a).pRef = some ref)
    (hd : 192 < (p - ref).toInt.natAbs) (mark : Bool) (t : Tick) :
    s.takePhase a mark p t = s.stepViolation a p t := by
  simp only [State.takePhase, h, Nat.not_le.mpr hd, if_false]

/-- What a real sample leaves of its phase unit whatever it counts (R26, R28, R29, R37, R39). -/
structure PhaseUnit.Sampled (p q : PhaseUnit) (ref : BitVec 9) : Prop where
  pRef : q.pRef = some ref
  missing : q.missing = 0
  marks : q.saturated = p.saturated ∧ q.bridged = p.bridged
  budget : q.bridgeMax = p.pendingBridgeMax.getD p.bridgeMax ∧ q.pendingBridgeMax = none
  settings : q.correction = p.correction ∧ q.dir = p.dir ∧ q.ampLow = p.ampLow ∧ q.ampHigh = p.ampHigh ∧
    q.preset = p.preset ∧ q.lockView = p.lockView

theorem State.anchorSample_sampled (s : State) (a : Axis) (p : BitVec 9) (t : Tick) :
    (s.phu.get a).Sampled ((s.anchorSample a p t).phu.get a) p := by
  rw [State.anchorSample_phu, Four.get_set_self]
  exact ⟨rfl, rfl, ⟨rfl, rfl⟩, ⟨rfl, rfl⟩, ⟨rfl, rfl, rfl, rfl, rfl, rfl⟩⟩

theorem State.countSample_sampled (s : State) (a : Axis) (mark : Bool) (p : BitVec 9) (d : Int) (t : Tick) :
    (s.phu.get a).Sampled ((s.countSample a mark p d t).phu.get a) p := by
  rw [State.countSample_phu, Four.get_set_self]
  split <;> constructor <;>
    simp [PhaseUnit.entering, PhaseUnit.atDatum, PhaseUnit.counted, PhaseUnit.clearMissing]

theorem State.stepViolation_sampled (s : State) (a : Axis) (p : BitVec 9) (t : Tick) :
    (s.phu.get a).Sampled ((s.stepViolation a p t).phu.get a) p := by
  rw [State.stepViolation_phu, Four.get_set_self]
  constructor <;> simp [PhaseUnit.entering, PhaseUnit.violated, PhaseUnit.clearMissing]

theorem State.takePhase_sampled (s : State) (a : Axis) (mark : Bool) (p : BitVec 9) (t : Tick) :
    (s.phu.get a).Sampled ((s.takePhase a mark p t).phu.get a) p := by
  unfold State.takePhase
  split
  · exact s.anchorSample_sampled a p t
  · dsimp only
    split
    · exact s.countSample_sampled a mark p _ t
    · exact s.stepViolation_sampled a p t

/-- The last real interval after a counting sample or a step violation (R28, R29). -/
theorem State.takePhase_lastInterval {s : State} {a : Axis} {ref : BitVec 9} (h : (s.phu.get a).pRef = some ref)
    (mark : Bool) (p : BitVec 9) (t : Tick) :
    ((s.takePhase a mark p t).phu.get a).lastInterval = (s.phu.get a).intervalAt t := by
  simp only [State.takePhase, h]
  split
  · rw [State.countSample_phu, Four.get_set_self]
    split <;> simp [PhaseUnit.entering, PhaseUnit.atDatum, PhaseUnit.counted, PhaseUnit.intervalAt]
  · rw [State.stepViolation_phu, Four.get_set_self]
    simp [PhaseUnit.entering, PhaseUnit.violated, PhaseUnit.intervalAt]

/-- Every real sample is a processed sample. -/
theorem State.takePhase_processed (s : State) (a : Axis) (mark : Bool) (p : BitVec 9) (t : Tick) :
    ∃ u e lost, s.Processed u (s.takePhase a mark p t) a e lost := by
  unfold State.takePhase
  split
  · exact ⟨_, _, _, s.anchorSample_processed a p t⟩
  · dsimp only
    split
    · rcases hl : (s.phu.get a).loads mark ((s.phu.get a).dir.sign * _) with _ | v
      · exact ⟨_, _, _, State.countSample_processed hl p t⟩
      · exact ⟨_, _, _, State.countSample_datum_processed hl p t⟩
    · exact ⟨_, _, _, s.stepViolation_processed a p t⟩

/-- A real sample reaches the phase unit of its axis alone. -/
theorem State.takePhase_phu_ne (s : State) {a b : Axis} (hb : b ≠ a) (mark : Bool) (p : BitVec 9) (t : Tick) :
    (s.takePhase a mark p t).phu.get b = s.phu.get b := by
  unfold State.takePhase
  split
  · rw [State.anchorSample_phu, Four.get_set_ne _ _ hb]
  · dsimp only
    split
    · rw [State.countSample_phu, Four.get_set_ne _ _ hb]
    · rw [State.stepViolation_phu, Four.get_set_ne _ _ hb]

theorem State.loadDatum_mEpoch (s : State) (a : Axis) (v : Int) : (s.loadDatum a v).mEpoch = mEpochAfter s a := by
  unfold State.loadDatum State.advanceEpoch mEpochAfter
  cases a <;> rfl

/-- The epoch of M after a counting sample: it advances with a datum of one of its axes, and stays without (R55, R62). -/
theorem State.countSample_mEpoch (s : State) (a : Axis) (mark : Bool) (p : BitVec 9) (d : Int) (t : Tick) :
    (s.countSample a mark p d t).mEpoch =
      if ((s.phu.get a).loads mark ((s.phu.get a).dir.sign * d)).isSome then mEpochAfter s a else s.mEpoch := by
  rcases s.countSample_cases a mark p d t with ⟨h, e⟩ | ⟨v, w, e', h, rfl, rfl, e⟩ <;> rw [e, h]
  · simp
  · simp [State.pushHistory, State.loadDatum_mEpoch, mEpochAfter]

end Sys2Proof.Machine

namespace Sys2Proof.Machine

open Sys2Proof.Claims

/-! ## A frame in sequence up to its phase (R9, R20 to R25, R38) -/

/-- The state in which a frame in sequence that is not LOW reaches stage 4: its receiver, the tally of the sample check and
SATURATED have taken it. -/
def State.beforePhase (s : State) (a : Axis) (f : SampleFields) (x : Corrected) : State :=
  (contributed (withSlr s a { s.slr.get a with
      lastSeq := some f.seq, badRun := 0, silence := some s.tick, goodFrames := (s.slr.get a).goodFrames + 1 }) a 1).modPhu a
    (fun u => { u with saturated := u.saturated || (x.clamped || (s.phu.get a).isHigh x || f.clip) })

theorem State.beforePhase_phu (s : State) (a : Axis) (f : SampleFields) (x : Corrected) :
    (s.beforePhase a f x).phu = s.phu.set a { s.phu.get a with
      saturated := (s.phu.get a).saturated || (x.clamped || (s.phu.get a).isHigh x || f.clip) } := by
  simp [State.beforePhase]

theorem State.beforePhase_get (s : State) (a : Axis) (f : SampleFields) (x : Corrected) :
    ∃ b, (s.beforePhase a f x).phu.get a = { s.phu.get a with saturated := b } :=
  ⟨_, by rw [State.beforePhase_phu, Four.get_set_self]⟩

/-- The rest of the device stands as it was when the frame reaches stage 4. -/
@[simp] theorem State.beforePhase_frame (s : State) (a : Axis) (f : SampleFields) (x : Corrected) :
    (s.beforePhase a f x).tick = s.tick ∧
    (s.beforePhase a f x).mEpoch = s.mEpoch ∧
    (s.beforePhase a f x).cmu = s.cmu ∧
    (s.beforePhase a f x).svp = s.svp ∧
    (s.beforePhase a f x).lcu = s.lcu ∧
    (s.beforePhase a f x).msl = s.msl ∧
    (s.beforePhase a f x).mnu = s.mnu ∧
    (s.beforePhase a f x).alc = s.alc ∧
    (s.beforePhase a f x).hpt = s.hpt ∧
    (s.beforePhase a f x).choices = s.choices ∧
    (s.beforePhase a f x).pending = s.pending ∧
    (s.beforePhase a f x).lines = s.lines :=
  ⟨rfl, rfl, rfl, rfl, rfl, rfl, rfl, rfl, rfl, rfl, rfl, rfl⟩

section
variable {s : State} {a : Axis} {bits : List Bool} {f : SampleFields} {x : Corrected} {p : BitVec 9} {tn : Tick}

/-- The step on a frame in sequence that is not LOW. -/
theorem exec_sampleTaken (h : SampleTaken s a bits f x p tn) :
    exec (.sampleFrame a bits) s = .next ((s.beforePhase a f x).takePhase a f.mark p tn) := by
  have notLow : (s.phu.get a).isLow x = false := by
    rw [Bool.eq_false_iff, ne_eq, PhaseUnit.isLow_iff]
    rintro (h0 | h1)
    · exact h.notLow.1 h0
    · exact absurd h.notLow.2 (Int.not_le.mpr h1)
  rw [exec_sampleFrame, State.takeFrame_inSequence h.good h.locked h.inSequence (by simp), State.handSample_on (by exact h.on),
    State.takeSample_notLow (by exact h.pair) (by exact notLow), h.phase, h.instant]
  rfl

/-- What a frame reaches before stage 4 bears neither on the capture nor on the events and the monitors. -/
theorem State.Processed.ofFrame {u t : State} {e : HistEntry} {lost : Bool} (h : (s.beforePhase a f x).Processed u t a e lost) :
    s.Processed u t a e lost :=
  h.rebase rfl rfl rfl rfl (by simp [State.beforePhase_phu])

/-- What a real sample leaves besides its count. -/
theorem sampleFrameLeft (s : State) (a : Axis) (f : SampleFields) (x : Corrected) (p : BitVec 9) (tn : Tick) :
    SampleFrameLeft s ((s.beforePhase a f x).takePhase a f.mark p tn) a f x p := by
  have hv := s.beforePhase_phu a f x
  generalize ht : (s.beforePhase a f x).takePhase a f.mark p tn = t
  have left := (s.beforePhase a f x).takePhase_sampled a f.mark p tn
  obtain ⟨u, e, lost, hp⟩ := (s.beforePhase a f x).takePhase_processed a f.mark p tn
  rw [hv, Four.get_set_self, ht] at left
  rw [ht] at hp
  have hp := hp.ofFrame
  exact {
    others b hb := by rw [← ht, State.takePhase_phu_ne _ hb, hv, Four.get_set_ne _ _ hb]
    pRef := left.pRef
    missing := left.missing
    saturated := by rw [left.marks.1]; simp [PhaseUnit.isHigh, Bool.or_assoc]
    bridged := left.marks.2
    budget := left.budget
    settings := left.settings
    receivers := by rw [← ht]; simp [State.beforePhase]
    port := hp.port.port
    alert := hp.alert
    blocks := by rw [← ht]; simp
    contribution := by rw [← ht]; simp [State.beforePhase, contributed]
    monitors m hm := by
      rw [hp.judged, State.evaluateMonitors_get, if_neg]
      intro k
      obtain ⟨_, hd, _⟩ := State.monitorTrips_iff k
      rw [hm] at hd
      cases hd
    judged := hp.judged }

end

end Sys2Proof.Machine

namespace Sys2Proof.Machine

open Sys2Proof.Claims

/-! ## The offer of a real sample, seen from the frame that brought it (R42, R59) -/

theorem State.SameCapture.reportLoss {r r' u w : State} {a : Axis} (h : u.SameCapture w)
    (hs : (r'.phu.get a).state = (r.phu.get a).state) : (r.reportLoss u a).SameCapture (r'.reportLoss w a) := by
  unfold State.reportLoss
  rw [hs]
  split
  · exact h.reportToCapture a .fault
  · exact h

@[simp] theorem State.reportLoss_phu (s u : State) (a : Axis) : (s.reportLoss u a).phu = u.phu := by
  unfold State.reportLoss
  split <;> simp

theorem State.beforePhase_sameCapture (s t : State) (a : Axis) (f : SampleFields) (x : Corrected) :
    (s.beforePhase a f x).SameCapture (seen s t) :=
  .of_frame rfl rfl rfl rfl

section
variable {s t : State} {a : Axis} {f : SampleFields} {x : Corrected} {e : HistEntry} {lost : Bool}

theorem State.Processed.offered_seen (h : (s.beforePhase a f x).Processed (s.beforePhase a f x) t a e lost)
    (hl : (t.phu.get a).history.getLast? = some e) : OfferedToCapture (seen s t) t a :=
  h.offered hl (s.beforePhase_sameCapture t a f x) rfl

theorem State.Processed.offered_datum
    (h : (s.beforePhase a f x).Processed ((s.beforePhase a f x).reportToCapture a .epochChange) t a e lost)
    (hl : (t.phu.get a).history.getLast? = some e) :
    OfferedToCapture ((seen s t).reportToCapture a .epochChange) t a :=
  h.offered hl ((s.beforePhase_sameCapture t a f x).reportToCapture a .epochChange) (by simp [seen])

theorem State.Processed.offered_loss
    (h : (s.beforePhase a f x).Processed ((s.beforePhase a f x).reportLoss (s.beforePhase a f x) a) t a e lost)
    (hl : (t.phu.get a).history.getLast? = some e) : OfferedToCapture (s.reportLoss (seen s t) a) t a :=
  h.offered hl ((s.beforePhase_sameCapture t a f x).reportLoss (by simp [State.beforePhase_phu])) (by simp [seen])

end

/-! ## What the kinds of real samples make of the phase unit, in the terms of the statement (R26 to R31, R55) -/

theorem PhaseUnit.SameState.refl (p : PhaseUnit) : p.SameState p := ⟨rfl, rfl, rfl, rfl, rfl⟩

/-- A loss bears on the state, the armed datum, the fault record and the hold value of a phase unit. -/
theorem lossTaken_congr {p p' q q' : PhaseUnit} {c : Cause} {t : Tick} {hold : Int} {further : BitVec 5}
    (h : LossTaken p q c t hold further) (hp : p.SameState p') (hq : q.SameState q') :
    LossTaken p' q' c t hold further := by
  obtain ⟨referenced, armed, faulted, unreferenced⟩ := h
  constructor <;> simpa only [hp.state, hp.fault, hp.hold, hq.state, hq.armed, hq.fault, hq.hold]

/-- The last real interval is set after a REAL entry in a run of real samples, and stays otherwise (R28). -/
theorem PhaseUnit.intervalAt_some {u : PhaseUnit} {e : HistEntry} (h : u.history.getLast? = some e) (t : Tick) :
    u.intervalAt t = if e.kind = .real ∧ u.realRun ≠ 0 then some (t - e.instant).toNat else u.lastInterval := by
  simp [PhaseUnit.intervalAt, h, Nat.one_le_iff_ne_zero]

theorem PhaseUnit.intervalAt_none {u : PhaseUnit} (h : u.history.getLast? = none) (t : Tick) :
    u.intervalAt t = u.lastInterval := by
  simp [PhaseUnit.intervalAt, h]

/-- A change that misses the requirement of a datum (R55). -/
theorem MarkDir.not_met {r : MarkDir} {change : Int} (h : r = .positive ∧ change ≤ 0 ∨ r = .negative ∧ 0 ≤ change) :
    r.met change = false := by
  rw [Bool.eq_false_iff, ne_eq, MarkDir.met_iff]
  rintro ⟨hpos, hneg⟩
  rcases h with ⟨hr, hc⟩ | ⟨hr, hc⟩
  · exact absurd (hpos hr) (Int.not_lt.mpr hc)
  · exact absurd (hneg hr) (Int.not_lt.mpr hc)

section
variable {s : State} {a : Axis} {p : BitVec 9} {t : Tick} {mark : Bool} {d : Int} {u q : PhaseUnit}

theorem State.anchorSample_left (hu : s.phu.get a = u) (hq : (s.anchorSample a p t).phu.get a = q) :
    q.acc = u.acc ∧ q.realRun = 1 ∧ q.dLast = u.dLast ∧ q.lastInterval = u.lastInterval ∧ q.state = u.state ∧
      q.epoch = u.epoch ∧
      q.history = entered u.history { instant := t, acc := u.acc, kind := .real, epoch := u.epoch } := by
  rw [State.anchorSample_phu, Four.get_set_self, hu] at hq
  subst hq
  exact ⟨rfl, rfl, rfl, rfl, rfl, rfl, rfl⟩

theorem State.stepViolation_left (hu : s.phu.get a = u) (hq : (s.stepViolation a p t).phu.get a = q) :
    q.acc = u.acc ∧ q.dLast = 0 ∧ q.realRun = 1 ∧ q.epoch = u.epoch ∧
      q.history = entered u.history { instant := t, acc := u.acc, kind := .real, epoch := u.epoch } ∧
      LossTaken u q .step t u.acc 0 := by
  rw [State.stepViolation_phu, Four.get_set_self, hu] at hq
  subst hq
  refine ⟨?_, rfl, rfl, ?_, ?_, lossTaken_congr (u.lose_lossTaken .step t u.acc) (.refl u) ⟨rfl, rfl, rfl, rfl, rfl⟩⟩ <;>
    simp [PhaseUnit.entering, PhaseUnit.violated, PhaseUnit.clearMissing, PhaseUnit.entryAt]
  rfl

/-- What a counting sample makes of its run, whether or not it loads a datum (R28). -/
theorem State.countSample_run (hu : s.phu.get a = u) (hq : (s.countSample a mark p d t).phu.get a = q) :
    q.realRun = min 2 (u.realRun + 1) ∧ q.dLast = (if u.realRun = 0 then u.dLast else d) := by
  rw [State.countSample_phu, Four.get_set_self, hu] at hq
  subst hq
  split <;> simp [PhaseUnit.entering, PhaseUnit.atDatum, PhaseUnit.counted]

/-- A counting sample whose change stays in the range, without a datum (R31). -/
theorem State.countSample_left (hu : s.phu.get a = u) (hq : (s.countSample a mark p d t).phu.get a = q)
    (hn : u.loads mark (u.dir.sign * d) = none) (hc : InAcc (u.acc + changeOf u d)) :
    q.acc = u.acc + changeOf u d ∧ q.state = u.state ∧ q.armed = u.armed ∧ q.epoch = u.epoch ∧
      (s.countSample a mark p d t).mEpoch = s.mEpoch ∧ q.fault = u.fault ∧
      q.history = entered u.history
        { instant := t, acc := u.acc + changeOf u d, kind := .real, epoch := u.epoch } := by
  rw [changeOf_eq] at hc ⊢
  rw [State.countSample_phu, Four.get_set_self, hu, hn, PhaseUnit.ranged_of_inAcc hc] at hq
  subst hq hu
  refine ⟨?_, rfl, rfl, rfl, by rw [State.countSample_mEpoch, hn]; rfl, rfl, ?_⟩ <;>
    simp [PhaseUnit.entering, PhaseUnit.counted, PhaseUnit.clearMissing, PhaseUnit.entryAt, movedAcc_of_inAcc hc]
  rfl

/-- A counting sample whose mark loads a datum (R55). -/
theorem State.countSample_datum_left {v : Int} (hu : s.phu.get a = u) (hq : (s.countSample a mark p d t).phu.get a = q)
    (hv : u.loads mark (u.dir.sign * d) = some v) :
    q.acc = v ∧ q.state = .referenced ∧ q.armed = none ∧ q.epoch = u.epoch + 1 ∧
      (s.countSample a mark p d t).mEpoch = mEpochAfter s a ∧
      q.history = entered u.history { instant := t, acc := v, kind := .real, epoch := u.epoch + 1 } := by
  rw [State.countSample_phu, Four.get_set_self, hu, hv] at hq
  subst hq hu
  exact ⟨rfl, rfl, rfl, rfl, by rw [State.countSample_mEpoch, hv]; rfl, rfl⟩

/-- A counting sample whose change would leave the range (R31). -/
theorem State.countSample_limit_left {limit : Int} (hu : s.phu.get a = u)
    (hq : (s.countSample a mark p d t).phu.get a = q) (hacc : InAcc u.acc) (hn : ¬ InAcc (u.acc + changeOf u d))
    (hl : limit = if 0 < changeOf u d then 549755813887 else -549755813888) :
    q.acc = limit ∧ q.epoch = u.epoch ∧ (s.countSample a mark p d t).mEpoch = s.mEpoch ∧
      q.history = entered u.history { instant := t, acc := limit, kind := .real, epoch := u.epoch } ∧
      LossTaken u q .range t u.acc 0 := by
  rw [changeOf_eq] at hn hl
  have none := PhaseUnit.loads_none (mark := mark) (.inr (.inr (.inl hn)))
  rw [State.countSample_phu, Four.get_set_self, hu, none, PhaseUnit.ranged_of_not_inAcc hn] at hq
  rw [← movedAcc_of_not_inAcc hacc hn] at hl
  have mEpoch : (s.countSample a mark p d t).mEpoch = s.mEpoch := by rw [State.countSample_mEpoch, hu, none]; rfl
  subst hq hl
  refine ⟨?_, ?_, mEpoch, ?_,
    lossTaken_congr (u.lose_lossTaken .range t u.acc) (.refl u) ⟨rfl, rfl, rfl, rfl, rfl⟩⟩ <;>
    simp [PhaseUnit.entering, PhaseUnit.counted, PhaseUnit.clearMissing, PhaseUnit.entryAt]
  rfl

/-- The offer of a counting sample whose change stays in the range, without a datum. -/
theorem State.countSample_processed_plain (hu : s.phu.get a = u) (hn : u.loads mark (u.dir.sign * d) = none)
    (hc : InAcc (u.acc + changeOf u d)) :
    s.Processed s (s.countSample a mark p d t) a
      { instant := t, acc := u.acc + changeOf u d, kind := .real, epoch := u.epoch } false := by
  subst hu
  rw [changeOf_eq] at hc ⊢
  have proc := State.countSample_processed hn p t
  rwa [leavesRange_of_inAcc hc, movedAcc_of_inAcc hc] at proc

/-- The offer of a counting sample whose mark loads a datum. -/
theorem State.countSample_processed_loaded {v : Int} (hu : s.phu.get a = u) (hv : u.loads mark (u.dir.sign * d) = some v) :
    s.Processed (s.reportToCapture a .epochChange) (s.countSample a mark p d t) a
      { instant := t, acc := v, kind := .real, epoch := u.epoch + 1 } false := by
  subst hu
  exact State.countSample_datum_processed hv p t

/-- The offer of a counting sample whose change would leave the range. -/
theorem State.countSample_processed_limit {limit : Int} (hu : s.phu.get a = u) (hacc : InAcc u.acc)
    (hn : ¬ InAcc (u.acc + changeOf u d)) (hl : limit = if 0 < changeOf u d then 549755813887 else -549755813888) :
    s.Processed (s.reportLoss s a) (s.countSample a mark p d t) a
      { instant := t, acc := limit, kind := .real, epoch := u.epoch } true := by
  subst hu hl
  rw [changeOf_eq] at hn ⊢
  have proc := State.countSample_processed (mark := mark) (PhaseUnit.loads_none (.inr (.inr (.inl hn)))) p t
  rwa [(leavesRange_iff _ _).mpr hn, movedAcc_of_not_inAcc hacc hn, if_pos rfl] at proc

end

end Sys2Proof.Machine

namespace Sys2Proof.Proofs

open Sys2Proof.Machine Sys2Proof.Claims

/-- Settles O22: the frame reaches stage 4, where its sample anchors, counts with or without a datum, reaches the range or
violates the step. -/
theorem samplesAnchorCountOrViolate : Obligations.SamplesAnchorCountOrViolate := by
  intro s a bits f x p tn h
  refine ⟨_, exec_sampleTaken h, sampleFrameLeft s a f x p tn, ?_⟩
  obtain ⟨sat, hv⟩ := s.beforePhase_get a f x
  have pRef : ((s.beforePhase a f x).phu.get a).pRef = (s.phu.get a).pRef := by rw [hv]
  refine ⟨fun hr => ?_, fun ref hr => ?_, ?_, ?_, ?_⟩
  · rw [State.takePhase_anchor (pRef.trans hr)]
    have proc := (s.beforePhase a f x).anchorSample_processed a p tn
    obtain ⟨acc, run, dLast, interval, state, epoch, history⟩ := State.anchorSample_left (p := p) (t := tn) hv rfl
    rw [hv] at proc
    exact ⟨acc, run, dLast, interval, state, epoch, history, proc.ofFrame.events,
      proc.offered_seen (by rw [history]; exact enterHistory_getLast? _ _)⟩
  · rw [State.takePhase_lastInterval (pRef.trans hr), hv]
    rcases hl : (s.phu.get a).history.getLast? with _ | e
    · exact PhaseUnit.intervalAt_none hl tn
    · exact PhaseUnit.intervalAt_some hl tn
  · rintro ref d hr rfl hd hc
    rw [State.takePhase_count (pRef.trans hr) hd]
    obtain ⟨run, dLast⟩ := State.countSample_run (mark := f.mark) (d := (p - ref).toInt) (p := p) (t := tn) hv rfl
    refine ⟨run, dLast, ?_, fun armed hs ha hm hpos hneg => ?_, fun hn => ?_⟩
    · rcases hl : ({ s.phu.get a with saturated := sat } : PhaseUnit).loads f.mark
        ((s.phu.get a).dir.sign * (p - ref).toInt) with _ | v
      · exact (State.countSample_processed_plain hv hl hc).ofFrame.events
      · exact (State.countSample_processed_loaded hv hl).ofFrame.events
    · have hl := PhaseUnit.loads_armed (p := { s.phu.get a with saturated := sat }) hs ha
        (change := (s.phu.get a).dir.sign * (p - ref).toInt) (by rw [← changeOf_eq]; exact hc)
        ((MarkDir.met_iff _ _).mpr (by rw [← changeOf_eq]; exact ⟨hpos, hneg⟩))
      rw [hm]
      have proc := State.countSample_processed_loaded (p := p) (t := tn) hv hl
      obtain ⟨acc, state, armed, epoch, mEpoch, history⟩ := State.countSample_datum_left (p := p) (t := tn) hv rfl hl
      exact ⟨acc, state, armed, epoch, mEpoch, history,
        proc.offered_datum (by rw [history]; exact enterHistory_getLast? _ _)⟩
    · have hl := PhaseUnit.loads_none (p := { s.phu.get a with saturated := sat }) (mark := f.mark)
        (change := (s.phu.get a).dir.sign * (p - ref).toInt) (by
          rw [← changeOf_eq]
          exact hn.imp_right (.imp_right fun ⟨armed, ha, hm⟩ => .inr ⟨armed, ha, MarkDir.not_met hm⟩))
      have proc := State.countSample_processed_plain (p := p) (t := tn) hv hl hc
      obtain ⟨acc, state, armed, epoch, mEpoch, fault, history⟩ :=
        State.countSample_left (p := p) (t := tn) hv rfl hl hc
      exact ⟨acc, state, armed, epoch, mEpoch, fault, history,
        proc.offered_seen (by rw [history]; exact enterHistory_getLast? _ _)⟩
  · rintro ref d limit hr rfl hd hacc hc hl
    rw [State.takePhase_count (pRef.trans hr) hd]
    have proc := State.countSample_processed_limit (mark := f.mark) (p := p) (t := tn) hv hacc hc hl
    obtain ⟨run, dLast⟩ := State.countSample_run (mark := f.mark) (d := (p - ref).toInt) (p := p) (t := tn) hv rfl
    obtain ⟨acc, epoch, mEpoch, history, loss⟩ :=
      State.countSample_limit_left (mark := f.mark) (p := p) (t := tn) hv rfl hacc hc hl
    exact ⟨acc, run, dLast, epoch, mEpoch, history, lossTaken_congr loss ⟨rfl, rfl, rfl, rfl, rfl⟩ (.refl _),
      proc.ofFrame.events, proc.offered_loss (by rw [history]; exact enterHistory_getLast? _ _)⟩
  · rintro ref d hr rfl hd
    rw [State.takePhase_violation (pRef.trans hr) hd]
    have proc := (s.beforePhase a f x).stepViolation_processed a p tn
    obtain ⟨acc, dLast, run, epoch, history, loss⟩ := State.stepViolation_left (p := p) (t := tn) hv rfl
    rw [hv] at proc
    exact ⟨acc, dLast, run, epoch, by simp, history, lossTaken_congr loss ⟨rfl, rfl, rfl, rfl, rfl⟩ (.refl _),
      proc.ofFrame.events, proc.offered_loss (by rw [history]; exact enterHistory_getLast? _ _)⟩

end Sys2Proof.Proofs

namespace Sys2Proof.Machine

open Sys2Proof.Claims

/-! ## Bridged samples and the bridge request in the vocabulary of the statements (R34, R35, R153) -/

theorem bridgeInstant_eq_placed (reason : MissingReason) (prev tn : Tick) (interval g k : Nat) :
    bridgeInstant reason prev interval g tn k = placed reason prev tn interval g k := by
  cases reason <;> simp [bridgeInstant, placed, earlier, later, elapsed, ticksAfter, ticksBefore]

theorem State.bridgeSample_eq_bridgedOnce (s : State) (a : Axis) (tn place : Tick) :
    s.bridgeSample a tn place = bridgedOnce s a tn place := by
  simp only [bridgedOnce, changeOf_eq]
  generalize hc : (s.phu.get a).dir.sign * (s.phu.get a).dLast = change
  have loss : (if max (-549755813888) (min 549755813887 ((s.phu.get a).acc + change)) = (s.phu.get a).acc + change then s
      else suffers s a .range tn (s.phu.get a).acc) = s.rangeLoss a change tn := by
    have moved : max (-549755813888) (min 549755813887 ((s.phu.get a).acc + change)) =
      movedAcc (s.phu.get a).acc change := rfl
    rw [State.rangeLoss, State.integrityLoss_eq_suffers, leavesRange, moved]
    by_cases h : movedAcc (s.phu.get a).acc change = (s.phu.get a).acc + change
    · rw [if_pos h, if_neg (by simp [h])]
    · rw [if_neg h, if_pos (by simpa using h)]
  rw [loss, State.bridgeSample, hc]
  simp only [State.enterSample, State.pushHistory, State.modPhu_eq_withPhu, State.offerUpdate]
  simp [withPhu, State.rangeLoss_phu, PhaseUnit.entryAt]
  rfl

theorem State.pulseRequest_eq_pulsed (s : State) : s.pulseRequest = pulsed s := by
  unfold State.pulseRequest pulsed State.modAlc
  cases h : s.alc.state <;> simp [h, satAdd]

theorem State.bridgeRequest_eq (s : State) (a : Axis) : s.bridgeRequest a =
    if s.alc.guard.getLsbD a.toNat = true ∧ s.alc.pulseOnBridge = true then pulsed s else s := by
  rw [← State.pulseRequest_eq_pulsed]
  simp only [State.bridgeRequest, Bool.and_eq_true]
  rfl

/-! ## A notice as its bridged samples one after another (R34, R35) -/

/-- The state after the first `k` bridged samples of a notice. -/
def State.bridgedTo (s : State) (a : Axis) (tn : Tick) (instants : Nat → Tick) (k : Nat) : State :=
  (List.range k).foldl (fun x j => bridgedOnce x a tn (instants (j + 1))) s

theorem State.bridgeSamples_eq_foldl (a : Axis) (tn : Tick) (ts : List Tick) : ∀ s : State,
    s.bridgeSamples a tn ts = ts.foldl (fun x t => x.bridgeSample a tn t) s := by
  induction ts with
  | nil => exact fun _ => rfl
  | cons t ts ih => exact fun s => ih (s.bridgeSample a tn t)

section
variable (s : State) (a : Axis) (tn : Tick) (instants : Nat → Tick)

theorem State.bridgedTo_succ (k : Nat) :
    s.bridgedTo a tn instants (k + 1) = (s.bridgedTo a tn instants k).bridgeSample a tn (instants (k + 1)) := by
  simp [State.bridgedTo, List.range_succ, State.bridgeSample_eq_bridgedOnce]

theorem State.bridgeSamples_range (k : Nat) :
    s.bridgeSamples a tn ((List.range k).map (fun j => instants (j + 1))) = s.bridgedTo a tn instants k := by
  simp only [State.bridgeSamples_eq_foldl, List.foldl_map, State.bridgeSample_eq_bridgedOnce, State.bridgedTo]

end

/-- The state after a notice that is bridged whole: its samples, the mark and the bridge request. -/
def State.bridgedWhole (s : State) (a : Axis) (tn : Tick) (instants : Nat → Tick) (g : Nat) : State :=
  ((s.bridgedTo a tn instants g).modPhu a (fun u => { u with bridged := true })).bridgeRequest a

section
variable {s : State} {a : Axis} {reason : MissingReason} {g : Nat} {tn : Tick}

/-- A notice whose conditions all hold is bridged whole (R33). -/
theorem State.takeNotice_bridged {e : HistEntry} {interval : Nat} (hrun : (s.phu.get a).realRun = 2)
    (hmissing : (s.phu.get a).missing + g ≤ (s.phu.get a).bridgeMax) (he : (s.phu.get a).history.getLast? = some e)
    (hi : (s.phu.get a).lastInterval = some interval)
    (hlater : 0 < (placed reason e.instant tn interval g 1 - e.instant).toInt) :
    s.takeNotice a reason g tn = s.bridgedWhole a tn (placed reason e.instant tn interval g) g := by
  have plan : (s.phu.get a).bridgePlan reason g tn =
      some ((List.range g).map (fun k => placed reason e.instant tn interval g (k + 1))) := by
    simp [PhaseUnit.bridgePlan, he, hi, hrun, hmissing, bridgeInstant_eq_placed, later, elapsed, hlater, -BitVec.toInt_sub]
  simp only [State.takeNotice, plan, State.bridgeSamples_range, State.bridgedWhole]

/-- A notice fails where a condition for a bridge does not hold (R33, R36). -/
theorem State.takeNotice_failed
    (h : (s.phu.get a).realRun ≠ 2 ∨ (s.phu.get a).bridgeMax < (s.phu.get a).missing + g ∨
      ∃ e interval, (s.phu.get a).history.getLast? = some e ∧ (s.phu.get a).lastInterval = some interval ∧
        (placed reason e.instant tn interval g 1 - e.instant).toInt ≤ 0) :
    s.takeNotice a reason g tn = s.failBridge a reason tn := by
  have plan : (s.phu.get a).bridgePlan reason g tn = none := by
    unfold PhaseUnit.bridgePlan
    split
    next e interval he hi =>
      rw [if_neg]
      rintro ⟨hrun, hmissing, hlater⟩
      rw [bridgeInstant_eq_placed, later, decide_eq_true_eq, elapsed] at hlater
      rcases h with h | h | ⟨e', interval', he', hi', hl⟩
      · exact h hrun
      · omega
      · obtain rfl : e' = e := Option.some.inj (he'.symm.trans he)
        obtain rfl : interval' = interval := Option.some.inj (hi'.symm.trans hi)
        omega
    · rfl
  simp only [State.takeNotice, plan]

end

end Sys2Proof.Machine

namespace Sys2Proof.Machine

open Sys2Proof.Claims

/-! ## ACC and the RANGE losses through the samples of one notice (R31, R34) -/

/-- The multiples of a change lie on its side of 0. -/
theorem natCast_mul_side (k : Nat) (c : Int) : (0 ≤ c → 0 ≤ (k : Int) * c) ∧ (c ≤ 0 → (k : Int) * c ≤ 0) :=
  ⟨fun h => Int.mul_nonneg (Int.natCast_nonneg k) h, fun h => Int.mul_nonpos_of_nonneg_of_nonpos (Int.natCast_nonneg k) h⟩

/-- Clamping each of a row of equal changes is clamping their sum. -/
theorem movedAcc_movedAcc {acc : Int} (h : InAcc acc) (k : Nat) (c : Int) :
    movedAcc (movedAcc acc (k * c)) c = movedAcc acc (((k + 1 : Nat) : Int) * c) := by
  obtain ⟨hpos, hneg⟩ := natCast_mul_side k c
  have sum : ((k + 1 : Nat) : Int) * c = k * c + c := by push_cast; ring
  rw [sum]
  generalize (k : Int) * c = m at *
  unfold InAcc at h
  unfold movedAcc clampTo
  unfold accMin accMax at *
  omega

/-- A change leaves the range after others of its kind exactly where their sum does. -/
theorem leavesRange_movedAcc {acc : Int} (h : InAcc acc) (k : Nat) (c : Int) :
    leavesRange (movedAcc acc (k * c)) c = leavesRange acc (((k + 1 : Nat) : Int) * c) := by
  obtain ⟨hpos, hneg⟩ := natCast_mul_side k c
  have sum : ((k + 1 : Nat) : Int) * c = k * c + c := by push_cast; ring
  rw [Bool.eq_iff_iff, leavesRange_iff, leavesRange_iff, sum]
  generalize (k : Int) * c = m at *
  unfold InAcc at *
  unfold movedAcc clampTo
  unfold accMin accMax at *
  omega

/-- A row of changes that has not left the range had not left it before. -/
theorem leavesRange_mono {acc : Int} (h : InAcc acc) {j k : Nat} (hjk : j ≤ k) {c : Int}
    (hk : leavesRange acc (k * c) = false) : leavesRange acc (j * c) = false := by
  have hj : 0 ≤ (k : Int) * c - j * c ∧ 0 ≤ c ∨ (k : Int) * c - j * c ≤ 0 ∧ c ≤ 0 := by
    have diff : (k : Int) * c - j * c = ((k - j : Nat) : Int) * c := by push_cast [hjk]; ring
    rw [diff]
    obtain ⟨hpos, hneg⟩ := natCast_mul_side (k - j) c
    rcases Int.le_total 0 c with hc | hc
    · exact .inl ⟨hpos hc, hc⟩
    · exact .inr ⟨hneg hc, hc⟩
  obtain ⟨hpos, hneg⟩ := natCast_mul_side j c
  rw [Bool.eq_false_iff, ne_eq, leavesRange_iff, not_not] at *
  generalize (k : Int) * c = m at *
  generalize (j : Int) * c = n at *
  unfold InAcc accMin accMax at *
  omega

/-- A row of changes that has left the range does not come back. -/
theorem leavesRange_of_le {acc : Int} (h : InAcc acc) {j k : Nat} (hjk : j ≤ k) {c : Int}
    (hj : leavesRange acc (j * c) = true) : leavesRange acc (k * c) = true := by
  by_contra hk
  rw [leavesRange_mono h hjk (Bool.eq_false_iff.mpr hk)] at hj
  cases hj

/-! ## The phase unit through the samples of one notice (R34, R39) -/

/-- A phase unit after the first `k` bridged samples of a notice. -/
structure PhaseUnit.BridgedTo (p q : PhaseUnit) (instants : Nat → Tick) (k : Nat) : Prop where
  acc : q.acc = movedAcc p.acc (k * changeOf p p.dLast)
  pRef : q.pRef = p.pRef.map (fun r => r + BitVec.ofInt 9 (k * p.dLast))
  missing : q.missing = p.missing + k
  tracking : q.dLast = p.dLast ∧ q.lastInterval = p.lastInterval ∧ q.realRun = p.realRun
  dir : q.dir = p.dir
  budget : q.bridgeMax = p.bridgeMax ∧ q.pendingBridgeMax = p.pendingBridgeMax
  epoch : q.epoch = p.epoch
  history : q.history = (List.range k).foldl (fun h j => entered h {
    instant := instants (j + 1), acc := movedAcc p.acc (((j + 1 : Nat) : Int) * changeOf p p.dLast)
    kind := .bridged, epoch := p.epoch }) p.history
  calm : leavesRange p.acc (k * changeOf p p.dLast) = false → p.SameState q
  lost : leavesRange p.acc (k * changeOf p p.dLast) = true → q.state ≠ .referenced ∧ q.state ≠ .armed

section
variable {p q : PhaseUnit} {instants : Nat → Tick} {k : Nat}

theorem PhaseUnit.BridgedTo.start (h : InAcc p.acc) : p.BridgedTo p instants 0 where
  acc := by simpa using (movedAcc_of_inAcc (acc := p.acc) (change := 0) (by simpa using h)).symm
  pRef := by cases p.pRef <;> simp
  missing := rfl
  tracking := ⟨rfl, rfl, rfl⟩
  dir := rfl
  budget := ⟨rfl, rfl⟩
  epoch := rfl
  history := rfl
  calm _ := .refl p
  lost hl := absurd hl (by simp [leavesRange_of_inAcc (acc := p.acc) (change := 0) (by simpa using h)])

theorem PhaseUnit.BridgedTo.change (h : p.BridgedTo q instants k) : q.dir.sign * q.dLast = changeOf p p.dLast := by
  rw [changeOf_eq, h.dir, h.tracking.1]

/-- An axis that has suffered a loss is neither REFERENCED nor ARMED. -/
theorem PhaseUnit.lose_not_armed (p : PhaseUnit) (c : Cause) (t : Tick) (v : Int) : (p.lose c t v).state ≠ .armed := by
  unfold PhaseUnit.lose
  split <;> simp_all

/-- One more bridged sample. -/
theorem PhaseUnit.BridgedTo.step (h : p.BridgedTo q instants k) (hacc : InAcc p.acc) (tn : Tick) :
    p.BridgedTo (((q.ranged (changeOf p p.dLast) tn).bridgedBy (changeOf p p.dLast)).entering (instants (k + 1)) .bridged)
      instants (k + 1) where
  acc := by
    rw [← movedAcc_movedAcc hacc, ← h.acc]
    simp [PhaseUnit.entering, PhaseUnit.bridgedBy]
  pRef := by
    simp only [PhaseUnit.entering, PhaseUnit.bridgedBy, PhaseUnit.ranged_frame, h.pRef, h.tracking, Option.map_map]
    congr 1
    funext r
    simp only [Function.comp_apply]
    push_cast
    rw [add_mul, one_mul, BitVec.ofInt_add]
    ac_rfl
  missing := by simp [PhaseUnit.entering, PhaseUnit.bridgedBy, h.missing, Nat.add_assoc]
  tracking := by simp [PhaseUnit.entering, PhaseUnit.bridgedBy, h.tracking]
  dir := by simp [PhaseUnit.entering, PhaseUnit.bridgedBy, h.dir]
  budget := by simp [PhaseUnit.entering, PhaseUnit.bridgedBy, h.budget]
  epoch := by simp [PhaseUnit.entering, PhaseUnit.bridgedBy, h.epoch]
  history := by
    rw [List.range_succ, List.foldl_append, ← h.history, List.foldl_cons, List.foldl_nil, ← movedAcc_movedAcc hacc, ← h.acc,
      ← h.epoch]
    simp [PhaseUnit.entering, PhaseUnit.bridgedBy, PhaseUnit.entryAt]
    rfl
  calm hk := by
    have same := h.calm (leavesRange_mono hacc (Nat.le_succ k) hk)
    rw [← leavesRange_movedAcc hacc, ← h.acc] at hk
    rw [PhaseUnit.ranged, hk]
    exact ⟨same.state, same.lockView, same.armed, same.fault, same.hold⟩
  lost hk := by
    rw [← leavesRange_movedAcc hacc, ← h.acc] at hk
    rw [PhaseUnit.ranged, if_pos hk]
    exact ⟨q.lose_not_referenced .range tn q.acc, q.lose_not_armed .range tn q.acc⟩

end

theorem State.bridgedTo_phu {s : State} {a : Axis} (h : InAcc (s.phu.get a).acc) (tn : Tick) (instants : Nat → Tick) (k : Nat) :
    (s.phu.get a).BridgedTo ((s.bridgedTo a tn instants k).phu.get a) instants k := by
  induction k with
  | zero => exact .start h
  | succ k ih =>
    rw [State.bridgedTo_succ, State.bridgeSample_phu, Four.get_set_self, ih.change]
    exact ih.step h tn

end Sys2Proof.Machine

namespace Sys2Proof.Machine

open Sys2Proof.Claims

/-! ## A loss within a notice (R31, R48, R49) -/

/-- A further loss of the same cause joins the fault record and changes nothing else (R49). -/
theorem lossTaken_again {p q : PhaseUnit} {c : Cause} {t : Tick} {hold : Int} {further : BitVec 5}
    (h : LossTaken p q c t hold further) (t' : Tick) (hold' : Int) :
    LossTaken p (q.lose c t' hold') c t hold (further ||| BitVec.ofNat 5 (2 ^ c.index)) where
  referenced hs := by
    obtain ⟨hq, hh, hf⟩ := h.referenced hs
    simp [PhaseUnit.lose, hq, hh, hf, FaultRecord.addCause, Cause.bit]
  armed hs := by
    obtain ⟨hq, ha, hf⟩ := h.armed hs
    simp [PhaseUnit.lose, hq, ha, hf]
  faulted r hs hr := by
    obtain ⟨hq, hh, hf⟩ := h.faulted r hs hr
    simp [PhaseUnit.lose, hq, hh, hf, FaultRecord.addCause, Cause.bit, BitVec.or_assoc]
  unreferenced hs := by
    obtain ⟨hq, hf⟩ := h.unreferenced hs
    simp [PhaseUnit.lose, hq, hf]

theorem PhaseUnit.SameState.symm {p q : PhaseUnit} (h : p.SameState q) : q.SameState p :=
  ⟨h.state.symm, h.lockView.symm, h.armed.symm, h.fault.symm, h.hold.symm⟩

section
variable {s : State} {a : Axis}

/-- One more bridged sample makes a loss where the changes so far leave the range. -/
theorem State.bridgedTo_sameState (h : InAcc (s.phu.get a).acc) (tn : Tick) (instants : Nat → Tick) (k : Nat)
    (hl : leavesRange (s.phu.get a).acc (((k + 1 : Nat) : Int) * changeOf (s.phu.get a) (s.phu.get a).dLast) = true) :
    ((((s.bridgedTo a tn instants k).phu.get a).lose .range tn ((s.bridgedTo a tn instants k).phu.get a).acc).SameState
      ((s.bridgedTo a tn instants (k + 1)).phu.get a)) := by
  have unit := State.bridgedTo_phu h tn instants k
  rw [← leavesRange_movedAcc h, ← unit.acc] at hl
  rw [State.bridgedTo_succ, State.bridgeSample_phu, Four.get_set_self, unit.change, PhaseUnit.ranged, if_pos hl]
  exact ⟨rfl, rfl, rfl, rfl, rfl⟩

/-- The loss that the first sample to leave the range brings, with ACC as it stood before it (R31, log entry 11). -/
theorem State.bridgedTo_lossTaken (h : InAcc (s.phu.get a).acc) (tn : Tick) (instants : Nat → Tick) {j k : Nat} (hjk : j < k)
    (hj : leavesRange (s.phu.get a).acc (j * changeOf (s.phu.get a) (s.phu.get a).dLast) = false)
    (hn : leavesRange (s.phu.get a).acc (((j + 1 : Nat) : Int) * changeOf (s.phu.get a) (s.phu.get a).dLast) = true) :
    LossTaken (s.phu.get a) ((s.bridgedTo a tn instants k).phu.get a) .range tn
      ((s.phu.get a).acc + j * changeOf (s.phu.get a) (s.phu.get a).dLast) (if j + 1 < k then 16 else 0) := by
  induction k with
  | zero => omega
  | succ k ih =>
    by_cases hk : j = k
    · subst hk
      have unit := State.bridgedTo_phu h tn instants j
      have acc : ((s.bridgedTo a tn instants j).phu.get a).acc =
          (s.phu.get a).acc + j * changeOf (s.phu.get a) (s.phu.get a).dLast := by
        rw [unit.acc]
        exact movedAcc_of_inAcc (of_not_not fun hne => Bool.eq_false_iff.mp hj ((leavesRange_iff _ _).mpr hne))
      rw [if_neg (Nat.lt_irrefl _), ← acc]
      exact lossTaken_congr (PhaseUnit.lose_lossTaken _ _ tn _) (unit.calm hj).symm (State.bridgedTo_sameState h tn instants j hn)
    · have loss := ih (by omega)
      have left := leavesRange_of_le h (by omega : j + 1 ≤ k + 1) hn
      have again := lossTaken_congr (lossTaken_again loss tn _) (.refl _) (State.bridgedTo_sameState h tn instants k left)
      have causes : ((if j + 1 < k then 16 else 0) ||| BitVec.ofNat 5 (2 ^ Cause.range.index) : BitVec 5) = 16 := by
        split <;> rfl
      rwa [causes, ← if_pos (c := j + 1 < k + 1) (t := (16 : BitVec 5)) (e := 0) (by omega)] at again

end

end Sys2Proof.Machine

namespace Sys2Proof.Machine

open Sys2Proof.Claims

/-! ## Events, monitors and ALERT through the samples of one notice (R48, R59, R150, R155) -/

section
variable {s t u v : State} {a : Axis} {e : HistEntry} {lost : Bool}

theorem State.Processed.mnu_get (h : s.Processed u t a e lost) (m : MonitorId) :
    t.mnu.get m = if ({ s with phu := t.phu } : State).monitorTrips a m = true then (s.mnu.get m).trip else s.mnu.get m := by
  rw [h.judged, State.evaluateMonitors_get]

theorem State.Processed.tripped (h : s.Processed u t a e lost) {m : MonitorId} (hm : (s.mnu.get m).tripped = true) :
    (t.mnu.get m).tripped = true := by
  rw [h.mnu_get]
  split
  · rfl
  · exact hm

/-- No monitor that is disabled trips (R148). -/
theorem State.Processed.mnu_of_disabled (h : s.Processed u t a e lost) (hd : ∀ m, (s.mnu.get m).enabled = false) :
    t.mnu = s.mnu := by
  refine Four.ext_get _ _ fun m => ?_
  rw [h.mnu_get, if_neg]
  intro trips
  obtain ⟨enabled, _⟩ := State.monitorTrips_iff trips
  exact absurd enabled (by simp [hd m])

/-- A monitor is newly tripped by two hand-offs where one of them trips it. -/
theorem newly_tripped_trans (m : MonitorId)
    (st : (s.mnu.get m).tripped = true → (t.mnu.get m).tripped = true)
    (tv : (t.mnu.get m).tripped = true → (v.mnu.get m).tripped = true) :
    (s.mnu.get m).tripped = false ∧ (v.mnu.get m).tripped = true ↔
      (s.mnu.get m).tripped = false ∧ (t.mnu.get m).tripped = true ∨
        (t.mnu.get m).tripped = false ∧ (v.mnu.get m).tripped = true := by
  cases hs : (s.mnu.get m).tripped <;> cases ht : (t.mnu.get m).tripped <;> simp_all

theorem eventsRaised_refl (s : State) (a : Axis) : EventsRaised s s a false := by
  intro i _ _
  simp

/-- The events of two hand-offs, the first of which leaves the axis neither REFERENCED nor ARMED where it suffers a loss. -/
theorem eventsRaised_trans {first second : Bool} (h : EventsRaised s t a first) (k : EventsRaised t v a second)
    (st : ∀ m, (s.mnu.get m).tripped = true → (t.mnu.get m).tripped = true)
    (tv : ∀ m, (t.mnu.get m).tripped = true → (v.mnu.get m).tripped = true)
    (calm : first = false → (t.phu.get a).state = (s.phu.get a).state)
    (lost : first = true → (t.phu.get a).state ≠ .referenced ∧ (t.phu.get a).state ≠ .armed) :
    EventsRaised s v a (first || second) := by
  intro i hi hi27
  have trips := exists_congr fun m => and_congr_right fun _ : i = 11 + m.toNat => newly_tripped_trans m (st m) (tv m)
  simp only [and_or_left, exists_or] at trips
  rw [k i hi hi27, h i hi hi27, trips]
  cases first
  · rw [calm rfl]
    simp only [Bool.false_or, Bool.false_eq_true, false_and, false_or, or_assoc]
    grind
  · obtain ⟨hr, ha⟩ := lost rfl
    simp only [hr, ha, Bool.true_or, true_and, false_and, and_false, false_or, or_assoc]

end

section
variable {s : State} {a : Axis} (tn : Tick) (instants : Nat → Tick)

/-- Each bridged sample of a notice is a processed sample. -/
theorem State.bridgedTo_processed (k : Nat) : ∃ u e, (s.bridgedTo a tn instants k).Processed u (s.bridgedTo a tn instants (k + 1))
    a e (leavesRange ((s.bridgedTo a tn instants k).phu.get a).acc
      (((s.bridgedTo a tn instants k).phu.get a).dir.sign * ((s.bridgedTo a tn instants k).phu.get a).dLast)) := by
  rw [State.bridgedTo_succ]
  exact ⟨_, _, State.bridgeSample_processed _ a tn _⟩

theorem State.bridgedTo_samePort (k : Nat) : s.SamePort (s.bridgedTo a tn instants k) := by
  induction k with
  | zero => exact .refl s
  | succ k ih =>
    obtain ⟨u, e, proc⟩ := State.bridgedTo_processed (s := s) (a := a) tn instants k
    exact ih.trans proc.port

@[simp] theorem State.bridgedTo_tick (k : Nat) : (s.bridgedTo a tn instants k).tick = s.tick := by
  induction k with
  | zero => rfl
  | succ k ih => rw [State.bridgedTo_succ, (State.bridgeSample_frame ..).1, ih]

theorem State.bridgedTo_tripped (k : Nat) (m : MonitorId) (hm : (s.mnu.get m).tripped = true) :
    ((s.bridgedTo a tn instants k).mnu.get m).tripped = true := by
  induction k with
  | zero => exact hm
  | succ k ih =>
    obtain ⟨u, e, proc⟩ := State.bridgedTo_processed (s := s) (a := a) tn instants k
    exact proc.tripped ih

variable (h : InAcc (s.phu.get a).acc)
include h

/-- The events of a notice are those of its bridged samples: a loss where they leave the range. -/
theorem State.bridgedTo_events (k : Nat) : EventsRaised s (s.bridgedTo a tn instants k) a
    (leavesRange (s.phu.get a).acc (k * changeOf (s.phu.get a) (s.phu.get a).dLast)) := by
  induction k with
  | zero =>
    rw [leavesRange_of_inAcc (by simpa using h)]
    exact eventsRaised_refl s a
  | succ k ih =>
    obtain ⟨u, e, proc⟩ := State.bridgedTo_processed (s := s) (a := a) tn instants k
    have unit := State.bridgedTo_phu h tn instants k
    have both := eventsRaised_trans ih proc.events (State.bridgedTo_tripped tn instants k) (fun m => proc.tripped)
      (fun hl => (unit.calm hl).state) unit.lost
    rw [unit.change, unit.acc, leavesRange_movedAcc h] at both
    rwa [Bool.or_eq_right_iff_imp.mpr (leavesRange_of_le h (Nat.le_succ k))] at both

/-- Bridged samples that stay in the range bear on no monitor that is disabled, and then not on ALERT. -/
theorem State.bridgedTo_of_disabled (hd : ∀ m, (s.mnu.get m).enabled = false) {k : Nat}
    (hl : leavesRange (s.phu.get a).acc (k * changeOf (s.phu.get a) (s.phu.get a).dLast) = false) :
    (s.bridgedTo a tn instants k).mnu = s.mnu ∧ (s.bridgedTo a tn instants k).alc = s.alc := by
  induction k with
  | zero => exact ⟨rfl, rfl⟩
  | succ k ih =>
    have hk := leavesRange_mono h (Nat.le_succ k) hl
    obtain ⟨mnu, alc⟩ := ih hk
    obtain ⟨u, e, proc⟩ := State.bridgedTo_processed (s := s) (a := a) tn instants k
    have same := proc.mnu_of_disabled (by rw [mnu]; exact hd)
    have state := ((State.bridgedTo_phu h tn instants k).calm hk).state
    have state' := ((State.bridgedTo_phu h tn instants (k + 1)).calm hl).state
    refine ⟨same.trans mnu, (proc.alert.2 (fun m h0 h1 => ?_) (fun hr => ?_)).trans alc⟩
    · rw [same, h0] at h1
      cases h1
    · rw [state', ← state, hr]
      decide

end

end Sys2Proof.Machine

namespace Sys2Proof.Machine

open Sys2Proof.Claims

/-! ## A notice bridged whole (R34, R35, R39, R153) -/

section
variable {s : State} {a : Axis} (tn : Tick) (instants : Nat → Tick) (g : Nat)

/-- The bridge request is judged by settings that the samples leave alone. -/
theorem State.bridgedWhole_eq : s.bridgedWhole a tn instants g =
    if s.alc.guard.getLsbD a.toNat = true ∧ s.alc.pulseOnBridge = true then
      pulsed ((s.bridgedTo a tn instants g).modPhu a (fun u => { u with bridged := true }))
    else (s.bridgedTo a tn instants g).modPhu a (fun u => { u with bridged := true }) := by
  have port := State.bridgedTo_samePort (s := s) (a := a) tn instants g
  rw [State.bridgedWhole, State.bridgeRequest_eq, State.modPhu_alc, port.guard, port.pulseOnBridge]

theorem State.bridgedWhole_phu : (s.bridgedWhole a tn instants g).phu =
    (s.bridgedTo a tn instants g).phu.set a { (s.bridgedTo a tn instants g).phu.get a with bridged := true } := by
  simp [State.bridgedWhole]

/-- The mark and the bridge request reach neither the host port nor the capture and the monitors. -/
theorem State.bridgedWhole_frame :
    (s.bridgedWhole a tn instants g).lcu = (s.bridgedTo a tn instants g).lcu ∧
    (s.bridgedWhole a tn instants g).msl = (s.bridgedTo a tn instants g).msl ∧
    (s.bridgedWhole a tn instants g).mnu = (s.bridgedTo a tn instants g).mnu ∧
    (s.bridgedWhole a tn instants g).hpt = (s.bridgedTo a tn instants g).hpt := by
  simp [State.bridgedWhole]

theorem State.bridgedWhole_events {lost : Bool} (h : EventsRaised s (s.bridgedTo a tn instants g) a lost) :
    EventsRaised s (s.bridgedWhole a tn instants g) a lost := by
  obtain ⟨_, _, mnu, hpt⟩ := State.bridgedWhole_frame (s := s) (a := a) tn instants g
  unfold EventsRaised
  rw [mnu, hpt]
  exact h

theorem State.bridgedWhole_sameState : ((s.bridgedTo a tn instants g).phu.get a).SameState
    ((s.bridgedWhole a tn instants g).phu.get a) := by
  rw [State.bridgedWhole_phu, Four.get_set_self]
  exact ⟨rfl, rfl, rfl, rfl, rfl⟩

/-- A pulse request acts on ALERT alone, at the tick of the step. -/
theorem pulsed_alc_congr {x y : State} (ha : x.alc = y.alc) (ht : x.tick = y.tick) : (pulsed x).alc = (pulsed y).alc := by
  simp only [pulsed, ha, ht]

theorem State.bridgedWhole_alc (h : (s.bridgedTo a tn instants g).alc = s.alc) : (s.bridgedWhole a tn instants g).alc =
    (if s.alc.guard.getLsbD a.toNat = true ∧ s.alc.pulseOnBridge = true then pulsed s else s).alc := by
  rw [State.bridgedWhole_eq]
  split
  · exact pulsed_alc_congr (by simpa using h) (by simp)
  · simpa using h

/-- What a notice that is bridged makes of the phase unit. -/
theorem State.bridgedWhole_left {interval : Nat} (h : InAcc (s.phu.get a).acc) (hrun : (s.phu.get a).realRun = 2)
    (hi : (s.phu.get a).lastInterval = some interval) :
    BridgedWhole (s.phu.get a) ((s.bridgedWhole a tn instants g).phu.get a) g interval instants := by
  have unit := State.bridgedTo_phu h tn instants g
  rw [State.bridgedWhole_phu, Four.get_set_self]
  obtain ⟨dLast, lastInterval, realRun⟩ := unit.tracking
  exact {
    acc := unit.acc
    pRef := unit.pRef
    missing := unit.missing
    bridged := rfl
    tracking := ⟨dLast, lastInterval.trans hi, realRun.trans hrun⟩
    budget := unit.budget
    epoch := unit.epoch
    history := unit.history }

theorem State.bridgeSample_newest (place : Tick) : ((s.bridgeSample a tn place).phu.get a).history.getLast? = some {
    instant := place, acc := movedAcc (s.phu.get a).acc ((s.phu.get a).dir.sign * (s.phu.get a).dLast), kind := .bridged
    epoch := (s.phu.get a).epoch } := by
  rw [State.bridgeSample_phu, Four.get_set_self]
  simp [PhaseUnit.entering, PhaseUnit.bridgedBy, PhaseUnit.entryAt, enterHistory_getLast?]

/-- A notice of one sample that stays in the range: its entry is offered, and the monitors are judged on it. -/
theorem State.bridgedWhole_one
    (hl : leavesRange (s.phu.get a).acc ((1 : Nat) * changeOf (s.phu.get a) (s.phu.get a).dLast) = false) :
    OfferedToCapture (seen s (s.bridgedWhole a tn instants 1)) (s.bridgedWhole a tn instants 1) a ∧
      (s.bridgedWhole a tn instants 1).mnu = ((seen s (s.bridgedWhole a tn instants 1)).evaluateMonitors a).mnu := by
  have proc := s.bridgeSample_processed a tn (instants 1)
  have newest := State.bridgeSample_newest (s := s) (a := a) tn (instants 1)
  have one : s.bridgedTo a tn instants 1 = s.bridgeSample a tn (instants 1) := State.bridgedTo_succ s a tn instants 0
  rw [Nat.cast_one, one_mul, changeOf_eq] at hl
  rw [hl, if_neg Bool.false_ne_true, ← one] at proc
  rw [← one] at newest
  obtain ⟨lcu, msl, mnu, hpt⟩ := State.bridgedWhole_frame (s := s) (a := a) tn instants 1
  have phu := State.bridgedWhole_phu (s := s) (a := a) tn instants 1
  have history : ((s.bridgedWhole a tn instants 1).phu.get a).history = ((s.bridgedTo a tn instants 1).phu.get a).history := by
    rw [phu, Four.get_set_self]
  have same : s.SameCapture (seen s (s.bridgedWhole a tn instants 1)) := .of_frame rfl rfl rfl rfl
  have state := (State.bridgedWhole_sameState (s := s) (a := a) tn instants 1).state
  constructor
  · have offered := proc.offered newest same state
    unfold OfferedToCapture at offered ⊢
    rwa [lcu, msl, hpt, history]
  · rw [mnu, proc.judged]
    refine (State.evaluateMonitors_mnu_congr (s := { s with phu := (s.bridgedTo a tn instants 1).phu })
      (t := seen s (s.bridgedWhole a tn instants 1)) a (fun b => ?_) rfl).symm
    simp only [seen, phu]
    by_cases hb : b = a
    · rw [hb, Four.get_set_self]
      exact ⟨rfl, rfl⟩
    · rw [Four.get_set_ne _ _ hb]
      exact ⟨rfl, rfl⟩

end

end Sys2Proof.Machine

namespace Sys2Proof.Machine

open Sys2Proof.Claims

/-! ## A notice that fails (R36) -/

theorem MissingReason.cause_eq (reason : MissingReason) : reason.cause = if reason = .low then .beam else .dropout := by
  cases reason <;> rfl

section
variable (s : State) (a : Axis) (reason : MissingReason) (tn : Tick)

theorem State.failBridge_eq_suffers : s.failBridge a reason tn = suffers (withPhu s a { s.phu.get a with
      missing := 0, realRun := 0, dLast := 0
      bridgeMax := (s.phu.get a).pendingBridgeMax.getD (s.phu.get a).bridgeMax, pendingBridgeMax := none })
    a (if reason = .low then .beam else .dropout) tn (s.phu.get a).acc := by
  rw [← MissingReason.cause_eq, ← State.integrityLoss_eq_suffers]
  rfl

/-- A failed bridge raises what its loss raises. -/
theorem State.failBridge_events : EventsRaised s (s.failBridge a reason tn) a true := by
  intro i hi hi27
  have mnu : (s.failBridge a reason tn).mnu = s.mnu := by simp
  rw [mnu, State.failBridge, State.integrityLoss_flags _ _ _ _ _ hi hi27]
  simp [PhaseUnit.clearMissing]

/-- ALERT stands as it was unless the axis faults. -/
theorem State.failBridge_alc (h : (s.phu.get a).state ≠ .referenced) : (s.failBridge a reason tn).alc = s.alc := by
  unfold State.failBridge
  generalize hx : s.modPhu a (fun u => { u.clearMissing with realRun := 0, dLast := 0 }) = x
  have state : (x.phu.get a).state = (s.phu.get a).state := by simp [← hx, PhaseUnit.clearMissing]
  have alc : x.alc = s.alc := by simp [← hx]
  rcases x.integrityLoss_cases a reason.cause tn (s.phu.get a).acc with ⟨_, e⟩ | ⟨_, e⟩ | ⟨hr, _⟩ | ⟨_, e⟩
  · rw [e, alc]
  · rw [e]
    simpa using alc
  · exact absurd (state.symm.trans hr) h
  · rw [e]
    simpa using alc

end

theorem State.bridgeSamples_phu_ne {a b : Axis} (hb : b ≠ a) (tn : Tick) (ts : List Tick) : ∀ s : State,
    (s.bridgeSamples a tn ts).phu.get b = s.phu.get b := by
  induction ts with
  | nil => exact fun _ => rfl
  | cons t ts ih =>
    intro s
    exact (ih (s.bridgeSample a tn t)).trans (by rw [State.bridgeSample_phu, Four.get_set_ne _ _ hb])

/-- A notice reaches the phase unit of its axis alone. -/
theorem State.takeNotice_phu_ne (s : State) {a b : Axis} (hb : b ≠ a) (reason : MissingReason) (g : Nat) (tn : Tick) :
    (s.takeNotice a reason g tn).phu.get b = s.phu.get b := by
  unfold State.takeNotice
  split
  · simp [hb, State.bridgeSamples_phu_ne hb]
  · rw [State.failBridge_phu, Four.get_set_ne _ _ hb]

end Sys2Proof.Machine

namespace Sys2Proof.Proofs

open Sys2Proof.Machine Sys2Proof.Claims

/-- Settles O24: a notice whose conditions hold is its bridged samples, and any other fails whole. -/
theorem noticesAreBridgedWholeOrFail : Obligations.NoticesAreBridgedWholeOrFail := by
  rintro s t a reason g tn _ _ rfl
  refine ⟨fun e interval hrun hmissing he hi hlater => ?_, fun hfail => ?_, fun b hb => s.takeNotice_phu_ne hb reason g tn, ?_⟩
  · rw [State.takeNotice_bridged hrun hmissing he hi hlater]
    generalize placed reason e.instant tn interval g = instants
    refine ⟨?_, fun h => State.bridgedWhole_left tn instants g h hrun hi, fun h hin => ?_, fun j hj hin hout h => ?_⟩
    · rintro u v rfl rfl
      exact State.bridgedWhole_eq tn instants g
    · have stays := leavesRange_of_inAcc hin
      have whole := State.bridgedWhole_sameState (s := s) (a := a) tn instants g
      have same := (State.bridgedTo_phu h tn instants g).calm stays
      refine ⟨whole.state.trans same.state, whole.fault.trans same.fault, ?_, fun hd => ?_, ?_⟩
      · have events := State.bridgedTo_events tn instants h g
        rw [stays] at events
        exact State.bridgedWhole_events tn instants g events
      · exact State.bridgedWhole_alc tn instants g (State.bridgedTo_of_disabled tn instants h hd stays).2
      · rintro rfl
        exact State.bridgedWhole_one tn instants stays
    · have stays := leavesRange_of_inAcc hin
      have leaves := (leavesRange_iff _ _).mpr hout
      constructor
      · exact lossTaken_congr (State.bridgedTo_lossTaken h tn instants hj stays leaves) (.refl _)
          (State.bridgedWhole_sameState tn instants g)
      · have events := State.bridgedTo_events tn instants h g
        rw [leavesRange_of_le h hj leaves] at events
        exact State.bridgedWhole_events tn instants g events
  · rw [State.takeNotice_failed hfail]
    refine ⟨s.failBridge_eq_suffers a reason tn, ?_⟩
    have events := s.failBridge_events a reason tn
    have alc := s.failBridge_alc a reason tn
    have loss := (s.phu.get a).failed.lose_lossTaken reason.cause tn (s.phu.get a).acc
    rw [State.failBridge_phu, Four.get_set_self, ← MissingReason.cause_eq]
    simp only [PhaseUnit.lose_frame]
    exact ⟨rfl, rfl, rfl, rfl, rfl, rfl, rfl, rfl, rfl, rfl, lossTaken_congr loss ⟨rfl, rfl, rfl, rfl, rfl⟩ (.refl _), events, alc⟩
  · simp

end Sys2Proof.Proofs

namespace Sys2Proof.Machine

/-! ## The values and flags of slots keep their law (R61, R64, R87, R108 to R110) -/

theorem PhaseUnit.TrackingOk.reported {p : PhaseUnit} (h : p.TrackingOk) : InAcc p.reported := by
  unfold PhaseUnit.reported
  cases p.state with
  | off => exact InAcc.zero
  | faulted => exact h.hold
  | unreferenced => exact h.acc
  | armed => exact h.acc
  | referenced => exact h.acc

/-- A count formed from counts in the range of ACC lies in ±(2^40 − 1), whatever the source (R61). -/
theorem State.TrackingOk.stepsOf {s : State} (h : s.TrackingOk) (x : Source) :
    -boundMax ≤ s.stepsOf x ∧ s.stepsOf x ≤ boundMax := by
  have count (a : Axis) : -549755813888 ≤ s.reported a ∧ s.reported a ≤ 549755813887 := (h a).reported
  have c0 := count .q0
  have c1 := count .q1
  unfold boundMax
  cases x with
  | phys a =>
    have ca := count a
    change _ ≤ s.reported a ∧ s.reported a ≤ _
    omega
  | m =>
    have half := (roundDiv_nearest (s.reported .q0 + s.reported .q1) (d := 2) (by decide)).1
    change _ ≤ roundDiv (s.reported .q0 + s.reported .q1) 2 ∧ roundDiv (s.reported .q0 + s.reported .q1) 2 ≤ _
    omega
  | w =>
    change _ ≤ s.reported .q0 - s.reported .q1 ∧ s.reported .q0 - s.reported .q1 ≤ _
    omega

/-- A value in ±(2^40 − 1) fits the 44 bits of a slot. -/
theorem slotRange_of_boundMax {v : Int} (h : -boundMax ≤ v ∧ v ≤ boundMax) : -slotLengthMax ≤ v ∧ v ≤ slotLengthMax := by
  unfold boundMax at h
  unfold slotLengthMax
  omega

theorem clampLength_slotRange (len : Int) :
    -slotLengthMax ≤ clampLength slotLengthMax len ∧ clampLength slotLengthMax len ≤ slotLengthMax := by
  unfold clampLength clampTo slotLengthMax
  omega

theorem Slot.zero_ok : Slot.zero.Ok := ⟨nofun, by decide⟩

/-- The slot of one axis is VALID in REFERENCED alone, with the lock view LOCKED (R60, R108). -/
theorem PhaseUnit.liveSlot_ok {p : PhaseUnit} (h : -slotLengthMax ≤ p.reported ∧ p.reported ≤ slotLengthMax) (monitor : Bool) :
    (p.liveSlot monitor).Ok := by
  unfold PhaseUnit.liveSlot
  cases hs : p.state with
  | off => exact Slot.zero_ok
  | referenced => exact ⟨fun hv => ⟨by simpa [PhaseUnit.valid, hs] using hv, rfl, rfl, rfl⟩, h⟩
  | unreferenced | armed | faulted => exact ⟨fun hv => by simp [PhaseUnit.valid, hs] at hv, h⟩

theorem PhaseUnit.valid_iff (p : PhaseUnit) : p.valid = true ↔ p.state = .referenced ∧ p.lockView = true := by
  simp [PhaseUnit.valid]

/-- The slot of a pair is VALID where both its axes are (R63, R110). -/
theorem pairSlot_ok {p0 p1 : PhaseUnit} {value : Int} (h : -slotLengthMax ≤ value ∧ value ≤ slotLengthMax) (epoch : BitVec 4)
    (monitor : Bool) : (pairSlot p0 p1 value epoch monitor).Ok := by
  refine ⟨fun hv => ?_, h⟩
  obtain ⟨h0, h1⟩ : p0.valid = true ∧ p1.valid = true := by simpa [pairSlot] using hv
  obtain ⟨ref0, lock0⟩ := p0.valid_iff.mp h0
  obtain ⟨ref1, lock1⟩ := p1.valid_iff.mp h1
  simp [pairSlot, ref0, ref1, lock0, lock1]

theorem State.TrackingOk.baseSlot {s : State} (h : s.TrackingOk) (x : Source) : (s.baseSlot x).Ok := by
  have value (y : Source) := slotRange_of_boundMax (h.stepsOf y)
  have pair (y : Source) (hy : y = .m ∨ y = .w) : (s.baseSlot y).Ok := by
    rw [s.baseSlot_pair hy]
    split
    · exact Slot.zero_ok
    · exact pairSlot_ok (value y) _ _
  cases x with
  | phys a => exact PhaseUnit.liveSlot_ok (value (.phys a)) _
  | m => exact pair .m (.inl rfl)
  | w => exact pair .w (.inr rfl)

theorem State.TrackingOk.liveSlot {s : State} (h : s.TrackingOk) (d : SlotDesc) : (s.liveSlot d).Ok := by
  have base := h.baseSlot d.source
  unfold State.liveSlot
  cases d.unit with
  | steps => exact base
  | pm => exact ⟨fun hv => base.valid (Bool.and_eq_true_iff.mp hv).1, clampLength_slotRange _⟩

theorem HoldEntry.Ok.heldSlot {e : HoldEntry} (h : e.Ok) (s : State) (d : SlotDesc) : (s.heldSlot d e).Ok := by
  refine ⟨nofun, ?_⟩
  unfold State.heldSlot
  cases d.unit with
  | steps => exact slotRange_of_boundMax h
  | pm => exact clampLength_slotRange _

theorem State.TrackingOk.slotOf {s : State} (h : s.TrackingOk) (hs : s.svp.Ok) (d : SlotDesc) : (s.slotOf d).Ok := by
  unfold State.slotOf
  split
  · rename_i e he
    exact (hs.holds _ _ he).heldSlot s d
  · exact h.liveSlot d

/-! ## The law of the servo port at frame events (R106, R107, R114) -/

theorem ServoPort.Ok.activateLayout {x : ServoPort} (h : x.Ok) : x.activateLayout.Ok := by
  unfold ServoPort.activateLayout
  split
  · rename_i l hl
    exact { h with layout := h.staged l hl, staged := nofun }
  · exact h

/-- A read that has ended leaves nothing to keep. -/
theorem ServoPort.Ok.spent {x : ServoPort} (h : x.Ok) (d : Bool) : ({ x with read := .spent, delivered := d } : ServoPort).Ok :=
  { h with reading := fun _ hr => by cases hr }

theorem State.abandonRead_ok {s : State} (h : s.svp.Ok) : s.abandonRead.svp.Ok := by
  unfold State.abandonRead
  split
  · exact h.spent _
  · exact h
  · exact h

/-- A snapshot has a slot for each of the layout, and every slot keeps its law (R107). -/
theorem State.takeSnapshot_ok {s : State} (ht : s.TrackingOk) (h : s.svp.Ok) (k : FrameKind) : (s.takeSnapshot k).svp.Ok := by
  refine { h with snapshot := fun y hy => ?_ }
  obtain rfl := Option.some.inj hy
  refine ⟨by simpa using h.layout.1, by simpa using h.layout.2.1, fun z hz => ?_⟩
  obtain ⟨d, _, rfl⟩ := List.mem_map.mp hz
  exact ht.slotOf h d

theorem State.servoFrameEvent_ok {s : State} (ht : s.TrackingOk) (h : s.svp.Ok) (k : FrameKind) :
    (s.servoFrameEvent k).svp.Ok :=
  State.takeSnapshot_ok (ht.congr (by simp)) (State.abandonRead_ok h).activateLayout k

theorem State.frameEvent_ok {s : State} (ht : s.TrackingOk) (h : s.svp.Ok) (k : FrameKind) : (s.frameEvent k).svp.Ok := by
  have port : ((s.modFru (fun x => { x with frameNo := x.frameNo + 1 })).activateAndSnapshot k).svp.Ok := by
    unfold State.activateAndSnapshot
    split
    · simpa using State.servoFrameEvent_ok (ht.modFru _) h k
    · exact State.servoFrameEvent_ok (ht.modFru _).activateK (by simpa using h) k
  simpa [State.frameEvent] using port

theorem State.timerEvent_ok {s : State} (ht : s.TrackingOk) (h : s.svp.Ok) : s.timerEvent.svp.Ok :=
  State.frameEvent_ok (ht.modFru _) h _

theorem State.syncRise_ok {s : State} (ht : s.TrackingOk) (h : s.svp.Ok) : s.syncRise.svp.Ok := by
  unfold State.syncRise
  split
  · exact h
  · exact State.frameEvent_ok (ht.modFru _) h _
  · exact State.frameEvent_ok (ht.congr (by simp)) (by simpa using h) _

theorem State.judgeFrameTimers_ok {s : State} (ht : s.TrackingOk) (h : s.svp.Ok) (b : Bool) : (s.judgeFrameTimers b).svp.Ok := by
  unfold State.judgeFrameTimers
  split
  · exact h
  · split
    · exact State.timerEvent_ok ht h
    · exact h

theorem setFrameBlock_ok {s : State} (ht : s.TrackingOk) (h : s.svp.Ok) (ps : List Byte) : (setFrameBlock s ps).2.svp.Ok := by
  unfold setFrameBlock
  split
  · split
    · simp only [State.accept, State.applyFrame]
      split
      · exact h
      · exact State.judgeFrameTimers_ok (ht.modFru _) h _
      · exact State.judgeFrameTimers_ok (ht.modFru _) h _
    · exact h
  · exact h

/-! ## The law of the servo port along a read (R104, R112, R113) -/

theorem servoFrame_length (x : Snapshot) (rep : Bool) : (servoFrame x rep).length = 32 + 56 * x.slots.length := by
  have slot (y : Slot) : (slotBits y).length = 56 := by simp [slotBits]
  simp [servoFrame, withCrc, headerBits, slot, List.length_flatMap, Nat.mul_comm]
  omega

theorem zeroFrame_length (slots : Nat) : (zeroFrame slots).length = 32 + 56 * slots := by
  simp [zeroFrame, withCrc]
  omega

/-- The frame of a read has the bits of one to four slots. -/
theorem ServoPort.Ok.content_length {x : ServoPort} (h : x.Ok) :
    x.content.length = 88 ∨ x.content.length = 144 ∨ x.content.length = 200 ∨ x.content.length = 256 := by
  obtain ⟨n, e, hn⟩ : ∃ n, x.content.length = 32 + 56 * n ∧ 1 ≤ n ∧ n ≤ 4 := by
    unfold ServoPort.content
    split
    · rename_i snap hs
      exact ⟨_, servoFrame_length _ _, (h.snapshot snap hs).1, (h.snapshot snap hs).2.1⟩
    · exact ⟨_, zeroFrame_length _, h.layout.1, h.layout.2.1⟩
  omega

theorem ServoPort.Ok.firstClock {x : ServoPort} (h : x.Ok) (sdi : Bool) : (x.firstClock sdi).Ok where
  length := h.content_length
  clocks := ⟨Nat.le_refl _, by have e := h.content_length; simp only [ServoPort.firstClock]; omega⟩
  word := rfl

theorem ServoPort.Ok.read {x : ServoPort} (h : x.Ok) {r : ServoRead} (hr : r.Ok) : ({ x with read := .reading r } : ServoPort).Ok :=
  { h with reading := fun q hq => by cases hq; exact hr }

/-- A clock takes one bit more into the command word, up to the eighth. -/
theorem ServoRead.Ok.clock_word {r : ServoRead} (h : r.Ok) (sdi : Bool) : (r.clock sdi).word.length = min 8 (r.clock sdi).clocks := by
  have word := h.word
  simp only [ServoRead.clock]
  split
  · rw [List.length_append, List.length_singleton]
    omega
  · omega

theorem ServoRead.Ok.clock {r : ServoRead} (h : r.Ok) {sdi : Bool} (hc : (r.clock sdi).clocks < (r.clock sdi).content.length) :
    (r.clock sdi).Ok where
  length := h.length
  clocks := ⟨Nat.succ_pos _, hc⟩
  word := h.clock_word sdi

theorem State.completeRead_ok {s : State} (h : s.svp.Ok) (word : BitVec 8) : (s.completeRead word).svp.Ok := by
  rcases s.completeRead_cases word with ⟨r, _, _, e⟩ | e <;> rw [e]
  · exact h.spent _
  · exact h

/-! ## The law of the servo port in its host commands (R64, R105) -/

theorem State.answer_svp (s : State) (code : Byte) (r : Reply) : (s.answer code r).svp = s.svp := by simp

/-- A command frame keeps the port within its law where its block does so for parameters of the required length. -/
theorem State.hostCommand_svpOk {s : State} {code : Byte} {n : Nat} {body : List Byte}
    {block : State → List Byte → Reply × State} (h : s.svp.Ok) (hb : ∀ ps, ps.length = n → (block s ps).2.svp.Ok) :
    (s.hostCommand code n body block).svp.Ok := by
  rcases s.hostCommand_cases code n body block with ⟨_, e⟩ | ⟨_, _, e⟩ | ⟨ps, _, hp, e⟩ <;> rw [e]
  · exact h
  · rwa [State.answer_svp]
  · rw [State.answer_svp]
    exact hb ps (paramsOf_length n body ps hp)

theorem holdsWith_get (h : Six (Option HoldEntry)) (mask : SourceSet) (e : Source → Option HoldEntry) (x : Source) :
    (holdsWith h mask e).get x = if mask.has x then e x else h.get x := by
  cases x with
  | phys a => exact Four.get_mapIdx _ _ a
  | m => rfl
  | w => rfl

/-- What is held is a count of this moment, or what was held before (R64). -/
theorem holdOutputBlock_ok {s : State} (ht : s.TrackingOk) (h : s.svp.Ok) (ps : List Byte) : (holdOutputBlock s ps).2.svp.Ok := by
  unfold holdOutputBlock
  split
  · split
    · rename_i mask release _ _
      refine { h with holds := fun y e he => ?_ }
      rw [State.accept, State.modSvp_svp, holdsWith_get] at he
      split at he
      · cases release
        · obtain rfl := Option.some.inj he
          exact ht.stepsOf y
        · cases he
      · exact h.holds y e he
    · exact h
  · exact h

/-- Slot descriptions take two bytes each (R105). -/
theorem slotDescsOf_length : ∀ {bytes : List Byte} {l : List SlotDesc}, slotDescsOf bytes = some l → bytes.length = 2 * l.length
  | [], l, h => by cases h; rfl
  | [_], l, h => by cases h
  | x :: u :: rest, l, h => by
    simp only [slotDescsOf] at h
    split at h
    · rename_i hrest
      cases h
      have := slotDescsOf_length hrest
      simp only [List.length_cons]
      omega
    · cases h

theorem setLayoutBlock_ok {s : State} (h : s.svp.Ok) {ps : List Byte} {n : Nat} (hn : 1 ≤ n ∧ n ≤ 4) (hp : ps.length = 1 + 2 * n) :
    (setLayoutBlock s ps).2.svp.Ok := by
  unfold setLayoutBlock
  split
  · rename_i l hl
    split
    · rename_i ordered
      have len := slotDescsOf_length hl
      rw [List.length_drop] at len
      refine { h with staged := fun k hk => ?_ }
      obtain rfl := Option.some.inj hk
      exact ⟨by omega, by omega, ordered⟩
    · exact h
  · exact h

/-- SET_LAYOUT stages a layout of one to four slots, or changes nothing (R105, R163). -/
theorem execSetLayout_ok {s t : State} (h : s.svp.Ok) {body : List Byte} (e : execSetLayout body s = .next t) : t.svp.Ok := by
  obtain rfl := Host.Outcome.next.inj e
  split
  · rename_i len n rest
    split
    · exact h
    · split
      · rwa [State.answer_svp]
      · rename_i _ hcount
        rcases s.hostCommand_cases 0x20 (1 + 2 * n.toNat) (len :: n :: rest) setLayoutBlock with
          ⟨_, e⟩ | ⟨_, _, e⟩ | ⟨ps, _, hp, e⟩ <;> rw [e]
        · exact h
        · rwa [State.answer_svp]
        · rw [State.answer_svp]
          have required : len.toNat = 1 + 2 * n.toNat := by
            simp only [paramsOf] at hp
            split at hp
            · rename_i fits
              exact fits.2.2
            · cases hp
          exact setLayoutBlock_ok h (by omega) (paramsOf_length _ _ _ hp)
  · exact State.hostCommand_svpOk h (fun ps hp => setLayoutBlock_ok h (n := 1) (by decide) hp)

/-! ## Commands that do not reach the servo port -/

/-- The commands that can reach the servo port. -/
def reachesServo : Instr → Bool
  | .syncEdge | .frameTimerExpiry | .setFrame _ => true
  | .servoReadStart _ | .servoReadComplete _ | .servoArm _ | .servoDisarm _ | .servoDeselect => true
  | .holdOutput _ | .holdOutputRelease _ | .setLayout _ => true
  | .resetUnit _ _ | .powerOnReset _ => true
  | _ => false

theorem State.hostCommand_svp {s : State} {code : Byte} {n : Nat} {body : List Byte}
    {block : State → List Byte → Reply × State} (h : ∀ ps, (block s ps).2.svp = s.svp) :
    (s.hostCommand code n body block).svp = s.svp := by
  rcases s.hostCommand_cases code n body block with ⟨_, e⟩ | ⟨_, _, e⟩ | ⟨ps, _, _, e⟩ <;> rw [e]
  · exact s.answer_svp _ _
  · rw [State.answer_svp, h]

/-- The blocks whose settings and data lie outside the servo port. -/
def blocksWithoutServo : List (State → List Byte → Reply × State) :=
  [setOpticsBlock, setConditionsBlock, setExpansionBlock, setPlausibilityBlock, setProbeBlock, setSampleCheckBlock,
    setNotifyBlock, setTriggerBlock, queueContextBlock, flushContextsBlock, setCaptureBlock, readCapturesBlock,
    setMicroLinkBlock, setMonitorBlock, clearMonitorBlock, setAlertBlock, readPositionBlock, clearEventsBlock,
    setLinkBlock, readLinkCountersBlock, setCorrectionBlock, setAmplitudeBlock, setDirectionBlock, setBridgeBlock,
    datumNowBlock]

theorem datumNowAt_svp (s : State) (a : Axis) (v : Int) : (datumNowAt s a v).2.svp = s.svp := by
  unfold datumNowAt
  (repeat' split) <;> simp [State.accept, State.refuse]

theorem blocksWithoutServo_svp (s : State) (ps : List Byte) : ∀ block ∈ blocksWithoutServo, (block s ps).2.svp = s.svp := by
  simp only [blocksWithoutServo, List.forall_mem_cons, List.not_mem_nil, false_implies, implies_true, and_true,
    setOpticsBlock, setConditionsBlock, setExpansionBlock, setPlausibilityBlock, setProbeBlock, setSampleCheckBlock,
    setNotifyBlock, setTriggerBlock, queueContextBlock, flushContextsBlock, setCaptureBlock, readCapturesBlock,
    setMicroLinkBlock, setMonitorBlock, clearMonitorBlock, setAlertBlock, readPositionBlock, clearEventsBlock,
    setLinkBlock, readLinkCountersBlock, setCorrectionBlock, setAmplitudeBlock, setDirectionBlock, setBridgeBlock,
    datumNowBlock]
  refine ⟨?_, ?_, ?_, ?_, ?_, ?_, ?_, ?_, ?_, ?_, ?_, ?_, ?_, ?_, ?_, ?_, ?_, ?_, ?_, ?_, ?_, ?_, ?_, ?_, ?_⟩
  all_goals (repeat' split) <;> simp [State.accept, State.report, State.refuse, datumNowAt_svp]

theorem axisCommand_svp {s : State} {act : State → Axis → Reply × State} (h : ∀ a, (act s a).2.svp = s.svp) (ps : List Byte) :
    (axisCommand act s ps).2.svp = s.svp := by
  unfold axisCommand
  split
  · split
    · exact h _
    · rfl
  · rfl

theorem datumCommand_svp {s : State} {act : State → Axis → Datum → Reply × State} (h : ∀ a d, (act s a d).2.svp = s.svp)
    (ps : List Byte) : (datumCommand act s ps).2.svp = s.svp := by
  unfold datumCommand
  split
  · split
    · exact h _ _
    · rfl
  · rfl

theorem clearCommand_svp {s : State} {act : State → Bool → Reply × State} (h : ∀ c, (act s c).2.svp = s.svp) (ps : List Byte) :
    (clearCommand act s ps).2.svp = s.svp := by
  unfold clearCommand
  split
  · split
    · exact h _
    · rfl
  · rfl

theorem State.takeMessage_svp {s : State} {act : State → List Byte × State} (h : ∀ u : State, (act u).2.svp = u.svp) :
    (s.takeMessage act).svp = s.svp := by
  unfold State.takeMessage
  split
  · simp [h]
  · rfl

theorem microQueueAct_svp (params : List Byte) (s : State) : (microQueueAct params s).2.svp = s.svp := by
  unfold microQueueAct
  (repeat' split) <;> simp

theorem flushOwnAct_svp (params : List Byte) (s : State) : (flushOwnAct params s).2.svp = s.svp := by
  unfold flushOwnAct
  split <;> simp

/-- The axis commands of the phase units alone. -/
def axisBlocks : List (State → Axis → Reply × State) :=
  [enableAxisBlock, disableAxisBlock, ackFaultBlock, releaseAxisBlock, axisRestartBlock]

theorem axisBlocks_svp (s : State) (a : Axis) : ∀ act ∈ axisBlocks, (act s a).2.svp = s.svp := by
  simp only [axisBlocks, List.forall_mem_cons, List.not_mem_nil, false_implies, implies_true, and_true, enableAxisBlock,
    disableAxisBlock, ackFaultBlock, releaseAxisBlock, axisRestartBlock]
  refine ⟨?_, ?_, ?_, ?_, ?_⟩
  all_goals split <;> simp [State.accept, State.refuse]

/-- Every other command leaves the servo port as it was. -/
theorem exec_svp {i : Instr} {s t : State} (hi : reachesServo i = false) (h : exec i s = .next t) : t.svp = s.svp := by
  have host : ∀ {code n body block}, block ∈ blocksWithoutServo → (s.hostCommand code n body block).svp = s.svp :=
    fun hb => State.hostCommand_svp (fun ps => blocksWithoutServo_svp s ps _ hb)
  have axis : ∀ {code body act}, act ∈ axisBlocks → (s.hostCommand code 1 body (axisCommand act)).svp = s.svp :=
    fun hb => State.hostCommand_svp (axisCommand_svp (fun a => axisBlocks_svp s a _ hb))
  cases i <;> cases hi <;> obtain rfl := Host.Outcome.next.inj h
  case microQueueContext params => exact State.takeMessage_svp (microQueueAct_svp params)
  case flushOwn params => exact State.takeMessage_svp (flushOwnAct_svp params)
  case query params => exact State.takeMessage_svp (fun _ => rfl)
  case microUnknownCode =>
    split
    · rfl
    · exact State.takeMessage_svp (fun _ => rfl)
  case readStatus | readFrameState | readServoState => exact State.hostCommand_svp (fun _ => rfl)
  case setEventMask => exact State.hostCommand_svp (fun _ => by simp [State.accept])
  case readTracking => exact State.hostCommand_svp (axisCommand_svp (fun _ => rfl))
  case setDatumPreset => exact State.hostCommand_svp (datumCommand_svp (fun _ _ => rfl))
  case datumAtMark =>
    refine State.hostCommand_svp (datumCommand_svp (fun a d => ?_))
    unfold datumAtMarkAt
    split <;> rfl
  case readConditions | readCaptureState | readAlertState =>
    refine State.hostCommand_svp (clearCommand_svp (fun c => ?_))
    cases c <;> rfl
  case enableAxis | disableAxis | ackFault | releaseAxis | axisRestart => exact axis (by simp [axisBlocks])
  case readPosition | clearEvents | setOptics | setConditions | setExpansion | setPlausibility | setProbe | setSampleCheck |
      setNotify | setTrigger | queueContext | flushContexts | setCapture | readCaptures | setMicroLink | setMonitor |
      clearMonitor | setAlert | setLink | readLinkCounters | setCorrection | setAmplitude | setDirection | setBridge |
      datumNow =>
    exact host (by simp [blocksWithoutServo])
  all_goals (repeat' split) <;> simp

/-! ## The law of the servo port in every step -/

/-- A reset leaves the reset values, and a selection in which a clock has come reads ones (R116, R118). -/
theorem ServoPort.reset_afterReset_ok (p : ReadPhase) : ({ ServoPort.reset with read := p.afterReset } : ServoPort).Ok :=
  { ServoPort.reset_ok with reading := fun r hr => by cases p <;> cases hr }

theorem State.exec_svpOk {s t : State} (ht : s.TrackingOk) (h : s.svp.Ok) {i : Instr} (e : exec i s = .next t) : t.svp.Ok := by
  by_cases hi : reachesServo i = false
  · rwa [exec_svp hi e]
  cases i <;> first | exact absurd rfl hi | skip
  case setLayout => exact execSetLayout_ok h e
  all_goals obtain rfl := Host.Outcome.next.inj e
  case syncEdge => exact State.syncRise_ok ht h
  case frameTimerExpiry =>
    split
    · exact State.timerEvent_ok ht h
    · exact h
  case setFrame => exact State.hostCommand_svpOk h (fun ps _ => setFrameBlock_ok ht h ps)
  case servoReadStart sdi =>
    split
    · exact h.read (h.firstClock sdi)
    · exact h
    · exact h
  case servoReadComplete word | servoArm word | servoDisarm word => exact State.completeRead_ok h word
  case servoDeselect => exact { h with reading := fun _ hr => by cases hr }
  case holdOutput | holdOutputRelease => exact State.hostCommand_svpOk h (fun ps _ => holdOutputBlock_ok ht h ps)
  case powerOnReset => exact ServoPort.reset_afterReset_ok _
  case resetUnit =>
    split
    · exact h
    · split
      · rwa [State.answer_svp]
      · exact ServoPort.reset_afterReset_ok _

/-! ## A clock of the servo port (R104, R113) -/

theorem bitsToNat_lt (bits : List Bool) : bitsToNat bits < 2 ^ bits.length := by
  induction bits with
  | nil => simp [bitsToNat]
  | cons b rest ih =>
    rw [bitsToNat_cons, List.length_cons, pow_succ]
    cases b <;> simp <;> omega

/-- Bits are spelled again by the number they spell. -/
theorem natBits_bitsToNat (bits : List Bool) : natBits bits.length (bitsToNat bits) = bits := by
  induction bits with
  | nil => rfl
  | cons b rest ih =>
    have low (i : Nat) (hi : i < rest.length) : (b.toNat * 2 ^ rest.length + bitsToNat rest).testBit i = (bitsToNat rest).testBit i := by
      rw [Nat.mul_comm, Nat.testBit_two_pow_mul_add _ (bitsToNat_lt rest), if_pos hi]
    have high : (b.toNat * 2 ^ rest.length + bitsToNat rest).testBit rest.length = b := by
      rw [Nat.mul_comm, Nat.testBit_two_pow_mul_add _ (bitsToNat_lt rest), if_neg (Nat.lt_irrefl _), Nat.sub_self]
      cases b <;> rfl
    rw [bitsToNat_cons, List.length_cons, natBits, high]
    refine congrArg (b :: ·) (Eq.trans ?_ ih)
    rw [natBits_eq_field, natBits_eq_field]
    exact List.map_congr_left fun i hi => low _ (by have := List.mem_range.mp hi; omega)

/-- The word that eight bits spell has these bits. -/
theorem natBits_wordOf {bits : List Bool} (h : bits.length = 8) : natBits 8 (BitVec.ofNat 8 (bitsToNat bits)).toNat = bits := by
  have lt := bitsToNat_lt bits
  rw [h] at lt
  rw [BitVec.toNat_ofNat, Nat.mod_eq_of_lt lt, ← h, natBits_bitsToNat]

theorem exec_servoRow (word : BitVec 8) (s : State) : exec (servoRow word) s = .next (s.completeRead word) := by
  unfold servoRow
  split
  · rfl
  · split <;> rfl

theorem lineStep_servoClock_idle {s : State} (h : s.svp.read = .idle) (sdi : Bool) :
    lineStep (.servoClock sdi) s = exec (.servoReadStart sdi) s := by
  simp only [lineStep, State.takeLine, State.takeServoClock, h]

theorem lineStep_servoClock_spent {s : State} (h : s.svp.read = .spent) (sdi : Bool) : lineStep (.servoClock sdi) s = .next s := by
  simp only [lineStep, State.takeLine, State.takeServoClock, h]

/-- A clock before the last of a read advances it. -/
theorem lineStep_servoClock_next {s : State} {r : ServoRead} (h : s.svp.read = .reading r) (hc : r.clocks + 1 < r.content.length)
    (sdi : Bool) : lineStep (.servoClock sdi) s = .next (s.modSvp (fun x => { x with read := .reading (r.clock sdi) })) := by
  have more : ¬ (r.clock sdi).content.length ≤ (r.clock sdi).clocks := Nat.not_le.mpr hc
  simp only [lineStep, State.takeLine, State.takeServoClock, h, if_neg more]

/-- The last clock of a read completes it with the word its first eight bits spell. -/
theorem lineStep_servoClock_last {s : State} {r : ServoRead} (h : s.svp.read = .reading r) (hc : r.content.length ≤ r.clocks + 1)
    (sdi : Bool) : lineStep (.servoClock sdi) s = exec (servoRow (BitVec.ofNat 8 (bitsToNat (r.clock sdi).word)))
      (s.modSvp (fun x => { x with read := .reading (r.clock sdi) })) := by
  have last : (r.clock sdi).content.length ≤ (r.clock sdi).clocks := hc
  simp only [lineStep, State.takeLine, State.takeServoClock, h, if_pos last]

theorem State.completeRead_of_prefix {s : State} {r : ServoRead} {word : BitVec 8} (h : s.svp.read = .reading r)
    (hw : r.word.isPrefixOf (natBits 8 word.toNat) = true) :
    s.completeRead word = (s.modSvp (fun x => { x with read := .spent, delivered := true })).takeWord word := by
  simp only [State.completeRead, h, hw, if_true]

/-- A clock on the servo port, with the completion it may bring, keeps the law of the port (R104, R113). -/
theorem lineStep_servoClock_svpOk {s t : State} (h : s.svp.Ok) {sdi : Bool} (e : lineStep (.servoClock sdi) s = .next t) :
    t.svp.Ok := by
  cases hr : s.svp.read with
  | idle =>
    rw [lineStep_servoClock_idle hr] at e
    obtain rfl := Host.Outcome.next.inj e
    rw [hr]
    exact h.read (h.firstClock sdi)
  | spent =>
    rw [lineStep_servoClock_spent hr] at e
    obtain rfl := Host.Outcome.next.inj e
    exact h
  | reading r =>
    have hok := h.reading r hr
    by_cases hc : r.clocks + 1 < r.content.length
    · rw [lineStep_servoClock_next hr hc] at e
      obtain rfl := Host.Outcome.next.inj e
      exact h.read (hok.clock hc)
    · have full : (r.clock sdi).word.length = 8 := by
        have word := hok.clock_word sdi
        have len := hok.length
        have clocks : (r.clock sdi).clocks = r.clocks + 1 := rfl
        omega
      rw [lineStep_servoClock_last hr (by omega), exec_servoRow,
        State.completeRead_of_prefix (r := r.clock sdi) rfl (by rw [natBits_wordOf full]; simp)] at e
      obtain rfl := Host.Outcome.next.inj e
      exact h.spent _

/-- A line event of any other link leaves the servo port as it was. -/
theorem State.takeLine_svp_of_ne {e : LineEvent} (he : ∀ sdi, e ≠ .servoClock sdi) (s : State) : (s.takeLine e).1.svp = s.svp := by
  cases e with
  | servoClock sdi => exact absurd rfl (he sdi)
  | _ =>
    simp only [State.takeLine, State.endSampleFrame, State.takeConditionsCharacter, State.endCharacter, State.takeCharacter,
      State.deselectHost]
    (repeat' split) <;> rfl

/-- What a step can do: a command of the queue or of its own, a line event with the row it completes, or a tick. -/
theorem step_cases {s t : State} (h : step s = .next t) :
    (∃ i q, exec i (s.withPending q) = .next t) ∨ (∃ i, exec i s = .next t) ∨ (∃ e q, lineStep e (s.withLines q) = .next t) ∨
    t = s.advanceTick := by
  unfold step at h
  split at h
  · exact .inl ⟨_, _, h⟩
  · unfold idleStep at h
    split at h
    · exact .inr (.inl ⟨_, h⟩)
    · split at h
      · exact .inr (.inr (.inl ⟨_, _, h⟩))
      · exact .inr (.inr (.inr (Host.Outcome.next.inj h).symm))

theorem lineStep_svpOk {s t : State} (ht : s.TrackingOk) (h : s.svp.Ok) {e : LineEvent} (hs : lineStep e s = .next t) : t.svp.Ok := by
  by_cases he : ∃ sdi, e = .servoClock sdi
  · obtain ⟨sdi, rfl⟩ := he
    exact lineStep_servoClock_svpOk h hs
  · have port : (s.takeLine e).1.svp.Ok := by rwa [State.takeLine_svp_of_ne (fun sdi k => he ⟨sdi, k⟩)]
    have tracking : (s.takeLine e).1.TrackingOk := ht.congr (by simp)
    unfold lineStep at hs
    split at hs
    · rename_i hl
      rw [hl] at port tracking
      exact State.exec_svpOk tracking port hs
    · rename_i hl
      rw [hl] at port
      cases hs
      exact port

end Sys2Proof.Machine

namespace Sys2Proof.Proofs

open Sys2Proof.Machine

/-- Settles O10: every command, line event and tick keeps the law of the servo port. -/
theorem stepKeepsServoPort : Obligations.StepKeepsServoPort := by
  intro s t ht h hs
  rcases step_cases hs with ⟨i, q, e⟩ | ⟨i, e⟩ | ⟨e, q, hl⟩ | rfl
  · exact State.exec_svpOk (s := s.withPending q) ht h e
  · exact State.exec_svpOk ht h e
  · exact lineStep_svpOk (s := s.withLines q) ht h hl
  · exact h

end Sys2Proof.Proofs

namespace Sys2Proof.Machine

open Sys2Proof.Claims

/-! ## Blocks that accept or refuse by the state of an axis (R46 to R57) -/

/-- What a block accepts without data is answered so. -/
theorem State.answer_accept (s : State) {t : State} (h : t.tick = s.tick) (code : Byte) :
    t.accept.2.answer code t.accept.1 = accepted s code [] t := State.answer_ok h code []

theorem State.answer_refuse (s : State) (code : Byte) (r : RefusalCode) :
    (s.refuse r).2.answer code (s.refuse r).1 = refused s code r := s.answer_refused code r

/-- The answer of a block that decides is the answer of what it decides. -/
theorem State.answer_ite (c : Prop) [Decidable c] (x y : Reply × State) (code : Byte) :
    (if c then x else y).2.answer code (if c then x else y).1 = if c then x.2.answer code x.1 else y.2.answer code y.1 := by
  split <;> rfl

/-- A command whose only parameter is an axis is refused BAD_VALUE for any other byte, and handed to its block (R46 to R57). -/
theorem State.hostCommand_axis (s : State) (code a : Byte) (extra : List Byte) (act : State → Axis → Reply × State) :
    s.hostCommand code 1 (frame [a] extra) (axisCommand act) = taken s (if 3 < a.toNat then refused s code .badValue
      else (act s (quadAt a)).2.answer code (act s (quadAt a)).1) := by
  rw [State.hostCommand_frame (n := 1) s code [a] extra _ rfl (by decide), axisCommand_eq, State.answer_ite, State.answer_refuse]
  by_cases h : a.toNat ≤ 3
  · rw [if_pos h, if_neg (by omega)]
  · rw [if_neg h, if_pos (by omega)]

@[simp] theorem withPhu_get (s : State) (a : Axis) (p : PhaseUnit) : (withPhu s a p).phu.get a = p := Four.get_set_self _ _ _

@[simp] theorem withPhu_tick (s : State) (a : Axis) (p : PhaseUnit) : (withPhu s a p).tick = s.tick := rfl

@[simp] theorem withPhu_withPhu (s : State) (a : Axis) (p q : PhaseUnit) : withPhu (withPhu s a p) a q = withPhu s a q := by
  simp [withPhu]

/-- The epoch of an axis advances, and that of M with A0 or A1 (R58, R62). -/
theorem State.advanceEpoch_eq (s : State) (a : Axis) : s.advanceEpoch a =
    { withPhu s a { s.phu.get a with epoch := (s.phu.get a).epoch + 1 } with mEpoch := mEpochAfter s a } := by
  cases a <;> rfl

/-- A phase unit is changed, and its epoch advances with that. -/
theorem State.modPhu_advanceEpoch (s : State) (a : Axis) (f : PhaseUnit → PhaseUnit) : (s.modPhu a f).advanceEpoch a =
    { withPhu s a { f (s.phu.get a) with epoch := (f (s.phu.get a)).epoch + 1 } with mEpoch := mEpochAfter s a } := by
  rw [State.advanceEpoch_eq, State.modPhu_eq_withPhu, withPhu_get, withPhu_withPhu]
  rfl

theorem enableAxisBlock_eq (s : State) (a : Axis) : enableAxisBlock s a =
    if (s.phu.get a).state = .off then (withPhu s a { restarted (s.phu.get a) with
      state := .unreferenced, lockView := decide ((s.slr.get a).link = .locked) }).accept
    else s.refuse .state := by
  have view : ((s.slr.get a).link == .locked) = decide ((s.slr.get a).link = .locked) := by cases (s.slr.get a).link <;> rfl
  simp only [enableAxisBlock, State.isOff, beq_iff_eq, State.modPhu_eq_withPhu, PhaseUnit.trackingRestart_eq_restarted, view]

theorem releaseAxisBlock_eq (s : State) (a : Axis) : releaseAxisBlock s a =
    if (s.phu.get a).state = .armed then (withPhu s a { s.phu.get a with state := .unreferenced, armed := none }).accept
    else if (s.phu.get a).state = .referenced then (withPhu s a { s.phu.get a with state := .unreferenced }).accept
    else s.refuse .state := by
  unfold releaseAxisBlock
  cases (s.phu.get a).state <;> rfl

theorem datumAtMarkAt_eq (s : State) (a : Axis) (d : Datum) : datumAtMarkAt s a d =
    if (s.phu.get a).state = .unreferenced then (withPhu s a { s.phu.get a with state := .armed, armed := some d }).accept
    else s.refuse .state := by
  unfold datumAtMarkAt
  cases (s.phu.get a).state <;> rfl

theorem datumNowAt_eq (s : State) (a : Axis) (v : Int) : datumNowAt s a v =
    if (s.phu.get a).state = .off ∨ (s.phu.get a).state = .faulted then s.refuse .state
    else if (s.phu.get a).lockView = false then s.refuse .noLock
    else (({ withPhu s a { s.phu.get a with
        acc := v, state := .referenced, armed := none, epoch := (s.phu.get a).epoch + 1 } with
      mEpoch := mEpochAfter s a } : State).reportToCapture a .epochChange).accept := by
  simp only [datumNowAt, State.loadDatum, State.modPhu_advanceEpoch]
  cases (s.phu.get a).state <;> cases (s.phu.get a).lockView <;> rfl

/-- A block whose parameters are an axis and a value in the range of ACC (R51). -/
theorem datumNowBlock_eq (s : State) (a v5 v4 v3 v2 v1 v0 : Byte) : datumNowBlock s [a, v5, v4, v3, v2, v1, v0] =
    if a.toNat ≤ 3 ∧ -549755813888 ≤ count6 v5 v4 v3 v2 v1 v0 ∧ count6 v5 v4 v3 v2 v1 v0 ≤ 549755813887 then
      datumNowAt s (quadAt a) (count6 v5 v4 v3 v2 v1 v0)
    else s.refuse .badValue := by
  simp only [datumNowBlock, quadOf_eq, accIn_eq]
  by_cases ha : a.toNat ≤ 3
  · by_cases hv : -549755813888 ≤ count6 v5 v4 v3 v2 v1 v0 ∧ count6 v5 v4 v3 v2 v1 v0 ≤ 549755813887
    · simp only [ha, hv, and_self, if_true]
    · simp only [ha, hv, and_false, if_true, if_false]
  · simp only [ha, false_and, if_false]

theorem ackFaultBlock_eq (s : State) (a : Axis) : ackFaultBlock s a =
    if (s.phu.get a).state = .faulted then
      (withPhu s a { s.phu.get a with state := .unreferenced, fault := none, hold := 0 }).judgeLevel.accept
    else s.refuse .state := by
  unfold ackFaultBlock
  cases (s.phu.get a).state <;> rfl

theorem disableAxisBlock_eq (s : State) (a : Axis) : disableAxisBlock s a =
    if (s.phu.get a).state = .off then s.accept
    else ((({ withPhu s a { restarted (s.phu.get a) with
        state := .off, acc := 0, fault := none, hold := 0, armed := none, saturated := false, bridged := false
        lockView := false, epoch := (s.phu.get a).epoch + 1 } with
      mEpoch := mEpochAfter s a } : State).reportToCapture a .disable).judgeLevel).accept := by
  simp only [disableAxisBlock, State.isOff, beq_iff_eq, State.modPhu_advanceEpoch]
  rfl

theorem axisRestartBlock_eq (s : State) (a : Axis) : axisRestartBlock s a =
    if (s.phu.get a).state = .off then s.accept
    else ((({ withPhu s a { restarted (s.phu.get a) with
        state := .unreferenced, acc := 0, fault := none, hold := 0, armed := none
        epoch := (s.phu.get a).epoch + 1 } with
      mEpoch := mEpochAfter s a } : State).reportToCapture a .restart).judgeLevel).accept := by
  simp only [axisRestartBlock, State.isOff, beq_iff_eq, State.modPhu_advanceEpoch]
  rfl

end Sys2Proof.Machine

namespace Sys2Proof.Proofs

open Sys2Proof.Machine Sys2Proof.Claims

/-- Settles O59: each command by the state of its axis, as its block decides. -/
theorem axisStateCommands : Obligations.AxisStateCommands := by
  refine ⟨fun s a extra => ?_, fun s a extra => ?_, fun s a v5 v4 v3 v2 v1 v0 d extra => ?_,
    fun s a v5 v4 v3 v2 v1 v0 extra => ?_⟩
  all_goals refine congrArg Host.Outcome.next ?_
  · rw [State.hostCommand_axis, enableAxisBlock_eq, State.answer_ite, State.answer_refuse, s.answer_accept (by rfl)]
  · rw [State.hostCommand_axis, releaseAxisBlock_eq, State.answer_ite, State.answer_ite, State.answer_refuse,
      s.answer_accept (by rfl), s.answer_accept (by rfl)]
  · rw [State.hostCommand_frame (n := 8) s 0x12 _ extra _ rfl (by decide), datumCommand_eq, datumAtMarkAt_eq, State.answer_ite,
      State.answer_ite, State.answer_refuse, State.answer_refuse, s.answer_accept (by rfl), ite_not]
  · rw [State.hostCommand_frame (n := 7) s 0x10 _ extra _ rfl (by decide), datumNowBlock_eq, datumNowAt_eq, State.answer_ite,
      State.answer_ite, State.answer_ite, State.answer_refuse, State.answer_refuse, State.answer_refuse,
      s.answer_accept (by simp), ite_not]

/-- Settles O60: each command by the state of its axis, as its block decides. -/
theorem axisClearing : Obligations.AxisClearing := by
  refine ⟨fun s a extra => ?_, fun s a extra => ?_, fun s a extra => ?_⟩
  all_goals refine congrArg Host.Outcome.next ?_
  · rw [State.hostCommand_axis, ackFaultBlock_eq, State.answer_ite, State.answer_refuse, s.answer_accept (by simp)]
  · rw [State.hostCommand_axis, disableAxisBlock_eq, State.answer_ite, s.answer_accept (by rfl),
      s.answer_accept (by simp)]
  · rw [State.hostCommand_axis, axisRestartBlock_eq, State.answer_ite, s.answer_accept (by rfl),
      s.answer_accept (by simp)]

end Sys2Proof.Proofs

namespace Sys2Proof.Machine

open Sys2Proof.Claims

/-! ## HOLD_OUTPUT (R64) -/

/-- HOLD_OUTPUT checks its mask and action, and replaces the entries of the sources of the mask. -/
theorem holdOutputBlock_eq (s : State) (m act : Byte) : holdOutputBlock s [m, act] =
    if 1 ≤ m.toNat ∧ m.toNat ≤ 63 ∧ act.toNat ≤ 1 then
      ({ s with svp := { s.svp with holds := (holdsWith s.svp.holds (BitVec.ofNat 6 m.toNat)
        (fun y => if act = 1 then none else some (s.holdEntryOf y))) } } : State).accept
    else s.refuse .badValue := by
  simp only [holdOutputBlock, nonEmptySources_eq, boolOf_eq]
  by_cases hm : 1 ≤ m.toNat ∧ m.toNat ≤ 63
  · by_cases ha : act.toNat ≤ 1
    · simp only [hm, ha, and_self, if_true, beq_iff_eq]
      rfl
    · simp [hm, ha]
  · simp [hm, ← and_assoc]

theorem State.holdEntryOf_eq (s : State) (x : Source) : s.holdEntryOf x =
    { steps := stepsNow s x, pm := lengthNow s x, epoch := s.epochOf x } := by
  rw [State.holdEntryOf, State.stepsOf_eq_stepsNow, State.pmOf_eq_lengthNow]

/-! ## The slot descriptions of SET_LAYOUT (R105) -/

theorem sourceOf_iff (b : Byte) (x : Source) : sourceOf b = some x ↔ x.toNat = b.toNat := by
  unfold sourceOf
  rcases x with (_ | _ | _ | _) | _ | _ <;> split <;> simp_all [Source.toNat, Quad.toNat] <;> omega

/-- Pairs of bytes are read as the slots they describe. -/
theorem slotDescsOf_iff : ∀ (bytes : List Byte) (ds : List SlotDesc), slotDescsOf bytes = some ds ↔ describes bytes ds
  | [], ds => by cases ds <;> simp [slotDescsOf, describes]
  | [_], ds => by cases ds <;> simp [slotDescsOf, describes]
  | x :: u :: rest, [] => by
    simp only [slotDescsOf, describes, iff_false]
    split <;> simp
  | x :: u :: rest, ⟨source, unit⟩ :: ds => by
    simp only [slotDescsOf, describes, ← slotDescsOf_iff rest ds, ← sourceOf_iff, unitOf_eq]
    by_cases hu : u.toNat ≤ 1
    · cases sourceOf x <;> cases slotDescsOf rest <;> simp [hu, eq_comm, and_assoc]
    · simp [hu]

/-- The order of a layout, slot by slot, is the order of any two of its slots. -/
theorem strictlyOrdered_iff (l : List SlotDesc) :
    strictlyOrdered l = true ↔ l.Pairwise (fun x y => x.source.toNat < y.source.toNat) := by
  have chain : strictlyOrdered l = true ↔ (l.map (fun d => d.source.toNat)).IsChain (· < ·) := by
    induction l with
    | nil => simp [strictlyOrdered]
    | cons x rest ih =>
      cases rest with
      | nil => simp [strictlyOrdered]
      | cons y rest => simp [strictlyOrdered, ih]
  rw [chain, List.isChain_iff_pairwise, List.pairwise_map]

/-! ## SET_LAYOUT (R105, R163) -/

theorem paramsOf_none {n : Nat} {body : List Byte} (h : ¬ lengthFits n body) : paramsOf n body = none := by
  unfold paramsOf
  split
  · rfl
  · rename_i len rest
    exact if_neg fun ⟨_, hrest, hn⟩ => h ⟨len, rest, rfl, hn, hn ▸ hrest⟩

/-- A frame whose length does not fit is refused BAD_LENGTH (R163). -/
theorem State.hostCommand_badLength (s : State) (code : Byte) {n : Nat} {body : List Byte} (h : ¬ lengthFits n body)
    (block : State → List Byte → Reply × State) :
    s.hostCommand code n body block = taken s (refused s code .badLength) := by
  simp only [State.hostCommand, paramsOf_none h, State.answer_refused, taken, HostPort.closed_iff]

theorem exec_setLayout (s : State) (len n : Byte) (rest : List Byte) : exec (.setLayout (len :: n :: rest)) s = .next
    (if s.hpt.closed then s
    else if 1 ≤ len.toNat ∧ ¬ (1 ≤ n.toNat ∧ n.toNat ≤ 4) then s.answer 0x20 (.refused .badValue)
    else s.hostCommand 0x20 (1 + 2 * n.toNat) (len :: n :: rest) setLayoutBlock) := rfl

/-- SET_LAYOUT with a slot count in its range, or with LEN 0, requires the length of that count. -/
theorem exec_setLayout_count (s : State) {len n : Byte} (rest : List Byte)
    (h : ¬ (1 ≤ len.toNat ∧ ¬ (1 ≤ n.toNat ∧ n.toNat ≤ 4))) : exec (.setLayout (len :: n :: rest)) s =
      .next (s.hostCommand 0x20 (1 + 2 * n.toNat) (len :: n :: rest) setLayoutBlock) := by
  rw [exec_setLayout, if_neg h]
  refine congrArg Host.Outcome.next ?_
  split
  · rename_i hc
    simp only [State.hostCommand, hc, if_true]
  · rfl

/-- SET_LAYOUT with a slot count outside its range is refused BAD_VALUE, unless LEN is 0. -/
theorem exec_setLayout_badCount (s : State) {len n : Byte} (rest : List Byte) (hl : 1 ≤ len.toNat)
    (hn : ¬ (1 ≤ n.toNat ∧ n.toNat ≤ 4)) :
    exec (.setLayout (len :: n :: rest)) s = .next (taken s (refused s 0x20 .badValue)) := by
  have bad : 1 ≤ len.toNat ∧ ¬ (1 ≤ n.toNat ∧ n.toNat ≤ 4) := ⟨hl, hn⟩
  rw [exec_setLayout, if_pos bad, State.answer_refused]
  simp only [taken, HostPort.closed_iff]

theorem setLayoutBlock_describes (s : State) (n : Byte) {ps : List Byte} {ds : List SlotDesc} (hd : describes ps ds)
    (ho : ds.Pairwise (fun x y => x.source.toNat < y.source.toNat)) :
    setLayoutBlock s (n :: ps) = ({ s with svp := { s.svp with staged := some ds } } : State).accept := by
  simp only [setLayoutBlock, List.drop_one, List.tail_cons, (slotDescsOf_iff ps ds).mpr hd, (strictlyOrdered_iff ds).mpr ho, if_true]
  rfl

theorem setLayoutBlock_refuse (s : State) (n : Byte) {ps : List Byte}
    (h : ¬ ∃ ds, describes ps ds ∧ ds.Pairwise (fun x y => x.source.toNat < y.source.toNat)) :
    setLayoutBlock s (n :: ps) = s.refuse .badValue := by
  simp only [setLayoutBlock, List.drop_one, List.tail_cons]
  split
  · rename_i ds hd
    exact if_neg fun ho => h ⟨ds, (slotDescsOf_iff ps ds).mp hd, (strictlyOrdered_iff ds).mp ho⟩
  · rfl

/-- SET_LAYOUT with a count in its range and two bytes for each slot is answered as its block does. -/
theorem exec_setLayout_frame (s : State) {n : Byte} {ps : List Byte} (extra : List Byte) (h1 : 1 ≤ n.toNat) (h4 : n.toNat ≤ 4)
    (hp : ps.length = 2 * n.toNat) : exec (.setLayout (frame (n :: ps) extra)) s =
      .next (taken s ((setLayoutBlock s (n :: ps)).2.answer 0x20 (setLayoutBlock s (n :: ps)).1)) := by
  have fits : (n :: ps).length = 1 + 2 * n.toNat := by rw [List.length_cons]; omega
  rw [← State.hostCommand_frame s 0x20 (n :: ps) extra setLayoutBlock fits (by omega)]
  exact exec_setLayout_count s (ps ++ extra) (fun h => h.2 ⟨h1, h4⟩)

end Sys2Proof.Machine

namespace Sys2Proof.Proofs

open Sys2Proof.Machine Sys2Proof.Claims

/-- Settles O34: the entries HOLD_OUTPUT makes, and SET_LAYOUT by its count, its length and its slots. -/
theorem holdOutputsAndLayouts : Obligations.HoldOutputsAndLayouts := by
  refine ⟨fun s m act extra c hc => ?_, fun s n ps extra ds h1 h4 hp hd ho => ?_, fun s n ps extra h1 h4 hp h => ?_,
    fun s len n rest hl hn => exec_setLayout_badCount s rest hl hn, fun s len n rest h1 h4 hfit => ?_, fun s n rest hn => ?_,
    fun s body hb => ?_⟩
  · refine ⟨holdsWith s.svp.holds (BitVec.ofNat 6 m.toNat) (fun y => if act = 1 then none else some (s.holdEntryOf y)),
      fun x => ?_, ?_⟩
    · rw [holdsWith_get, sourceSetOf_has, State.holdEntryOf_eq]
      rfl
    · have same : exec c s = .next (s.hostCommand 0x15 2 (frame [m, act] extra) holdOutputBlock) := by rcases hc with rfl | rfl <;> rfl
      rw [same]
      exact congrArg Host.Outcome.next (State.hostCommand_checked rfl (by decide) (holdOutputBlock_eq s m act) rfl)
  · rw [exec_setLayout_frame s extra h1 h4 hp, setLayoutBlock_describes s n hd ho, s.answer_accept (by rfl)]
  · rw [exec_setLayout_frame s extra h1 h4 hp, setLayoutBlock_refuse s n h, State.answer_refuse]
  · rw [exec_setLayout_count s rest (fun h => h.2 ⟨h1, h4⟩), s.hostCommand_badLength 0x20 hfit]
  · have hfit : ¬ lengthFits (1 + 2 * n.toNat) (0 :: n :: rest) := by
      rintro ⟨len, tail, e, hlen, _⟩
      cases e
      have zero : (0 : Byte).toNat = 0 := rfl
      omega
    rw [exec_setLayout_count s rest (fun h => absurd h.1 (by decide)), s.hostCommand_badLength 0x20 hfit]
  · have hfit : ¬ lengthFits 3 body := by
      rintro ⟨len, tail, rfl, _, htail⟩
      rw [List.length_cons] at hb
      omega
    rw [← s.hostCommand_badLength 0x20 hfit setLayoutBlock]
    match body, hb with
    | [], _ => rfl
    | [_], _ => rfl

end Sys2Proof.Proofs

namespace Sys2Proof.Machine

open Sys2Proof.Claims

/-! ## The axes a source is formed from (R60, R61) -/

section
variable (s : State) {x : Source} (p : PhaseUnit → Prop)

theorem onAll_phys (a : Axis) : onAll s (.phys a) p ↔ p (s.phu.get a) := by
  simp [onAll, Source.dependsOn]

theorem onSome_phys (a : Axis) : onSome s (.phys a) p ↔ p (s.phu.get a) := by
  simp [onSome, Source.dependsOn]

theorem dependsOn_pair (hx : x = .m ∨ x = .w) (a : Axis) : x.dependsOn a = true ↔ a = .q0 ∨ a = .q1 := by
  rcases hx with rfl | rfl <;> simp [Source.dependsOn]

theorem onAll_pair (hx : x = .m ∨ x = .w) : onAll s x p ↔ p (s.phu.get .q0) ∧ p (s.phu.get .q1) := by
  simp [onAll, dependsOn_pair hx]

theorem onSome_pair (hx : x = .m ∨ x = .w) : onSome s x p ↔ p (s.phu.get .q0) ∨ p (s.phu.get .q1) := by
  simp [onSome, dependsOn_pair hx]

end

/-! ## Slots of a source with an axis that is not OFF (R108, R110) -/

/-- What the slot of a source carries in steps, with its flags, where an axis of it is not OFF. -/
structure SlotOfLiveSource (s : State) (x : Source) (y : Slot) : Prop where
  value : y.value = stepsNow s x
  held : y.held = false
  epoch : y.epoch = s.epochOf x
  valid : y.valid = true ↔ onAll s x (fun p => p.state = .referenced ∧ p.lockView = true)
  fault : y.fault = true ↔ onSome s x (fun p => p.state = .faulted)
  armed : y.armed = true ↔ onSome s x (fun p => p.state = .armed)
  bridged : y.bridged = true ↔ onSome s x (fun p => p.bridged = true)
  saturated : y.saturated = true ↔ onSome s x (fun p => p.saturated = true)
  locked : y.locked = true ↔ onAll s x (fun p => p.lockView = true)
  monitor : y.monitor = true ↔ ∃ m, (s.mnu.get m).tripped = true ∧ (s.mnu.get m).source = x

theorem State.watchTripped_iff (s : State) (x : Source) :
    s.watchTripped x = true ↔ ∃ m, (s.mnu.get m).tripped = true ∧ (s.mnu.get m).source = x := by
  simp [State.watchTripped, Quad.mem_all]

theorem pairSlot_live (s : State) {x : Source} (hx : x = .m ∨ x = .w) : SlotOfLiveSource s x
    (pairSlot (s.phu.get .q0) (s.phu.get .q1) (s.stepsOf x) s.mEpoch (s.watchTripped x)) where
  value := s.stepsOf_eq_stepsNow x
  held := rfl
  epoch := by rcases hx with rfl | rfl <;> rfl
  valid := by simp [pairSlot, onAll_pair s _ hx, PhaseUnit.valid_iff]
  fault := by simp [pairSlot, onSome_pair s _ hx]
  armed := by simp [pairSlot, onSome_pair s _ hx]
  bridged := by simp [pairSlot, onSome_pair s _ hx]
  saturated := by simp [pairSlot, onSome_pair s _ hx]
  locked := by simp [pairSlot, onAll_pair s _ hx]
  monitor := s.watchTripped_iff x

theorem PhaseUnit.liveSlot_live {p : PhaseUnit} (h : p.state ≠ .off) (monitor : Bool) : p.liveSlot monitor =
    { value := p.reported, valid := p.valid, held := false, fault := p.state == .faulted, armed := p.state == .armed
      bridged := p.bridged, saturated := p.saturated, locked := p.lockView, monitor := monitor, epoch := p.epoch } := by
  unfold PhaseUnit.liveSlot
  split
  · exact absurd ‹_› h
  · rfl

theorem State.stepSlot_live {s : State} {x : Source} (h : onSome s x (fun p => p.state ≠ .off)) :
    SlotOfLiveSource s x (s.stepSlot x) := by
  cases x with
  | m => exact pairSlot_live s (.inl rfl)
  | w => exact pairSlot_live s (.inr rfl)
  | phys a =>
    rw [onSome_phys] at h
    rw [State.stepSlot, PhaseUnit.liveSlot_live h]
    exact {
      value := PhaseUnit.reported_eq_countOf _
      held := rfl
      epoch := rfl
      valid := by rw [onAll_phys, PhaseUnit.valid_iff]
      fault := by simp [onSome_phys]
      armed := by simp [onSome_phys]
      bridged := by rw [onSome_phys]
      saturated := by rw [onSome_phys]
      locked := by rw [onAll_phys]
      monitor := s.watchTripped_iff _ }

theorem State.baseSlot_live {s : State} {x : Source} (h : onSome s x (fun p => p.state ≠ .off)) : s.baseSlot x = s.stepSlot x := by
  have on (y : Source) (hy : y = .m ∨ y = .w) (h : onSome s y (fun p => p.state ≠ .off)) : s.bothOff = false := by
    rcases (onSome_pair s _ hy).mp h with h0 | h1
    · simp [State.bothOff, h0]
    · simp [State.bothOff, h1]
  cases x with
  | phys a => rfl
  | m => simp [State.baseSlot, on .m (.inl rfl) h]
  | w => simp [State.baseSlot, on .w (.inr rfl) h]

/-- The slot of a source whose axes are all OFF is zero before the conversion (R110). -/
theorem State.baseSlot_off {s : State} {x : Source} (h : onAll s x (fun p => p.state = .off)) : s.baseSlot x = Slot.zero := by
  have off (y : Source) (hy : y = .m ∨ y = .w) (h : onAll s y (fun p => p.state = .off)) : s.baseSlot y = Slot.zero := by
    obtain ⟨h0, h1⟩ := (onAll_pair s _ hy).mp h
    simp [s.baseSlot_pair hy, State.bothOff, h0, h1]
  cases x with
  | phys a =>
    rw [onAll_phys] at h
    simp only [State.baseSlot, State.stepSlot, PhaseUnit.liveSlot, h]
    rfl
  | m => exact off .m (.inl rfl) h
  | w => exact off .w (.inr rfl) h

/-- Axes that are OFF report the count 0, and its length is 0 (R60, R85, R86). -/
theorem lengthNow_off {s : State} {x : Source} (h : onAll s x (fun p => p.state = .off)) : lengthNow s x = 0 := by
  have count {p : PhaseUnit} (hp : p.state = .off) : countOf p = 0 := if_pos hp
  cases x with
  | phys a => simp [lengthNow, count ((onAll_phys s _ a).mp h), roundDiv]
  | m =>
    obtain ⟨h0, h1⟩ := (onAll_pair s _ (.inl rfl)).mp h
    simp [lengthNow, count h0, count h1, roundDiv]
  | w =>
    obtain ⟨h0, h1⟩ := (onAll_pair s _ (.inr rfl)).mp h
    simp [lengthNow, count h0, count h1, roundDiv]

/-! ## The slot of a description, held or not (R64, R87, R109) -/

theorem State.slotOf_held {s : State} {d : SlotDesc} {e : HoldEntry} (h : s.svp.holds.get d.source = some e) :
    s.slotOf d = s.heldSlot d e := by
  simp only [State.slotOf, h]

theorem State.slotOf_free {s : State} {d : SlotDesc} (h : s.svp.holds.get d.source = none) : s.slotOf d = s.liveSlot d := by
  simp only [State.slotOf, h]

theorem State.liveSlot_steps {s : State} {d : SlotDesc} (h : d.unit = .steps) : s.liveSlot d = s.baseSlot d.source := by
  simp only [State.liveSlot, h]

theorem State.liveSlot_pm {s : State} {d : SlotDesc} (h : d.unit = .pm) : s.liveSlot d = { s.baseSlot d.source with
    value := max (-8796093022207) (min 8796093022207 (lengthNow s d.source))
    valid := (s.baseSlot d.source).valid && !overflows 8796093022207 (lengthNow s d.source) } := by
  simp only [State.liveSlot, h, State.pmOf_eq_lengthNow]
  rfl

/-- Held or not, and in either unit, a slot has the flags of its source as it stands, VALID and HELD apart (R108 to R110). -/
theorem State.slotOf_flags {s : State} {d : SlotDesc} (h : onSome s d.source (fun p => p.state ≠ .off)) :
    ∃ value valid held epoch, s.slotOf d =
      { s.stepSlot d.source with value := value, valid := valid, held := held, epoch := epoch } := by
  cases hh : s.svp.holds.get d.source with
  | some e =>
    rw [State.slotOf_held hh]
    exact ⟨_, _, _, _, rfl⟩
  | none =>
    rw [State.slotOf_free hh]
    cases hu : d.unit with
    | steps =>
      rw [State.liveSlot_steps hu, State.baseSlot_live h]
      exact ⟨_, _, _, _, rfl⟩
    | pm =>
      rw [State.liveSlot_pm hu, State.baseSlot_live h]
      exact ⟨_, _, _, _, rfl⟩

theorem State.slotOf_off {s : State} {d : SlotDesc} (hh : s.svp.holds.get d.source = none)
    (h : onAll s d.source (fun p => p.state = .off)) : s.slotOf d = Slot.zero := by
  rw [State.slotOf_free hh]
  cases hu : d.unit with
  | steps => rw [State.liveSlot_steps hu, State.baseSlot_off h]
  | pm =>
    rw [State.liveSlot_pm hu, State.baseSlot_off h, lengthNow_off h]
    rfl

theorem State.heldSlot_value (s : State) (d : SlotDesc) (e : HoldEntry) :
    (d.unit = .steps → (s.heldSlot d e).value = e.steps) ∧
    (d.unit = .pm → (s.heldSlot d e).value = max (-8796093022207) (min 8796093022207 e.pm)) := by
  refine ⟨fun hu => by simp only [State.heldSlot, hu], fun hu => ?_⟩
  simp only [State.heldSlot, hu]
  rfl

end Sys2Proof.Machine

namespace Sys2Proof.Proofs

open Sys2Proof.Machine Sys2Proof.Claims

/-- Settles O33: the slot of a source that is OFF, of one that is not, and of one that is held. -/
theorem snapshotSlots : Obligations.SnapshotSlots := by
  intro s d
  refine ⟨fun hh hoff => State.slotOf_off hh hoff, fun hh hon => ?_, fun e he => ?_, fun hon => ?_⟩
  · have live := State.stepSlot_live hon
    rw [State.slotOf_free hh]
    cases hu : d.unit with
    | steps =>
      rw [State.liveSlot_steps hu, State.baseSlot_live hon]
      exact ⟨live.held, live.epoch, fun _ => ⟨live.value, live.valid⟩, nofun⟩
    | pm =>
      rw [State.liveSlot_pm hu, State.baseSlot_live hon]
      refine ⟨live.held, live.epoch, nofun, fun _ => ⟨rfl, ?_⟩⟩
      have fits := overflows_iff 8796093022207 (lengthNow s d.source)
      rw [Bool.and_eq_true, live.valid, Bool.not_eq_true', ← Bool.not_eq_true, fits, not_or, not_lt, not_lt]
  · rw [State.slotOf_held he]
    exact ⟨rfl, rfl, rfl, s.heldSlot_value d e⟩
  · have live := State.stepSlot_live hon
    obtain ⟨value, valid, held, epoch, e⟩ := State.slotOf_flags hon
    rw [e]
    exact ⟨live.fault, live.armed, live.bridged, live.saturated, live.locked, live.monitor⟩

end Sys2Proof.Proofs

namespace Sys2Proof.Machine

open Sys2Proof.Claims

/-! ## The frame a read shifts out (R112, R116, Formats) -/

theorem slotBits_eq_slotFields (x : Slot) : slotBits x = slotFields x := by
  rw [slotBits, slotFields, intBits_eq_signedField, natBits_eq_field]

theorem headerBits_append_slots (x : Snapshot) (rep : Bool) :
    headerBits x.header rep ++ x.slots.flatMap slotBits = snapshotFields x rep := by
  simp only [headerBits, snapshotFields, natBits_eq_field, funext slotBits_eq_slotFields]

/-- Zeros have the CRC 0 (R174). -/
theorem crc8_zeros (n : Nat) : crc8 (List.replicate n false) = 0 := by
  have zero : crcBit 0 false = 0 := by decide
  induction n with
  | zero => rfl
  | succ n ih => rw [crc8, List.replicate_succ, List.foldl_cons, zero]; exact ih

theorem zeroFrame_eq (slots : Nat) : zeroFrame slots = List.replicate (24 + 56 * slots + 8) false := by
  rw [zeroFrame, withCrc, crc8_zeros]
  exact (List.replicate_add _ 8 false).symm

theorem ServoPort.content_eq (x : ServoPort) : x.content = readContent x := by
  unfold ServoPort.content readContent
  cases x.snapshot with
  | some y => simp only [servoFrame, withCrc, headerBits_append_slots, natBits_eq_field]
  | none => exact zeroFrame_eq _

/-! ## The completion of a read (R54, R113) -/

theorem exec_completion {w : BitVec 8} {c : Instr} (hc : c = .servoReadComplete w ∨ c = .servoArm w ∨ c = .servoDisarm w)
    (s : State) : exec c s = .next (s.completeRead w) := by
  rcases hc with rfl | rfl | rfl <;> rfl

theorem PhaseUnit.takeArm_eq (p : PhaseUnit) :
    p.takeArm = if p.state = .unreferenced then { p with state := .armed, armed := some p.preset } else p := by
  unfold PhaseUnit.takeArm
  cases p.state <;> rfl

theorem PhaseUnit.takeDisarm_eq (p : PhaseUnit) :
    p.takeDisarm = if p.state = .armed then { p with state := .unreferenced, armed := none } else p := by
  unfold PhaseUnit.takeDisarm
  cases p.state <;> rfl

/-- A command word reaches the phase units it selects, by its ACTION (R54, R113). -/
theorem State.takeWord_get (s : State) (w : BitVec 8) (a : Axis) : (s.takeWord w).phu.get a =
    if selectedBy w a = true ∧ w.extractLsb' 6 2 = 1 ∧ (s.phu.get a).state = .unreferenced then
      { s.phu.get a with state := .armed, armed := some (s.phu.get a).preset }
    else if selectedBy w a = true ∧ w.extractLsb' 6 2 = 2 ∧ (s.phu.get a).state = .armed then
      { s.phu.get a with state := .unreferenced, armed := none }
    else s.phu.get a := by
  have selected : wordSelects w a = selectedBy w a := rfl
  have action : servoAction w = w.extractLsb' 6 2 := rfl
  simp only [State.takeWord, Four.get_mapIdx, selected, action]
  cases selectedBy w a with
  | false => simp
  | true =>
    by_cases arm : w.extractLsb' 6 2 = 1
    · simp [arm, PhaseUnit.takeArm_eq]
    · by_cases disarm : w.extractLsb' 6 2 = 2
      · simp [disarm, PhaseUnit.takeDisarm_eq]
      · simp only [arm, disarm, false_and, and_false, if_true, if_false, id]

theorem State.completeRead_of_not_prefix {s : State} {w : BitVec 8}
    (h : ∀ r, s.svp.read = .reading r → ¬ r.word <+: field 8 w.toNat) : s.completeRead w = s := by
  rcases s.completeRead_cases w with ⟨r, hr, hw, _⟩ | e
  · rw [natBits_eq_field, List.isPrefixOf_iff_prefix] at hw
    exact absurd hw (h r hr)
  · exact e

/-! ## The clocks of a read (R104, R113) -/

theorem wordOf_field (w : BitVec 8) : BitVec.ofNat 8 (bitsToNat (field 8 w.toNat)) = w := by
  rw [← natBits_eq_field, bitsToNat_natBits, Nat.mod_eq_of_lt w.isLt, BitVec.ofNat_toNat, BitVec.setWidth_eq]

/-- Once the word has its eight bits, a clock takes no more of them. -/
theorem ServoRead.clock_word_full {r : ServoRead} {w : BitVec 8} (h : r.word = field 8 w.toNat) (sdi : Bool) :
    (r.clock sdi).word = field 8 w.toNat := by
  have full : ¬ r.word.length < 8 := by simp [h, field]
  rw [ServoRead.clock, if_neg full, h]

end Sys2Proof.Machine

namespace Sys2Proof.Proofs

open Sys2Proof.Machine Sys2Proof.Claims

/-- Settles O32: the clocks of a selection from the first to the last, what the last completes, and the deselection. -/
theorem servoReads : Obligations.ServoReads := by
  intro s
  refine ⟨fun sdi hidle => ?_, fun sdi hbusy => ?_, rfl, fun w c hc => ⟨fun h => ?_, fun r hr hw => ?_⟩,
    fun sdi hidle => lineStep_servoClock_idle hidle sdi,
    fun sdi hspent => ⟨lineStep_servoClock_spent hspent sdi, by rw [ServoPort.clockOut, hspent]⟩, fun sdi r u hr hu => ?_⟩
  · rw [← ServoPort.content_eq]
    refine congrArg Host.Outcome.next ?_
    rw [hidle]
    rfl
  · refine congrArg Host.Outcome.next ?_
    split
    · exact absurd ‹_› hbusy
    · rfl
    · rfl
  · rw [exec_completion hc, State.completeRead_of_not_prefix h]
  · rw [← natBits_eq_field, ← List.isPrefixOf_iff_prefix] at hw
    rw [exec_completion hc, State.completeRead_of_prefix hr hw]
    exact ⟨_, rfl, rfl, State.takeWord_get _ w⟩
  · subst hu
    refine ⟨fun _ => by rw [ServoPort.clockOut, hr], fun hc => lineStep_servoClock_next hr hc sdi, fun w hc hw => ?_⟩
    rw [lineStep_servoClock_last hr (by omega), ServoRead.clock_word_full hw, wordOf_field]
    rfl

end Sys2Proof.Proofs

namespace Sys2Proof.Machine

/-! ## Laws that commands keep through their blocks -/

section

variable {P : State → Prop} {s : State}

/-- A command frame keeps a law that its block keeps and that no answer touches. -/
theorem State.hostCommand_keeps {code : Byte} {n : Nat} {body : List Byte} {block : State → List Byte → Reply × State}
    (answer : ∀ u code r, P u → P (u.answer code r)) (h : P s) (hb : ∀ ps, P (block s ps).2) :
    P (s.hostCommand code n body block) := by
  rcases s.hostCommand_cases code n body block with ⟨_, e⟩ | ⟨_, _, e⟩ | ⟨ps, _, _, e⟩ <;> rw [e]
  · exact h
  · exact answer _ _ _ h
  · exact answer _ _ _ (hb ps)

theorem axisCommand_keeps {act : State → Axis → Reply × State} (h : P s) (ha : ∀ a, P (act s a).2) (ps : List Byte) :
    P (axisCommand act s ps).2 := by
  unfold axisCommand
  split
  · split
    · exact ha _
    · exact h
  · exact h

theorem datumCommand_keeps {act : State → Axis → Datum → Reply × State} (h : P s) (ha : ∀ a d, P (act s a d).2)
    (ps : List Byte) : P (datumCommand act s ps).2 := by
  unfold datumCommand
  split
  · split
    · exact ha _ _
    · exact h
  · exact h

theorem clearCommand_keeps {act : State → Bool → Reply × State} (h : P s) (ha : ∀ c, P (act s c).2) (ps : List Byte) :
    P (clearCommand act s ps).2 := by
  unfold clearCommand
  split
  · split
    · exact ha _
    · exact h
  · exact h

end

/-! ## Commands that reach neither the Compensation Unit nor the Line Capture Unit -/

/-- The Compensation Unit and the Line Capture Unit stand as they were. -/
def State.SameUnits (s t : State) : Prop := t.cmu = s.cmu ∧ t.lcu = s.lcu

theorem State.SameUnits.refl (s : State) : s.SameUnits s := ⟨rfl, rfl⟩

theorem State.SameUnits.answer {s u : State} (h : s.SameUnits u) (code : Byte) (r : Reply) : s.SameUnits (u.answer code r) := by
  simpa [State.SameUnits] using h

/-- The blocks whose settings and data lie outside both units. -/
def blocksOfOtherUnits : List (State → List Byte → Reply × State) :=
  [readLinkCountersBlock, setCorrectionBlock, setAmplitudeBlock, setDirectionBlock, setBridgeBlock, setSampleCheckBlock,
    setNotifyBlock, setLayoutBlock, holdOutputBlock, setMicroLinkBlock, setMonitorBlock, clearMonitorBlock, setAlertBlock,
    readPositionBlock, clearEventsBlock]

theorem blocksOfOtherUnits_sameUnits (s : State) (ps : List Byte) :
    ∀ block ∈ blocksOfOtherUnits, s.SameUnits (block s ps).2 := by
  simp only [blocksOfOtherUnits, List.forall_mem_cons, List.not_mem_nil, false_implies, implies_true, and_true,
    readLinkCountersBlock, setCorrectionBlock, setAmplitudeBlock, setDirectionBlock, setBridgeBlock, setSampleCheckBlock,
    setNotifyBlock, setLayoutBlock, holdOutputBlock, setMicroLinkBlock, setMonitorBlock, clearMonitorBlock, setAlertBlock,
    readPositionBlock, clearEventsBlock]
  refine ⟨?_, ?_, ?_, ?_, ?_, ?_, ?_, ?_, ?_, ?_, ?_, ?_, ?_, ?_, ?_⟩
  all_goals
    simp only [State.SameUnits, State.accept, State.report, State.refuse]
    (repeat' split) <;> simp

/-- The axis commands that report nothing to the capture in flight. -/
def silentAxisBlocks : List (State → Axis → Reply × State) := [enableAxisBlock, ackFaultBlock, releaseAxisBlock]

theorem silentAxisBlocks_sameUnits (s : State) (a : Axis) : ∀ act ∈ silentAxisBlocks, s.SameUnits (act s a).2 := by
  simp only [silentAxisBlocks, List.forall_mem_cons, List.not_mem_nil, false_implies, implies_true, and_true, enableAxisBlock,
    ackFaultBlock, releaseAxisBlock]
  refine ⟨?_, ?_, ?_⟩
  all_goals split <;> simp [State.SameUnits, State.accept, State.refuse]

/-- A message whose act leaves both units alone does so too: its answer reaches the outgoing queue alone. -/
theorem State.takeMessage_sameUnits {s : State} {act : State → List Byte × State} (h : ∀ u : State, (act u).2 = u) :
    s.SameUnits (s.takeMessage act) := by
  unfold State.takeMessage
  split
  · simp [State.SameUnits, h]
  · exact .refl s

theorem execSetLayout_sameUnits {s t : State} (body : List Byte) (h : execSetLayout body s = .next t) : s.SameUnits t := by
  have hb : ∀ n, s.SameUnits (s.hostCommand 0x20 n body setLayoutBlock) := fun n =>
    State.hostCommand_keeps (fun _ _ _ k => k.answer _ _) (.refl s)
      (fun ps => blocksOfOtherUnits_sameUnits s ps _ (by simp [blocksOfOtherUnits]))
  obtain rfl := Host.Outcome.next.inj h
  split
  · split
    · exact .refl s
    · split
      · exact (State.SameUnits.refl s).answer _ _
      · exact hb _
  · exact hb _

/-- The commands that can reach the Compensation Unit or the Line Capture Unit. -/
def reachesUnits : Instr → Bool
  | .conditionsFrame _ | .stalenessTimerExpiry | .kComputationComplete | .syncEdge | .frameTimerExpiry | .setFrame _ => true
  | .setOptics _ | .setConditions _ | .setExpansion _ | .setPlausibility _ | .setProbe _ | .readConditions _ => true
  | .sampleFrame _ _ | .silenceTimerExpiry _ | .setLink _ | .disableAxis _ | .datumNow _ | .axisRestart _ => true
  | .triggerEdge _ _ | .deadTimeEnd _ | .captureTimeoutExpiry | .microQueueContext _ | .flushOwn _ => true
  | .setTrigger _ | .queueContext _ | .flushContexts _ | .setCapture _ | .readCaptures _ => true
  | .resetUnit _ _ | .powerOnReset _ => true
  | _ => false

/-- Every other command leaves both units as they were. -/
theorem exec_sameUnits {i : Instr} {s t : State} (hi : reachesUnits i = false) (h : exec i s = .next t) : s.SameUnits t := by
  have host : ∀ {code n body block}, (∀ ps, s.SameUnits (block s ps).2) → s.SameUnits (s.hostCommand code n body block) :=
    State.hostCommand_keeps (fun _ _ _ k => k.answer _ _) (.refl s)
  have listed : ∀ {code n body block}, block ∈ blocksOfOtherUnits → s.SameUnits (s.hostCommand code n body block) :=
    fun hb => host (fun ps => blocksOfOtherUnits_sameUnits s ps _ hb)
  have axis : ∀ {code body act}, act ∈ silentAxisBlocks → s.SameUnits (s.hostCommand code 1 body (axisCommand act)) :=
    fun hb => host (axisCommand_keeps (.refl s) (fun a => silentAxisBlocks_sameUnits s a _ hb))
  cases i <;> cases hi
  case setLayout body => exact execSetLayout_sameUnits body h
  all_goals obtain rfl := Host.Outcome.next.inj h
  case query params => exact State.takeMessage_sameUnits (fun _ => rfl)
  case microUnknownCode =>
    split
    · exact .refl s
    · exact State.takeMessage_sameUnits (fun _ => rfl)
  case readStatus | readFrameState | readServoState => exact host (fun _ => .refl s)
  case setEventMask => exact host (fun _ => by simp [State.SameUnits, State.accept])
  case readTracking => exact host (axisCommand_keeps (.refl s) (fun _ => .refl s))
  case setDatumPreset => exact host (datumCommand_keeps (.refl s) (fun _ _ => by simp [State.SameUnits, State.accept]))
  case datumAtMark =>
    refine host (datumCommand_keeps (.refl s) (fun a d => ?_))
    unfold datumAtMarkAt
    split <;> simp [State.SameUnits, State.accept, State.refuse]
  case readCaptureState | readAlertState =>
    refine host (clearCommand_keeps (.refl s) (fun c => ?_))
    cases c <;> exact .refl s
  case enableAxis | ackFault | releaseAxis => exact axis (by simp [silentAxisBlocks])
  case readPosition | clearEvents | holdOutput | holdOutputRelease | setSampleCheck | setNotify | setMicroLink | setMonitor |
      clearMonitor | setAlert | readLinkCounters | setCorrection | setAmplitude | setDirection | setBridge =>
    exact listed (by simp [blocksOfOtherUnits])
  all_goals (repeat' split) <;> simp [State.SameUnits]

end Sys2Proof.Machine

namespace Sys2Proof.Machine

/-! ## Rounded quotients between bounds (R75, R81) -/

/-- A quotient that lies within half a unit of a range rounds into it. -/
theorem roundDiv_between {n d lo hi : Int} (hd : 0 < d) (hlo : d * (2 * lo - 1) < 2 * n) (hhi : 2 * n < d * (2 * hi + 1)) :
    lo ≤ roundDiv n d ∧ roundDiv n d ≤ hi := by
  have near := (roundDiv_nearest n hd.ne').1
  have below : d * (2 * lo - 1) < d * (2 * roundDiv n d + 1) := by
    have : d * (2 * roundDiv n d + 1) = 2 * (d * roundDiv n d) + d := by ring
    omega
  have above : d * (2 * roundDiv n d - 1) < d * (2 * hi + 1) := by
    have : d * (2 * roundDiv n d - 1) = 2 * (d * roundDiv n d) - d := by ring
    omega
  have low := lt_of_mul_lt_mul_left below hd.le
  have high := lt_of_mul_lt_mul_left above hd.le
  omega

/-- The mean of temperatures in a window lies in it (R75). -/
theorem roundedMean_between {ts : List Int} {lo hi : Int} (hne : ts ≠ []) (h : ∀ t ∈ ts, lo ≤ t ∧ t ≤ hi) :
    lo ≤ roundDiv ts.sum ts.length ∧ roundDiv ts.sum ts.length ≤ hi := by
  have low : ts.length * lo ≤ ts.sum := by
    simpa using List.card_nsmul_le_sum ts lo (fun t ht => (h t ht).1)
  have high : ts.sum ≤ ts.length * hi := by
    simpa using List.sum_le_card_nsmul ts hi (fun t ht => (h t ht).2)
  have pos : (0 : Int) < ts.length := by exact_mod_cast List.length_pos_iff.mpr hne
  exact roundDiv_between pos (by linarith) (by linarith)

/-- The step length of an axis lies in the range R81 gives, for inputs in their ranges. -/
theorem KInputs.Ok.stepLength {x : KInputs} (h : x.Ok) {o : Optics} (ho : o.Ok) :
    6384030 ≤ x.stepLength o ∧ x.stepLength o ≤ 217926890 := by
  obtain ⟨hn, he, _⟩ := h
  obtain ⟨lambdaLow, lambdaHigh, fold⟩ := ho
  have vacuum : (6400000 : Int) ≤ o.vacuumStep ∧ (o.vacuumStep : Int) ≤ 217600000 := by
    unfold Optics.vacuumStep
    rcases fold with e | e | e | e <;> rw [e] <;> omega
  have refractivity : (0 : Int) ≤ (if o.vacuum then 0 else (x.n : Int)) ∧ (if o.vacuum then 0 else (x.n : Int)) ≤ 999999 := by
    split <;> omega
  have thermal : (-1500000000 : Int) ≤ (if o.thermal then x.e else 0) ∧ (if o.thermal then x.e else 0) ≤ 1500000000 := by
    split <;> omega
  unfold KInputs.stepLength
  dsimp only
  generalize (if o.vacuum then 0 else (x.n : Int)) = n at refractivity ⊢
  generalize (if o.thermal then x.e else 0) = e at thermal ⊢
  have divisorLow : (10 ^ 9 : Int) * 998500000000 ≤ (10 ^ 9 + n) * (10 ^ 12 + e) :=
    mul_le_mul (by omega) (by omega) (by omega) (by omega)
  have divisorHigh : (10 ^ 9 + n) * (10 ^ 12 + e) ≤ (1000999999 : Int) * 1001500000000 :=
    mul_le_mul (by omega) (by omega) (by omega) (by omega)
  have between := roundDiv_between (n := o.vacuumStep * 10 ^ 21) (d := (10 ^ 9 + n) * (10 ^ 12 + e)) (lo := 6384030) (hi := 217926890)
    (by omega) (by omega) (by omega)
  omega

theorem KInputs.Ok.result {x : KInputs} (h : x.Ok) : KSetOk x.result := by
  intro a
  rw [KInputs.result, Four.get_mapIdx]
  exact h.stepLength (h.2.2 a)

/-! ## The law of the Compensation Unit, operation by operation (R66 to R83) -/

/-- The law of the conditions values passes from `x` to `y`, and with it the ranges of the step lengths. -/
def Compensation.PassesTo (x y : Compensation) : Prop := x.Ok → y.Ok ∧ (x.StepsOk → y.StepsOk)

theorem Compensation.PassesTo.refl (x : Compensation) : x.PassesTo x := fun h => ⟨h, id⟩

theorem Compensation.PassesTo.trans {x y z : Compensation} (h : x.PassesTo y) (k : y.PassesTo z) : x.PassesTo z := fun hx =>
  ⟨(k (h hx).1).1, fun hs => (k (h hx).1).2 ((h hx).2 hs)⟩

/-- Optics, computation, K sets and windows stand as they were. -/
structure Compensation.SameSettings (x y : Compensation) : Prop where
  steps : y.optics = x.optics ∧ y.computing = x.computing ∧ y.active = x.active ∧ y.staged = x.staged
  nMin : y.nMin = x.nMin
  nMax : y.nMax = x.nMax
  tMin : y.tMin = x.tMin
  tMax : y.tMax = x.tMax

theorem Compensation.SameSettings.refl (x : Compensation) : x.SameSettings x := ⟨⟨rfl, rfl, rfl, rfl⟩, rfl, rfl, rfl, rfl⟩

theorem Compensation.SameSettings.trans {x y z : Compensation} (h : x.SameSettings y) (k : y.SameSettings z) :
    x.SameSettings z := by
  obtain ⟨⟨h1, h2, h3, h4⟩, h5, h6, h7, h8⟩ := h
  obtain ⟨⟨k1, k2, k3, k4⟩, k5, k6, k7, k8⟩ := k
  exact ⟨⟨k1.trans h1, k2.trans h2, k3.trans h3, k4.trans h4⟩, k5.trans h5, k6.trans h6, k7.trans h7, k8.trans h8⟩

theorem Compensation.refresh_sameSettings (x : Compensation) (tick : Tick) : x.SameSettings (x.refresh tick) := by
  unfold Compensation.refresh
  split <;> exact ⟨⟨rfl, rfl, rfl, rfl⟩, rfl, rfl, rfl, rfl⟩

theorem Compensation.takeN_sameSettings (x : Compensation) (n : Option Nat) : x.SameSettings (x.takeN n) := by
  unfold Compensation.takeN
  split <;> exact ⟨⟨rfl, rfl, rfl, rfl⟩, rfl, rfl, rfl, rfl⟩

theorem Compensation.takeT_sameSettings (x : Compensation) (t : Option Int) : x.SameSettings (x.takeT t) := by
  unfold Compensation.takeT
  split <;> exact ⟨⟨rfl, rfl, rfl, rfl⟩, rfl, rfl, rfl, rfl⟩

theorem Compensation.setN_sameSettings (x : Compensation) (station : Bool) (v : Nat) : x.SameSettings (x.setN station v) := by
  unfold Compensation.setN
  split <;> exact ⟨⟨rfl, rfl, rfl, rfl⟩, rfl, rfl, rfl, rfl⟩

theorem Compensation.setT_sameSettings (x : Compensation) (station : Bool) (v : Nat) : x.SameSettings (x.setT station v) := by
  unfold Compensation.setT
  split <;> exact ⟨⟨rfl, rfl, rfl, rfl⟩, rfl, rfl, rfl, rfl⟩

theorem Compensation.setStaleness_sameSettings (x : Compensation) (before : Bool) (tick : Tick) :
    x.SameSettings (x.setStaleness before tick) := by
  unfold Compensation.setStaleness
  (repeat' split) <;> exact ⟨⟨rfl, rfl, rfl, rfl⟩, rfl, rfl, rfl, rfl⟩

/-- A change of the conditions values alone: optics, computation and K sets stand (R68, R69). -/
theorem Compensation.PassesTo.ofValues {x y : Compensation} (h : x.Ok → y.Ok)
    (e : y.optics = x.optics ∧ y.computing = x.computing ∧ y.active = x.active ∧ y.staged = x.staged) : x.PassesTo y := by
  obtain ⟨optics, computing, active, staged⟩ := e
  refine fun hx => ⟨h hx, fun hs => ⟨?_, ?_, ?_, ?_⟩⟩
  · rw [optics]; exact hs.optics
  · rw [computing]; exact hs.computing
  · rw [active]; exact hs.active
  · rw [staged]; exact hs.staged

/-- The inputs taken from values within their law (R68, R80). -/
theorem Compensation.Ok.inputs {x : Compensation} (h : x.Ok) (hs : x.StepsOk) : x.inputs.Ok := by
  refine ⟨h.rangeN, ?_, hs.optics⟩
  have alpha := h.rangeAlpha
  have scale : (x.tS - 20000).natAbs ≤ 30000 := by
    have := h.rangeT
    omega
  calc x.e.natAbs = x.alpha.natAbs * (x.tS - 20000).natAbs := by rw [h.thermal, Int.natAbs_mul]
    _ ≤ 50000 * 30000 := Nat.mul_le_mul alpha scale

/-- An update starts a computation or marks a recomputation pending (R80). -/
theorem State.kUpdate_passes (s : State) : s.cmu.PassesTo s.kUpdate.cmu := by
  intro h
  simp only [State.kUpdate, State.modCmu_cmu]
  split
  · exact ⟨{ h with recompute := fun _ => rfl }, fun k => { k with computing := fun c hc => by cases hc; exact h.inputs k }⟩
  · rename_i c hc
    exact ⟨{ h with recompute := fun _ => by rw [hc]; rfl }, fun k => { k with }⟩

theorem State.kUpdateIf_passes (s : State) (b : Bool) : s.cmu.PassesTo (s.kUpdateIf b).cmu := by
  unfold State.kUpdateIf
  split
  · exact s.kUpdate_passes
  · exact .refl _

/-- A completed computation stages its result, and a pending one takes its inputs (R80, R82). -/
theorem Compensation.complete_passes (x : Compensation) {c : KComputation} (hc : x.computing = some c) (tick : Tick) :
    x.PassesTo (x.complete c tick) := by
  refine fun h => ⟨{ h with recompute := nofun }, fun k => { k with computing := fun d hd => ?_, staged := fun l hl => ?_ }⟩
  · simp only [Compensation.complete] at hd
    split at hd
    · cases hd
      exact h.inputs k
    · cases hd
  · obtain rfl := Option.some.inj hl
    exact (k.computing c hc).result

/-- A staged set is in range when it becomes active (R83). -/
theorem State.activateK_passes (s : State) : s.cmu.PassesTo s.activateK.cmu := by
  unfold State.activateK
  split
  · rename_i k hk
    simp only [State.raise_frame, State.modCmu_cmu]
    exact fun h => ⟨{ h with }, fun hs => { hs with active := hs.staged k hk, staged := nofun }⟩
  · exact .refl _

/-- An expiry finds the timer running, so the station is a source (R77, R78). -/
theorem State.goStale_passes {s : State} (hd : s.staleDue = true) : s.cmu.PassesTo s.goStale.cmu := by
  have running : s.cmu.staleness ≠ none := fun hn => by simp [State.staleDue, timerDue, hn] at hd
  simp only [State.goStale, State.raiseIf_frame, State.modCmu_cmu]
  refine .ofValues (fun h => { h with noStation := fun hu => ?_, station := fun _ => rfl }) ⟨rfl, rfl, rfl, rfl⟩
  exact absurd (h.noStation hu).1 running

/-! ## The law through a conditions frame (R72 to R75) -/

theorem Compensation.Ok.refresh {x : Compensation} (h : x.Ok) (tick : Tick) : (x.refresh tick).Ok := by
  unfold Compensation.refresh
  split
  · rename_i hu
    exact { h with noStation := fun hn => absurd hu (by rw [show x.usesStation = false from hn]; decide), station := fun _ => rfl }
  · exact h

/-- N takes a plausible value, and none else (R73). -/
theorem Compensation.Ok.takeN {x : Compensation} (h : x.Ok) {n : Option Nat} (hn : ∀ v, n = some v → x.nMin ≤ v ∧ v ≤ x.nMax) :
    (x.takeN n).Ok := by
  have uses (hs : x.nSource ≠ .manual) : x.usesStation = true := by simp [Compensation.usesStation, hs]
  unfold Compensation.takeN
  split
  · exact h
  · rename_i v hs
    have window := hn v rfl
    have top := h.windowN.2
    exact { h with
      manualN := nofun, awaitingN := nofun, stationN := fun _ => window, rangeN := by dsimp only; omega
      noStation := fun hu => by simp [Compensation.usesStation] at hu
      station := fun _ => h.station (uses (by rw [hs]; decide)) }
  · exact h
  · rename_i v hs
    have window := hn v rfl
    have top := h.windowN.2
    exact { h with
      manualN := fun hm => absurd (hs.symm.trans hm) (by decide)
      awaitingN := fun ha => absurd (hs.symm.trans ha) (by decide)
      stationN := fun _ => window, rangeN := by dsimp only; omega }
  · rename_i hs
    exact { h with manualN := fun hm => absurd (hs.symm.trans hm) (by decide), awaitingN := fun _ => rfl }

/-- T_S takes a temperature from its window, and E is formed anew (R68, R75). -/
theorem Compensation.Ok.takeT {x : Compensation} (h : x.Ok) {t : Option Int}
    (ht : ∀ v, t = some v → (x.tMin : Int) ≤ v ∧ v ≤ x.tMax) : (x.takeT t).Ok := by
  have uses (hs : x.tSource ≠ .manual) : x.usesStation = true := by simp [Compensation.usesStation, hs]
  unfold Compensation.takeT
  split
  · exact h
  · rename_i v hs
    have window := ht v rfl
    have top := h.windowT.2
    exact { h with
      manualT := nofun, awaitingT := nofun, stationT := fun _ => window, thermal := rfl
      rangeT := by simp only [Compensation.formE]; omega
      noStation := fun hu => by simp [Compensation.formE, Compensation.usesStation] at hu
      station := fun _ => h.station (uses (by rw [hs]; decide)) }
  · exact h
  · rename_i v hs
    have window := ht v rfl
    have top := h.windowT.2
    exact { h with
      manualT := fun hm => absurd (hs.symm.trans hm) (by decide)
      awaitingT := fun ha => absurd (hs.symm.trans ha) (by decide)
      stationT := fun _ => window, thermal := rfl
      rangeT := by simp only [Compensation.formE]; omega }
  · rename_i hs
    exact { h with manualT := fun hm => absurd (hs.symm.trans hm) (by decide), awaitingT := fun _ => rfl }

theorem Compensation.plausibleN_window {x : Compensation} {f : CondFields} {v : Nat} (h : x.plausibleN f = some v) :
    x.nMin ≤ v ∧ v ≤ x.nMax := by
  unfold Compensation.plausibleN at h
  split at h
  · rename_i k
    cases h
    exact k.2
  · cases h

/-- A reading that a frame includes lies in the plausibility window of T_S (R74). -/
theorem Compensation.includedReadings_window (x : Compensation) (f : CondFields) :
    ∀ t ∈ includedReadings (x.convertProbes f), (x.tMin : Int) ≤ t ∧ t ≤ x.tMax := by
  have reading (k : ProbeId) (p : ProbeReading) (hp : (x.convertProbes f).get k = some p) (hi : p.included = true) :
      (x.tMin : Int) ≤ p.tk ∧ p.tk ≤ x.tMax := by
    rw [Compensation.convertProbes, Four.get_mapIdx] at hp
    split at hp
    · cases hp
      simpa [inRange] using hi
    · cases hp
  intro t ht
  obtain ⟨o, ho, hot⟩ := List.mem_filterMap.mp ht
  obtain ⟨k, rfl⟩ : ∃ k, (x.convertProbes f).get k = o := by
    simp only [Four.toList, List.mem_cons, List.not_mem_nil, or_false] at ho
    rcases ho with rfl | rfl | rfl | rfl
    exacts [⟨.q0, rfl⟩, ⟨.q1, rfl⟩, ⟨.q2, rfl⟩, ⟨.q3, rfl⟩]
  split at hot
  · rename_i p hp
    split at hot
    · rename_i hi
      cases hot
      exact reading k p hp hi
    · cases hot
  · cases hot

theorem frameTemperature_some {r : Four (Option ProbeReading)} {v : Int} (h : frameTemperature r = some v) :
    includedReadings r ≠ [] ∧ v = roundDiv (includedReadings r).sum (includedReadings r).length := by
  unfold frameTemperature at h
  split at h
  · cases h
  · rename_i hne
    cases h
    exact ⟨hne, rfl⟩

end Sys2Proof.Machine

namespace Sys2Proof.Machine

/-- A value that is plausible by the windows of `x` may be taken with the same windows (R73). -/
theorem Compensation.Ok.takePlausible {x y : Compensation} (h : y.Ok) (e : x.SameSettings y) (f : CondFields) :
    (y.takeN (x.plausibleN f)).Ok := by
  refine h.takeN (fun v hv => ?_)
  rw [e.nMin, e.nMax]
  exact Compensation.plausibleN_window hv

/-- So may the temperature of readings judged by the window of `x` (R74, R75). -/
theorem Compensation.Ok.takeReadings {x y : Compensation} (h : y.Ok) (e : x.SameSettings y) (f : CondFields) :
    (({ y with readings := x.convertProbes f } : Compensation).takeT (frameTemperature (x.convertProbes f))).Ok := by
  have read : ({ y with readings := x.convertProbes f } : Compensation).Ok := { h with }
  refine read.takeT (fun v hv => ?_)
  obtain ⟨hne, rfl⟩ := frameTemperature_some hv
  dsimp only
  rw [e.tMin, e.tMax]
  exact roundedMean_between hne (x.includedReadings_window f)

/-- An accepted frame keeps the law (R72 to R75). -/
theorem Compensation.takeAccepted_passes (x : Compensation) (f : CondFields) (tick : Tick) : x.PassesTo (x.takeAccepted f tick) := by
  have counted : x.SameSettings { x with accepted := x.accepted + 1, lastSeq := some f.seq } :=
    ⟨⟨rfl, rfl, rfl, rfl⟩, rfl, rfl, rfl, rfl⟩
  have fresh := counted.trans (Compensation.refresh_sameSettings _ tick)
  have taken := fresh.trans (Compensation.takeN_sameSettings _ (x.plausibleN f))
  have read : x.SameSettings { (Compensation.takeN _ (x.plausibleN f)) with readings := x.convertProbes f } := { taken with }
  refine .ofValues (fun h => ?_) (read.trans (Compensation.takeT_sameSettings _ _)).steps
  have start : ({ x with accepted := x.accepted + 1, lastSeq := some f.seq } : Compensation).Ok := { h with }
  exact ((start.refresh tick).takePlausible fresh f).takeReadings taken f

theorem State.acceptConditions_passes (s : State) (f : CondFields) : s.cmu.PassesTo (s.acceptConditions f).cmu := by
  unfold State.acceptConditions
  refine .trans (y := ((s.modCmu (fun x => x.takeAccepted f s.tick)).raiseHeld s.cmu).cmu) ?_ (State.kUpdateIf_passes _ _)
  simpa using s.cmu.takeAccepted_passes f s.tick

theorem State.takeConditions_passes (s : State) (chars : List CondChar) : s.cmu.PassesTo (s.takeConditions chars).cmu := by
  unfold State.takeConditions
  split
  · exact .ofValues (fun h => { h with }) ⟨rfl, rfl, rfl, rfl⟩
  · split
    · exact .ofValues (fun h => { h with }) ⟨rfl, rfl, rfl, rfl⟩
    · exact s.acceptConditions_passes _

/-! ## The law in the host commands (R66, R69 to R71, R76, R79) -/

theorem foldOf_mem {b : Byte} {v : Nat} (h : foldOf b = some v) : v = 1 ∨ v = 2 ∨ v = 4 ∨ v = 8 := by
  unfold foldOf at h
  split at h <;> cases h <;> simp

theorem setOpticsBlock_passes (s : State) (ps : List Byte) : s.cmu.PassesTo (setOpticsBlock s ps).2.cmu := by
  unfold setOpticsBlock
  split
  · split
    · rename_i ax lam fold vac thermal _ hl hf _ _
      have new : (Optics.mk lam fold vac thermal).Ok := ⟨(natIn_bounds hl).1, (natIn_bounds hl).2, foldOf_mem hf⟩
      dsimp only [State.accept]
      refine .trans ?_ (State.kUpdateIf_passes _ _)
      refine fun h => ⟨{ h with }, fun k => { k with optics := fun a => ?_ }⟩
      dsimp only [State.modCmu_cmu]
      rw [Four.get_set]
      split
      · exact new
      · exact k.optics a
    · exact .refl _
  · exact .refl _

/-- The values with a staleness timer that suits their sources: what a change of a source makes of the law before the timer
follows it (R69). -/
def Compensation.retimed (x : Compensation) : Compensation :=
  { x with staleness := if x.usesStation then some 0 else none, stale := false }

theorem Compensation.retimed_noStation (x : Compensation) (h : x.usesStation = false) :
    x.retimed.staleness = none ∧ x.retimed.stale = false := by simp [Compensation.retimed, h]

theorem Compensation.retimed_station (x : Compensation) (h : x.usesStation = true) :
    x.retimed.staleness.isSome = !x.retimed.stale := by simp [Compensation.retimed, h]

theorem Compensation.Ok.retimed {x : Compensation} (h : x.Ok) : x.retimed.Ok :=
  { h with noStation := x.retimed_noStation, station := x.retimed_station }

/-- A value set by the host needs no window; one handed to the station is held (R69). -/
theorem Compensation.setN_retimed {x : Compensation} (h : x.retimed.Ok) (station : Bool) {v : Nat} (hv : v ≤ 999999) :
    (x.setN station v).retimed.Ok := by
  unfold Compensation.setN
  split
  · exact { h with
      manualN := fun _ => rfl, awaitingN := nofun, stationN := nofun, rangeN := hv
      noStation := Compensation.retimed_noStation _, station := Compensation.retimed_station _ }
  · exact { h with
      manualN := nofun, awaitingN := fun _ => rfl, stationN := nofun
      noStation := Compensation.retimed_noStation _, station := Compensation.retimed_station _ }
  · exact h
  · exact h

theorem Compensation.setT_retimed {x : Compensation} (h : x.retimed.Ok) (station : Bool) {v : Nat} (hv : v ≤ 50000) :
    (x.setT station v).retimed.Ok := by
  unfold Compensation.setT
  split
  · exact { h with
      manualT := fun _ => rfl, awaitingT := nofun, stationT := nofun, thermal := rfl
      rangeT := by simp only [Compensation.retimed, Compensation.formE]; omega
      noStation := Compensation.retimed_noStation _, station := Compensation.retimed_station _ }
  · exact { h with
      manualT := nofun, awaitingT := fun _ => rfl, stationT := nofun
      noStation := Compensation.retimed_noStation _, station := Compensation.retimed_station _ }
  · exact h
  · exact h

/-- The timer follows the sources: stopped without a station, started with the first, and left with a second (R69, R78). -/
theorem Compensation.setStaleness_ok {x : Compensation} (h : x.retimed.Ok) {before : Bool} (tick : Tick)
    (running : before = true → x.staleness.isSome = !x.stale) (stopped : before = false → x.stale = false) :
    (x.setStaleness before tick).Ok := by
  unfold Compensation.setStaleness
  split
  · rename_i hu
    have absurdStation (y : Compensation) (e : y.usesStation = x.usesStation) (hn : y.usesStation = false) :
        y.staleness = none ∧ y.stale = false := absurd (hu.symm.trans (e.symm.trans hn)) (by decide)
    split
    · rename_i hb
      exact { h with noStation := absurdStation x rfl, station := fun _ => running hb }
    · rename_i hb
      refine { h with noStation := absurdStation _ rfl, station := fun _ => ?_ }
      simp [stopped (by simpa using hb)]
  · rename_i hu
    exact { h with noStation := fun _ => ⟨rfl, rfl⟩, station := fun hs => absurd hs hu }

theorem Compensation.setN_timer (x : Compensation) (station : Bool) (v : Nat) :
    (x.setN station v).staleness = x.staleness ∧ (x.setN station v).stale = x.stale := by
  unfold Compensation.setN
  split <;> exact ⟨rfl, rfl⟩

theorem Compensation.setT_timer (x : Compensation) (station : Bool) (v : Nat) :
    (x.setT station v).staleness = x.staleness ∧ (x.setT station v).stale = x.stale := by
  unfold Compensation.setT
  split <;> exact ⟨rfl, rfl⟩

/-- SET_CONDITIONS keeps the law (R69, R78). -/
theorem State.applyConditions_passes (s : State) (ns : Bool) {n : Nat} (hn : n ≤ 999999) (ts : Bool) {t : Nat} (ht : t ≤ 50000) :
    s.cmu.PassesTo (s.applyConditions ns n ts t).cmu := by
  have settings : s.cmu.PassesTo (((s.cmu.setN ns n).setT ts t).setStaleness s.cmu.usesStation s.tick) := by
    have timerN := s.cmu.setN_timer ns n
    have timerT := (s.cmu.setN ns n).setT_timer ts t
    refine .ofValues (fun h => ?_) ((s.cmu.setN_sameSettings ns n).trans
      (((s.cmu.setN ns n).setT_sameSettings ts t).trans (Compensation.setStaleness_sameSettings _ _ _))).steps
    refine Compensation.setStaleness_ok (Compensation.setT_retimed (Compensation.setN_retimed h.retimed ns hn) ts ht) _ ?_ ?_
    · rw [timerT.1, timerT.2, timerN.1, timerN.2]
      exact h.station
    · rw [timerT.2, timerN.2]
      exact fun hb => (h.noStation hb).2
  unfold State.applyConditions
  refine .trans ?_ ((State.kUpdateIf_passes _ _).trans (State.kUpdateIf_passes _ _))
  simpa using settings

theorem setConditionsBlock_passes (s : State) (ps : List Byte) : s.cmu.PassesTo (setConditionsBlock s ps).2.cmu := by
  unfold setConditionsBlock
  split
  · split
    · rename_i hn _ ht
      exact s.applyConditions_passes _ (natIn_bounds hn).2 _ (natIn_bounds ht).2
    · exact .refl _
  · exact .refl _

theorem setExpansionBlock_passes (s : State) (ps : List Byte) : s.cmu.PassesTo (setExpansionBlock s ps).2.cmu := by
  unfold setExpansionBlock
  split
  · rename_i alpha ha
    have range : alpha.natAbs ≤ 50000 := by
      have := intIn_bounds ha
      omega
    dsimp only [State.accept]
    refine .trans ?_ (State.kUpdateIf_passes _ _)
    refine .ofValues (fun h => ?_) ⟨rfl, rfl, rfl, rfl⟩
    exact { h with thermal := rfl, rangeAlpha := range }
  · exact .refl _

theorem State.writePlausibility_passes (s : State) {nMin nMax tMin tMax timeout : Nat} (hn : nMin ≤ nMax ∧ nMax ≤ 999999)
    (ht : tMin ≤ tMax ∧ tMax ≤ 50000) (hs : 1 ≤ timeout ∧ timeout ≤ 60)
    (inUse : s.cmu.windowExcludes nMin nMax tMin tMax = false) :
    s.cmu.PassesTo (s.writePlausibility nMin nMax tMin tMax timeout).cmu := by
  have settings : s.cmu.PassesTo (s.modCmu (fun x =>
      { x with nMin := nMin, nMax := nMax, tMin := tMin, tMax := tMax, condTimeout := timeout })).cmu := by
    simp only [Compensation.windowExcludes, inRange, Bool.or_eq_false_iff, Bool.and_eq_false_imp, beq_iff_eq,
      Bool.not_eq_false', Bool.and_eq_true, decide_eq_true_eq, Nat.cast_le] at inUse
    exact .ofValues (fun h => { h with stationN := inUse.1, stationT := inUse.2, windowN := hn, windowT := ht, timeout := hs })
      ⟨rfl, rfl, rfl, rfl⟩
  unfold State.writePlausibility
  dsimp only
  split
  · rename_i hd
    exact settings.trans (State.goStale_passes hd)
  · exact settings

theorem setPlausibilityBlock_passes (s : State) (ps : List Byte) : s.cmu.PassesTo (setPlausibilityBlock s ps).2.cmu := by
  unfold setPlausibilityBlock
  split
  · split
    · rename_i hnMin hnMax htMin htMax htmo
      split
      · exact .refl _
      · rename_i ordered
        split
        · exact .refl _
        · rename_i inUse
          exact s.writePlausibility_passes ⟨by omega, (natIn_bounds hnMax).2⟩ ⟨by omega, (natIn_bounds htMax).2⟩
            (natIn_bounds htmo) (by simpa using inUse)
    · exact .refl _
  · exact .refl _

theorem setProbeBlock_passes (s : State) (ps : List Byte) : s.cmu.PassesTo (setProbeBlock s ps).2.cmu := by
  unfold setProbeBlock
  split
  · split
    · split
      · exact .refl _
      · rename_i apart
        refine .ofValues (fun h => { h with probes := fun k => ?_ }) ⟨rfl, rfl, rfl, rfl⟩
        dsimp only [State.accept, State.modCmu_cmu]
        rw [Four.get_set]
        split
        · exact apart
        · exact h.probes k
    · exact .refl _
  · exact .refl _

/-! ## The law at frame events (R83) -/

theorem State.frameEvent_passes (s : State) (k : FrameKind) : s.cmu.PassesTo (s.frameEvent k).cmu := by
  have both (u : State) : u.cmu.PassesTo (u.activateAndSnapshot k).cmu := by
    unfold State.activateAndSnapshot
    split
    · simpa using (u.servoFrameEvent k).activateK_passes
    · simpa using u.activateK_passes
  simpa [State.frameEvent] using both (s.modFru (fun x => { x with frameNo := x.frameNo + 1 }))

theorem State.syncRise_passes (s : State) : s.cmu.PassesTo s.syncRise.cmu := by
  unfold State.syncRise
  split
  · exact .refl _
  · simpa using State.frameEvent_passes (s.modFru (fun x => { x with watch := some s.tick })) .sync
  · simpa using State.frameEvent_passes
      ((s.modFru (fun x => { x with source := .external, timer := none, watch := some s.tick })).raise .syncRestored) .sync

theorem State.timerEvent_passes (s : State) : s.cmu.PassesTo s.timerEvent.cmu :=
  State.frameEvent_passes (s.modFru (fun x => { x with timer := some s.tick })) .timer

theorem setFrameBlock_passes (s : State) (ps : List Byte) : s.cmu.PassesTo (setFrameBlock s ps).2.cmu := by
  have judged (u : State) (b : Bool) : u.cmu.PassesTo (u.judgeFrameTimers b).cmu := by
    unfold State.judgeFrameTimers
    split
    · simpa using Compensation.PassesTo.refl u.cmu
    · split
      · exact u.timerEvent_passes
      · exact .refl _
  unfold setFrameBlock
  split
  · split
    · simp only [State.accept, State.applyFrame]
      split
      · exact .refl _
      · exact judged (s.modFru _) _
      · exact judged (s.modFru _) _
    · exact .refl _
  · exact .refl _

/-! ## The law of the Compensation Unit in every step -/

/-- The blocks of the links, datums and captures, which leave the Compensation Unit as it was. -/
def blocksOfCaptures : List (State → List Byte → Reply × State) :=
  [setLinkBlock, datumNowBlock, setTriggerBlock, queueContextBlock, flushContextsBlock, setCaptureBlock, readCapturesBlock]

theorem datumNowAt_cmu (s : State) (a : Axis) (v : Int) : (datumNowAt s a v).2.cmu = s.cmu := by
  unfold datumNowAt
  (repeat' split) <;> simp [State.accept, State.refuse]

theorem blocksOfCaptures_cmu (s : State) (ps : List Byte) : ∀ block ∈ blocksOfCaptures, (block s ps).2.cmu = s.cmu := by
  simp only [blocksOfCaptures, List.forall_mem_cons, List.not_mem_nil, false_implies, implies_true, and_true, setLinkBlock,
    datumNowBlock, setTriggerBlock, queueContextBlock, flushContextsBlock, setCaptureBlock, readCapturesBlock]
  refine ⟨?_, ?_, ?_, ?_, ?_, ?_, ?_⟩
  all_goals (repeat' split) <;> simp [State.accept, State.report, State.refuse, datumNowAt_cmu]

/-- Every command keeps the law of the conditions values and the ranges of the step lengths. -/
theorem exec_cmuPasses {i : Instr} {s t : State} (h : exec i s = .next t) : s.cmu.PassesTo t.cmu := by
  by_cases hi : reachesUnits i = false
  · rw [(exec_sameUnits hi h).1]
    exact .refl _
  have host : ∀ {code n body block}, (∀ ps, s.cmu.PassesTo (block s ps).2.cmu) →
      s.cmu.PassesTo (s.hostCommand code n body block).cmu :=
    State.hostCommand_keeps (P := fun u => s.cmu.PassesTo u.cmu) (fun _ _ _ k => by simpa using k) (.refl _)
  have captures : ∀ {code n body block}, block ∈ blocksOfCaptures →
      s.cmu.PassesTo (s.hostCommand code n body block).cmu := fun hb => host (fun ps => by
    rw [blocksOfCaptures_cmu s ps _ hb]
    exact .refl _)
  have same : ∀ {u : State}, u.cmu = s.cmu → s.cmu.PassesTo u.cmu := fun e => by
    rw [e]
    exact .refl _
  cases i <;> first | exact absurd rfl hi | obtain rfl := Host.Outcome.next.inj h
  case conditionsFrame chars =>
    split
    · have ended : s.cmu.PassesTo (s.modCmu (fun x => { x with frame := [] })).cmu :=
        .ofValues (fun h => { h with frame := rfl }) ⟨rfl, rfl, rfl, rfl⟩
      exact ended.trans (State.takeConditions_passes _ _)
    · exact .refl _
  case stalenessTimerExpiry =>
    split
    · rename_i hd
      exact State.goStale_passes hd
    · exact .refl _
  case kComputationComplete =>
    split
    · rename_i c hc
      exact s.cmu.complete_passes hc s.tick
    · exact .refl _
  case syncEdge => exact s.syncRise_passes
  case frameTimerExpiry =>
    split
    · exact s.timerEvent_passes
    · exact .refl _
  case setFrame => exact host (setFrameBlock_passes s)
  case setOptics => exact host (setOpticsBlock_passes s)
  case setConditions => exact host (setConditionsBlock_passes s)
  case setExpansion => exact host (setExpansionBlock_passes s)
  case setPlausibility => exact host (setPlausibilityBlock_passes s)
  case setProbe => exact host (setProbeBlock_passes s)
  case readConditions =>
    refine host (clearCommand_keeps (P := fun u => s.cmu.PassesTo u.cmu) (.refl _) (fun c => ?_))
    cases c
    · exact .refl _
    · exact .ofValues (fun h => { h with }) ⟨rfl, rfl, rfl, rfl⟩
  case powerOnReset => exact fun _ => ⟨Compensation.reset_ok, fun _ => Compensation.reset_stepsOk⟩
  case resetUnit =>
    split
    · exact .refl _
    · split
      · simpa using Compensation.PassesTo.refl s.cmu
      · exact fun _ => ⟨Compensation.reset_ok, fun _ => Compensation.reset_stepsOk⟩
  case setLink | datumNow | setTrigger | queueContext | flushContexts | setCapture | readCaptures =>
    exact captures (by simp [blocksOfCaptures])
  case disableAxis | axisRestart =>
    refine host (axisCommand_keeps (P := fun u => s.cmu.PassesTo u.cmu) (.refl _) (fun a => same ?_))
    simp only [disableAxisBlock, axisRestartBlock]
    split <;> simp [State.accept]
  case sampleFrame | silenceTimerExpiry | triggerEdge | deadTimeEnd | captureTimeoutExpiry =>
    exact same (by (repeat' split) <;> simp)
  case microQueueContext params | flushOwn params =>
    refine same ?_
    simp only [State.takeMessage, microQueueAct, flushOwnAct]
    (repeat' split) <;> simp

/-- An idle part takes a line event only where the conditions frame has not ended (R72). -/
theorem State.frameEnded_of_idle {s : State} (h : s.dueEvent = none) : frameEnded s.tick s.cmu.frame = false := by
  rw [State.dueEvent, List.findSome?_eq_none_iff] at h
  have due := h (dueIf s.frameDue (.conditionsFrame s.cmu.frame)) (by simp [State.dueEvents])
  cases hf : s.frameDue
  · exact hf
  · rw [hf] at due
    cases due

theorem unbroken_append {chars : List CondChar} {c : CondChar} (h : unbroken chars = true)
    (hc : ∀ last, chars.getLast? = some last → elapsed c.began last.began ≤ Config.conditionsGapTicks) :
    unbroken (chars ++ [c]) = true := by
  induction chars with
  | nil => rfl
  | cons a rest ih =>
    cases rest with
    | nil => simpa [unbroken] using hc a rfl
    | cons b rest =>
      obtain ⟨hab, hrest⟩ := Bool.and_eq_true_iff.mp h
      exact Bool.and_eq_true_iff.mpr ⟨hab, ih hrest (fun last hl => hc last (by simpa using hl))⟩

/-- A character joins the frame before the frame has ended, so no gap ends up within it (R72). -/
theorem State.takeLine_passes {s : State} (hd : frameEnded s.tick s.cmu.frame = false) (e : LineEvent) :
    s.cmu.PassesTo (s.takeLine e).1.cmu := by
  obtain ⟨f, hf, hcases⟩ := s.takeLine_cmu e
  rw [hf]
  refine .ofValues (fun h => { h with frame := ?_ }) ⟨rfl, rfl, rfl, rfl⟩
  rcases hcases with rfl | ⟨c, rfl, began⟩
  · exact h.frame
  · refine unbroken_append h.frame (fun last hl => ?_)
    simpa [frameEnded, hl, h.frame, began] using hd

theorem lineStep_cmuPasses {s t : State} (hd : frameEnded s.tick s.cmu.frame = false) {e : LineEvent}
    (h : lineStep e s = .next t) : s.cmu.PassesTo t.cmu := by
  have line := State.takeLine_passes hd e
  unfold lineStep at h
  split at h
  · rename_i hl
    rw [hl] at line
    exact line.trans (exec_cmuPasses h)
  · rename_i hl
    rw [hl] at line
    cases h
    exact line


end Sys2Proof.Machine

namespace Sys2Proof.Proofs

open Sys2Proof.Machine

/-- Settles O8: every command, line event and tick passes the law on; a character that would break the frame finds it
ended and taken. -/
theorem stepKeepsConditions : Obligations.StepKeepsConditions := by
  intro s t h hs
  suffices s.cmu.PassesTo t.cmu from this h
  unfold step at hs
  split at hs
  · rename_i rest _
    exact exec_cmuPasses (s := s.withPending rest) hs
  · unfold idleStep at hs
    split at hs
    · exact exec_cmuPasses hs
    · rename_i idle
      split at hs
      · rename_i rest _
        exact lineStep_cmuPasses (s := s.withLines rest) (State.frameEnded_of_idle idle) hs
      · cases hs
        exact .refl _

end Sys2Proof.Proofs

namespace Sys2Proof.Machine

/-! ## Laws of the Line Capture Unit along the sample path (R42, R128, R130) -/

/-- A law of the state that reads the Line Capture Unit alone, and that reports and offers to the capture in flight keep: the
sample path reaches the unit by these two. -/
structure CaptureLaw (P : State → Prop) : Prop where
  same : ∀ {s t : State}, t.lcu = s.lcu → P s → P t
  report : ∀ {s : State} (a : Axis) (r : AxisReport), P s → P (s.reportToCapture a r)
  offer : ∀ {s : State} (a : Axis) (e : HistEntry), P s → P (s.offerToCapture a e)

section

variable {P : State → Prop} {s : State} (law : CaptureLaw P)
include law

theorem CaptureLaw.modPhu (h : P s) (a : Axis) (f : PhaseUnit → PhaseUnit) : P (s.modPhu a f) := law.same (s.modPhu_lcu a f) h

theorem CaptureLaw.modSlr (h : P s) (a : Axis) (f : Receiver → Receiver) : P (s.modSlr a f) := law.same (s.modSlr_lcu a f) h

theorem CaptureLaw.contribute (h : P s) (a : Axis) (n : Nat) : P (s.contribute a n) := law.same (by simp) h

theorem CaptureLaw.judgeLevel (h : P s) : P s.judgeLevel := law.same (by simp) h

theorem CaptureLaw.advanceEpoch (h : P s) (a : Axis) : P (s.advanceEpoch a) := law.same (by simp) h

theorem CaptureLaw.integrityLoss (h : P s) (a : Axis) (c : Cause) (t : Tick) (hold : Int) : P (s.integrityLoss a c t hold) := by
  rcases s.integrityLoss_cases a c t hold with ⟨_, e⟩ | ⟨_, e⟩ | ⟨_, e⟩ | ⟨_, e⟩ <;> rw [e]
  · exact h
  · exact law.same (by simp) h
  · have lost := law.modPhu h a (fun p =>
      { p with state := .faulted, fault := some { first := c, further := 0, tick := t }, hold := hold })
    exact law.judgeLevel (law.report a .fault (law.same (by simp) lost))
  · exact law.modPhu h a _

theorem CaptureLaw.offerUpdate (h : P s) (a : Axis) (e : HistEntry) : P (s.offerUpdate a e) :=
  law.same (by simp [State.offerUpdate]) (law.offer a e h)

theorem CaptureLaw.enterSample (h : P s) (a : Axis) (t : Tick) (k : SampleKind) : P (s.enterSample a t k) :=
  law.offerUpdate (law.same (by simp) h) a _

theorem CaptureLaw.rangeLoss (h : P s) (a : Axis) (change : Int) (t : Tick) : P (s.rangeLoss a change t) := by
  unfold State.rangeLoss
  split
  · exact law.integrityLoss h a _ _ _
  · exact h

theorem CaptureLaw.countSample (h : P s) (a : Axis) (mark : Bool) (p : BitVec 9) (d : Int) (t : Tick) :
    P (s.countSample a mark p d t) := by
  have counted := law.modPhu (law.rangeLoss h a ((s.phu.get a).dir.sign * d) t) a (fun u => u.counted p d t)
  unfold State.countSample
  dsimp only
  split
  · rename_i v _ _
    have loaded := law.advanceEpoch (law.modPhu counted a (fun p => { p with acc := v, state := .referenced, armed := none })) a
    exact law.offerUpdate (law.report a .epochChange (law.modPhu loaded a _)) a _
  · exact law.enterSample counted a t .real

theorem CaptureLaw.takePhase (h : P s) (a : Axis) (mark : Bool) (p : BitVec 9) (t : Tick) : P (s.takePhase a mark p t) := by
  unfold State.takePhase
  split
  · exact law.enterSample (law.modPhu h a _) a t .real
  · dsimp only
    split
    · exact law.countSample h a mark p _ t
    · exact law.enterSample (law.modPhu (law.integrityLoss h a _ _ _) a _) a t .real

theorem CaptureLaw.bridgeSamples (a : Axis) (tn : Tick) (ts : List Tick) : ∀ {s : State}, P s → P (s.bridgeSamples a tn ts) := by
  induction ts with
  | nil => exact fun h => h
  | cons t ts ih => exact fun h => ih (law.enterSample (law.modPhu (law.rangeLoss h a _ tn) a _) a t .bridged)

theorem CaptureLaw.handNotice (h : P s) (a : Axis) (reason : MissingReason) (g : Nat) (tn : Tick) :
    P (s.handNotice a reason g tn) := by
  unfold State.handNotice State.takeNotice
  split
  · exact h
  · split
    · rename_i instants _
      exact law.same (by simp) (law.bridgeSamples a tn instants h)
    · exact law.integrityLoss (law.modPhu h a _) a _ _ _

theorem CaptureLaw.handSample (h : P s) (a : Axis) (f : SampleFields) (t : Tick) : P (s.handSample a f t) := by
  unfold State.handSample
  split
  · exact h
  · rename_i on
    unfold State.takeSample
    dsimp only
    split
    · have notice := law.handNotice h a .low 1 t
      rwa [State.handNotice, if_neg on] at notice
    · exact law.takePhase (law.modPhu h a _) a f.mark _ t

theorem CaptureLaw.loseLock (h : P s) (a : Axis) (t : Tick) : P (s.loseLock a t) := by
  have down := law.modSlr h a (fun r => { r.toDown with lockLosses := satAdd 255 r.lockLosses 1 })
  unfold State.loseLock State.lockLost
  split
  · exact down
  · exact law.modPhu (law.integrityLoss down a _ _ _) a _

theorem CaptureLaw.dropLink (h : P s) (a : Axis) (t : Tick) : P (s.dropLink a t) := by
  unfold State.dropLink
  split
  · exact h
  · exact law.modSlr h a _
  · exact law.loseLock h a t

theorem CaptureLaw.acceptSample (h : P s) (a : Axis) (f : SampleFields) : P (s.acceptSample a f) :=
  law.handSample (law.contribute (law.modSlr h a _) a 1) a f _

theorem CaptureLaw.badInLocked (h : P s) (a : Axis) (duplicate : Bool) : P (s.badInLocked a duplicate) := by
  unfold State.badInLocked State.occupyPosition
  split
  · exact law.loseLock h a _
  · split
    · exact law.modSlr h a _
    · exact law.handNotice (law.modSlr h a _) a _ _ _

theorem CaptureLaw.goodInAcquiring (h : P s) (a : Axis) (f : SampleFields) : P (s.goodInAcquiring a f) := by
  unfold State.goodInAcquiring State.enterLocked
  dsimp only
  split
  · split
    · exact law.handSample (law.same (by simp) h) a f _
    · exact law.modSlr h a _
  · exact law.modSlr h a _

theorem CaptureLaw.goodInLocked (h : P s) (a : Axis) (f : SampleFields) : P (s.goodInLocked a f) := by
  unfold State.goodInLocked
  dsimp only
  split
  · exact law.acceptSample h a f
  · split
    · exact law.acceptSample (law.handNotice (law.contribute (law.modSlr h a _) a _) a _ _ _) a f
    · exact law.badInLocked (law.modSlr h a _) a _

/-- A sample frame keeps the law (R3 to R14). -/
theorem CaptureLaw.takeFrame (h : P s) (a : Axis) (bits : List Bool) : P (s.takeFrame a bits) := by
  unfold State.takeFrame State.goodFrame State.badFrame
  dsimp only
  split
  · split
    · exact law.same (by simp) h
    · exact law.goodInAcquiring (law.same (by simp) h) a _
    · exact law.goodInLocked (law.same (by simp) h) a _
  · split
    · exact law.same (by simp) h
    · exact law.same (by simp) h
    · exact law.badInLocked (law.modSlr h a _) a _

/-- So does SET_LINK (R16). -/
theorem CaptureLaw.setLinkBlock (h : P s) (ps : List Byte) : P (setLinkBlock s ps).2 := by
  have written (a : Axis) (l t d : Nat) : P (s.writeLink a l t d) := by
    unfold State.writeLink
    dsimp only
    split
    · exact law.dropLink (law.modSlr h a _) a _
    · exact law.modSlr h a _
  unfold Machine.setLinkBlock
  split
  · split
    · exact written _ _ _ _
    · exact h
  · exact h

/-- So do the commands of an axis that report to the capture in flight (R47, R51, R57, R59). -/
theorem CaptureLaw.disableAxis (h : P s) (a : Axis) : P (disableAxisBlock s a).2 := by
  unfold disableAxisBlock
  split
  · exact h
  · exact law.judgeLevel (law.report a .disable (law.advanceEpoch (law.modPhu h a _) a))

theorem CaptureLaw.axisRestart (h : P s) (a : Axis) : P (axisRestartBlock s a).2 := by
  unfold axisRestartBlock
  split
  · exact h
  · exact law.judgeLevel (law.report a .restart (law.advanceEpoch (law.modPhu h a _) a))

theorem CaptureLaw.datumNowBlock (h : P s) (ps : List Byte) : P (datumNowBlock s ps).2 := by
  have load (a : Axis) (v : Int) : P ((s.loadDatum a v).reportToCapture a .epochChange) :=
    law.report a .epochChange (law.advanceEpoch (law.modPhu h a _) a)
  have taken (a : Axis) (v : Int) : P (datumNowAt s a v).2 := by
    unfold datumNowAt
    dsimp only
    (repeat' split) <;> first | exact load a v | exact h
  unfold Machine.datumNowBlock
  split
  · split
    · exact taken _ _
    · exact h
  · exact h

end

/-! ## Entries and contexts keep their law (R87, R122, R129, R132, R133) -/

/-- What an entry has settled with is in order. -/
def EntryProgress.Ok (p : EntryProgress) : Prop := ∀ st x16 pos, p = .settled st x16 pos → EntryOk st pos

/-- What a capture has settled is in order, whether or not something in it waits. -/
def Capture.SettledOk (c : Capture) : Prop := ∀ a e, c.phys.get a = some e → e.progress.Ok

theorem entryOk_zero (st : Status) : EntryOk st 0 := ⟨fun _ => rfl, by decide⟩

theorem entryOk_of_fits {st : Status} {len : Int} (hg : st.good = true) (h : overflows lengthMax len = false) : EntryOk st len := by
  have fits : ¬ (len < -lengthMax ∨ lengthMax < len) := fun k => by rw [(overflows_iff _ _).mpr k] at h; cases h
  exact ⟨fun hb => absurd (hg.symm.trans hb) (by decide), by omega⟩

theorem EntryProgress.Ok.waiting (b : Option HistEntry) : (EntryProgress.waiting b).Ok := nofun

theorem EntryProgress.Ok.settled {st : Status} {x16 pos : Int} (h : EntryOk st pos) : (EntryProgress.settled st x16 pos).Ok :=
  fun _ _ _ e => by cases e; exact h

theorem EntryProgress.Ok.settledBad (st : Status) : (settledBad st).Ok := .settled (entryOk_zero st)

/-- An entry settles without a position, or with a length that fits 48 bits (R87, R129). -/
theorem settleEntry_ok (c : Capture) (a : Axis) (st : AxisState) (epoch : BitVec 4) (before after : HistEntry) :
    (settleEntry c a st epoch before after).Ok := by
  unfold settleEntry
  dsimp only
  split
  · exact .settledBad _
  · split
    · exact .settledBad _
    · split
      · exact .settledBad _
      · rename_i fits
        have fits := Bool.eq_false_iff.mpr fits
        split
        · exact .settled (entryOk_of_fits rfl fits)
        · exact .settled (entryOk_of_fits rfl fits)

theorem judgeOpening_ok (c : Capture) (a : Axis) (p : PhaseUnit) : (judgeOpening c a p).Ok := by
  unfold judgeOpening
  split
  · exact .settledBad _
  · split
    · split
      · exact .settledBad _
      · split
        · exact settleEntry_ok _ _ _ _ _ _
        · exact .settledBad _
        · exact .waiting _
    · exact .waiting _

/-- The entry of M or W carries no position, or one that fits 48 bits (R87, R132). -/
theorem derivedOutcome_ok (c : Capture) (x : Source) (s0 s1 : Status) (x0 x1 : Int) :
    EntryOk (derivedOutcome c x s0 s1 x0 x1).1 (derivedOutcome c x s0 s1 x0 x1).2 := by
  unfold derivedOutcome
  dsimp only
  split
  · split
    · exact entryOk_zero _
    · rename_i fits
      have fits := Bool.eq_false_iff.mpr fits
      split
      · exact entryOk_of_fits rfl fits
      · exact entryOk_of_fits rfl fits
  · split
    · exact entryOk_zero _
    · exact entryOk_zero _

theorem Capture.SettledOk.outcome {c : Capture} (h : c.SettledOk) {a : Axis} {o : Status × Int × Int} (ho : c.outcome a = some o) :
    EntryOk o.1 o.2.2 := by
  unfold Capture.outcome at ho
  split at ho
  · rename_i e he
    split at ho
    · rename_i hp
      cases ho
      exact h a e he _ _ _ hp
    · cases ho
  · cases ho

theorem Capture.SettledOk.sourceOutcome {c : Capture} (h : c.SettledOk) {x : Source} {o : Status × Int}
    (ho : c.sourceOutcome x = some o) : EntryOk o.1 o.2 := by
  unfold Capture.sourceOutcome at ho
  split at ho
  · obtain ⟨p, hp, rfl⟩ := Option.map_eq_some_iff.mp ho
    exact h.outcome hp
  all_goals
    split at ho
    · cases ho
      exact derivedOutcome_ok _ _ _ _ _ _
    · cases ho

/-- The record of a capture whose entries are in order is in order (R133). -/
theorem Capture.SettledOk.entries {c : Capture} (h : c.SettledOk) : ∀ e ∈ c.entries, EntryOk e.status e.position := by
  intro e he
  obtain ⟨x, _, hx⟩ := List.mem_filterMap.mp he
  obtain ⟨o, ho, rfl⟩ := Option.map_eq_some_iff.mp hx
  exact h.sourceOutcome ho

theorem Capture.Ok.settledOk {c : Capture} (h : c.Ok) : c.SettledOk := fun a e he st x16 pos hp => h.settled a e st x16 pos he hp

theorem mem_enqueueRecord {p : QueuePolicy} {q : List Record} {r x : Record} (h : x ∈ enqueueRecord p q r) : x ∈ q ∨ x = r := by
  unfold enqueueRecord at h
  split at h
  · simpa using h
  · split at h
    · exact .inl h
    · simp only [List.mem_append, List.mem_singleton] at h
      exact h.imp_left List.mem_of_mem_drop

/-- The laws of the context queue and of the entries pass from `x` to `y`. -/
def LineCapture.PassesTo (x y : LineCapture) : Prop :=
  (ContextsOk x.contexts → ContextsOk y.contexts) ∧ (x.EntriesOk → y.EntriesOk)

theorem LineCapture.PassesTo.refl (x : LineCapture) : x.PassesTo x := ⟨id, id⟩

theorem LineCapture.PassesTo.trans {x y z : LineCapture} (h : x.PassesTo y) (k : y.PassesTo z) : x.PassesTo z :=
  ⟨fun hx => k.1 (h.1 hx), fun hx => k.2 (h.2 hx)⟩

/-- Entries in order with a capture that may have nothing left to wait for: it completes at once, and its record is in
order (R133, R134). -/
theorem State.completeIfSettled_entriesOk {s : State} (capture : ∀ c, s.lcu.capture = some c → c.SettledOk)
    (records : ∀ r ∈ s.lcu.records, ∀ e ∈ r.entries, EntryOk e.status e.position) (missed : s.lcu.missed ≤ 255) :
    s.completeIfSettled.lcu.EntriesOk := by
  rcases s.completeIfSettled_cases with ⟨c, hc, _, e⟩ | ⟨waits, e⟩
  · rw [e, State.completeCapture_lcu]
    refine { capture := fun c hc => ?_, records := fun r hr => ?_, missed := ?_ }
    · cases hc
    · rcases mem_enqueueRecord hr with hr | rfl
      · exact records r hr
      · exact (capture c hc).entries
    · exact Nat.zero_le _
  · rw [e]
    exact ⟨fun c hc => ⟨waits c hc, fun a x st x16 pos hx hp => capture c hc a x hx st x16 pos hp⟩, records, missed⟩

theorem State.completeIfSettled_contexts (s : State) : s.completeIfSettled.lcu.contexts = s.lcu.contexts := by
  rcases s.completeIfSettled_cases with ⟨c, _, _, e⟩ | ⟨_, e⟩ <;> rw [e]
  rw [State.completeCapture_lcu]

/-- New progress of an entry keeps the laws where it is in order (R128 to R130). -/
theorem State.progressEntry_passes (s : State) (a : Axis) {f : Capture → PhysEntry → Option HistEntry → EntryProgress}
    (hf : ∀ c e b, (f c e b).Ok) : s.lcu.PassesTo (s.progressEntry a f).lcu := by
  rcases s.progressEntry_cases a f with e | ⟨c, x, b, hc, _, _, e⟩ <;> rw [e]
  · exact .refl _
  · refine ⟨fun h => by rwa [State.completeIfSettled_contexts], fun h => ?_⟩
    refine State.completeIfSettled_entriesOk (fun d hd => ?_) h.records h.missed
    obtain rfl := Option.some.inj hd
    intro i y hy
    dsimp only at hy
    rw [Four.get_set] at hy
    split at hy
    · obtain rfl := Option.some.inj hy
      exact hf c x b
    · exact (h.capture c hc).settledOk i y hy

/-- The sample path keeps both laws. -/
theorem captureLaw_passes (x : LineCapture) : CaptureLaw (fun u => x.PassesTo u.lcu) where
  same e h := by rwa [e]
  report a r h := h.trans (State.progressEntry_passes _ a (fun _ _ _ => .settledBad _))
  offer a k h := h.trans (State.progressEntry_passes _ a (fun c e b => by
    split
    · split
      · exact settleEntry_ok _ _ _ _ _ _
      · exact .settledBad _
    · exact .waiting _))

/-! ## The laws at trigger edges and timeouts (R119, R124 to R127, R131) -/

/-- An opening takes an index from the head context: the queue keeps a used up context only where it stands alone (R125). -/
theorem ContextsOk.queueAfterOpening {head : Context} {rest : List Context} (h : ContextsOk (head :: rest)) :
    ContextsOk (queueAfterOpening head rest) := by
  obtain ⟨len, alone⟩ := h
  have lone (c : Context) (hc : c ∈ rest) : c.remaining ≠ 0 := fun h0 => by
    have one := (alone c (List.mem_cons_of_mem _ hc) h0).2
    have := List.length_pos_of_mem hc
    rw [List.length_cons] at one
    omega
  rw [List.length_cons] at len
  unfold Machine.queueAfterOpening
  dsimp only
  split
  · rename_i more
    refine ⟨by rw [List.length_cons]; exact len, fun c hc h0 => ?_⟩
    rcases List.mem_cons.mp hc with rfl | hc
    · exact absurd h0 (by dsimp only; omega)
    · exact absurd h0 (lone c hc)
  · split
    · rename_i standing
      have standing := (Bool.and_eq_true_iff.mp standing).1
      refine ⟨by simp, fun c hc _ => ?_⟩
      obtain rfl := List.mem_singleton.mp hc
      exact ⟨standing, rfl⟩
    · exact ⟨by omega, fun c hc h0 => absurd h0 (lone c hc)⟩

theorem State.judgedCapture_settledOk (s : State) (c : Capture) : (s.judgedCapture c).SettledOk := by
  intro a e he
  simp only [State.judgedCapture, Four.get_mapIdx] at he
  split at he
  · cases he
    exact judgeOpening_ok _ _ _
  · cases he

theorem State.openCapture_passes (s : State) {head : Context} {rest : List Context} (hq : s.lcu.contexts = head :: rest)
    (input : TrigInput) (edge : EdgeDir) : s.lcu.PassesTo (s.openCapture head rest input edge).lcu := by
  refine ⟨fun h => ?_, fun h => ?_⟩
  · rw [State.openCapture, State.completeIfSettled_contexts]
    exact (hq ▸ h).queueAfterOpening
  · refine State.completeIfSettled_entriesOk (fun c hc => ?_) h.records h.missed
    obtain rfl := Option.some.inj hc
    exact s.judgedCapture_settledOk _

theorem State.judgeEdge_passes (s : State) (input : TrigInput) (edge : EdgeDir) : s.lcu.PassesTo (s.judgeEdge input edge).lcu := by
  unfold State.judgeEdge
  split
  · exact .refl _
  · rename_i head rest hq
    split
    · split
      · exact s.openCapture_passes hq input edge
      · refine ⟨fun h => by simpa [State.missEdge] using h, fun h => ?_⟩
        simp only [State.missEdge, State.missRequest_frame, State.modLcu_lcu]
        exact { h with missed := Nat.min_le_left _ _ }
    · exact .refl _

/-- A change of the trigger inputs alone (R119, R120). -/
theorem LineCapture.passes_triggers (x : LineCapture) (t : Two Trigger) : x.PassesTo { x with triggers := t } :=
  ⟨id, fun h => { h with }⟩

theorem PhysEntry.timeOut_ok {e : PhysEntry} (h : e.progress.Ok) : e.timeOut.progress.Ok := by
  unfold PhysEntry.timeOut
  split
  · exact .settledBad _
  · exact h

theorem State.timeOutCapture_passes (s : State) : s.lcu.PassesTo s.timeOutCapture.lcu := by
  unfold State.timeOutCapture
  split
  · rename_i c hc
    refine ⟨fun h => by rwa [State.completeIfSettled_contexts], fun h => ?_⟩
    refine State.completeIfSettled_entriesOk (fun d hd => ?_) h.records h.missed
    obtain rfl := Option.some.inj hd
    intro a e he
    rw [Four.get_mapIdx] at he
    obtain ⟨x, hx, rfl⟩ := Option.map_eq_some_iff.mp he
    exact PhysEntry.timeOut_ok ((h.capture c hc).settledOk a x hx)
  · exact .refl _

/-! ## The laws in the commands and messages of the unit (R120 to R123, R136, R137) -/

theorem contextOf_remaining {origin : Origin} {ps : List Byte} {c : Context} (h : contextOf origin ps = some c) :
    c.remaining ≠ 0 := by
  unfold contextOf at h
  split at h
  · split at h
    · rename_i hn _ _
      cases h
      have := (natIn_bounds hn).1
      dsimp only
      omega
    · cases h
  · cases h

/-- A context joins the queue where there is room, or takes the place of a used up one (R122). -/
theorem ContextsOk.insertContext {q r : List Context} {c : Context} (h : ContextsOk q) (hc : c.remaining ≠ 0)
    (e : insertContext q c = some r) : ContextsOk r := by
  unfold Machine.insertContext at e
  split at e
  · cases e
    exact ⟨by simp, fun d hd h0 => absurd h0 (by rwa [List.mem_singleton.mp hd])⟩
  · rename_i notLone
    split at e
    · cases e
    · rename_i room
      cases e
      have room : q.length < 4 := by simpa [Config.contextCapacity] using room
      refine ⟨by rw [List.length_append, List.length_singleton]; omega, fun d hd h0 => ?_⟩
      rcases List.mem_append.mp hd with hd | hd
      · obtain ⟨standing, one⟩ := h.2 d hd h0
        obtain ⟨x, rfl⟩ := List.length_eq_one_iff.mp one
        obtain rfl := List.mem_singleton.mp hd
        exact absurd (by simp [loneExhausted, standing, h0]) notLone
      · exact absurd h0 (by rwa [List.mem_singleton.mp hd])

theorem ContextsOk.flushed {q : List Context} (h : ContextsOk q) (origin : Option Origin) : ContextsOk (flushed q origin) := by
  unfold Machine.flushed
  split
  · rename_i o
    have shorter := List.length_filter_le (fun c : Context => c.origin != o) q
    refine ⟨shorter.trans h.1, fun c hc h0 => ?_⟩
    obtain ⟨standing, one⟩ := h.2 c (List.mem_filter.mp hc).1 h0
    have := List.length_pos_of_mem hc
    exact ⟨standing, by omega⟩
  · exact .nil

/-- A change of the context queue alone. -/
theorem LineCapture.passes_contexts (x : LineCapture) {q : List Context} (h : ContextsOk x.contexts → ContextsOk q) :
    x.PassesTo { x with contexts := q } := ⟨h, fun k => { k with }⟩

theorem queueContextBlock_passes (s : State) (ps : List Byte) : s.lcu.PassesTo (queueContextBlock s ps).2.lcu := by
  unfold queueContextBlock
  split
  · exact .refl _
  · rename_i c hc
    split
    · rename_i q hq
      exact s.lcu.passes_contexts (fun h => h.insertContext (contextOf_remaining hc) hq)
    · simpa [State.refuse] using LineCapture.PassesTo.refl s.lcu

theorem flushContextsBlock_passes (s : State) (ps : List Byte) : s.lcu.PassesTo (flushContextsBlock s ps).2.lcu := by
  unfold flushContextsBlock
  split
  · split
    · exact s.lcu.passes_contexts (fun h => h.flushed _)
    · exact .refl _
  · exact .refl _

theorem setTriggerBlock_passes (s : State) (ps : List Byte) : s.lcu.PassesTo (setTriggerBlock s ps).2.lcu := by
  unfold setTriggerBlock
  split
  · split
    · dsimp only [State.accept]
      split <;> exact s.lcu.passes_triggers _
    · exact .refl _
  · exact .refl _

theorem setCaptureBlock_passes (s : State) (ps : List Byte) : s.lcu.PassesTo (setCaptureBlock s ps).2.lcu := by
  have settings (p : QueuePolicy) (r t : Nat) :
      s.lcu.PassesTo (s.modLcu (fun x => { x with policy := p, readyLevel := r, timeout := t })).judgeReady.lcu := by
    rw [(State.judgeReady_frame _).2.2.2.2.2.2.2.1]
    exact ⟨id, fun h => { h with }⟩
  unfold setCaptureBlock
  split
  · split
    · dsimp only [State.accept]
      split
      · exact (settings _ _ _).trans (State.timeOutCapture_passes _)
      · exact settings _ _ _
    · exact .refl _
  · exact .refl _

theorem readCapturesBlock_passes (s : State) (ps : List Byte) : s.lcu.PassesTo (readCapturesBlock s ps).2.lcu := by
  unfold readCapturesBlock
  split
  · split
    · dsimp only
      split
      · exact .refl _
      · refine ⟨fun h => by simpa using h, fun h => ?_⟩
        simp only [State.judgeReady_frame, State.modLcu_lcu]
        exact { h with records := fun r hr => h.records r (List.mem_of_mem_drop hr) }
    · exact .refl _
  · exact .refl _

/-- A message keeps the laws that its act keeps. -/
theorem State.takeMessage_passes {s : State} {act : State → List Byte × State} (h : ∀ u : State, u.lcu.PassesTo (act u).2.lcu) :
    s.lcu.PassesTo (s.takeMessage act).lcu := by
  unfold State.takeMessage
  split
  · simpa using h (s.modMsl (fun x => { x with messages := x.messages + 1 }))
  · exact .refl _

theorem microQueueAct_passes (params : List Byte) (s : State) : s.lcu.PassesTo (microQueueAct params s).2.lcu := by
  unfold microQueueAct
  split
  · exact .refl _
  · rename_i c hc
    split
    · rename_i q hq
      exact s.lcu.passes_contexts (fun h => h.insertContext (contextOf_remaining hc) hq)
    · exact .refl _

theorem flushOwnAct_passes (params : List Byte) (s : State) : s.lcu.PassesTo (flushOwnAct params s).2.lcu := by
  unfold flushOwnAct
  split
  · exact s.lcu.passes_contexts (fun h => h.flushed _)
  · exact .refl _

/-! ## The laws of contexts and entries in every step -/

/-- The blocks of compensation and frames, which leave the Line Capture Unit as it was. -/
def blocksOfConditions : List (State → List Byte → Reply × State) :=
  [setFrameBlock, setOpticsBlock, setConditionsBlock, setExpansionBlock, setPlausibilityBlock, setProbeBlock]

theorem blocksOfConditions_lcu (s : State) (ps : List Byte) : ∀ block ∈ blocksOfConditions, (block s ps).2.lcu = s.lcu := by
  simp only [blocksOfConditions, List.forall_mem_cons, List.not_mem_nil, false_implies, implies_true, and_true, setFrameBlock,
    setOpticsBlock, setConditionsBlock, setExpansionBlock, setPlausibilityBlock, setProbeBlock]
  refine ⟨?_, ?_, ?_, ?_, ?_, ?_⟩
  all_goals (repeat' split) <;> simp [State.accept, State.refuse]

/-- Every command keeps the laws of the context queue and of the entries. -/
theorem exec_lcuPasses {i : Instr} {s t : State} (h : exec i s = .next t) : s.lcu.PassesTo t.lcu := by
  by_cases hi : reachesUnits i = false
  · rw [(exec_sameUnits hi h).2]
    exact .refl _
  have law := captureLaw_passes s.lcu
  have start : s.lcu.PassesTo s.lcu := .refl _
  have host : ∀ {code n body block}, (∀ ps, s.lcu.PassesTo (block s ps).2.lcu) →
      s.lcu.PassesTo (s.hostCommand code n body block).lcu :=
    State.hostCommand_keeps (P := fun u => s.lcu.PassesTo u.lcu) (fun _ _ _ k => by simpa using k) start
  have axis : ∀ {code body act}, (∀ a, s.lcu.PassesTo (act s a).2.lcu) →
      s.lcu.PassesTo (s.hostCommand code 1 body (axisCommand act)).lcu :=
    fun ha => host (axisCommand_keeps (P := fun u => s.lcu.PassesTo u.lcu) start ha)
  cases i <;> first | exact absurd rfl hi | obtain rfl := Host.Outcome.next.inj h
  case sampleFrame a bits => exact law.takeFrame start a bits
  case silenceTimerExpiry a =>
    split
    · exact law.dropLink start a _
    · exact start
  case setLink => exact host (law.setLinkBlock start)
  case datumNow => exact host (law.datumNowBlock start)
  case disableAxis => exact axis (law.disableAxis start)
  case axisRestart => exact axis (law.axisRestart start)
  case triggerEdge input edge =>
    split
    · exact start
    · exact (s.lcu.passes_triggers _).trans (State.judgeEdge_passes (s.startDeadTime input) input edge)
  case deadTimeEnd input =>
    split
    · exact s.lcu.passes_triggers _
    · exact start
  case captureTimeoutExpiry =>
    split
    · exact s.timeOutCapture_passes
    · exact start
  case microQueueContext params => exact State.takeMessage_passes (microQueueAct_passes params)
  case flushOwn params => exact State.takeMessage_passes (flushOwnAct_passes params)
  case setTrigger => exact host (setTriggerBlock_passes s)
  case queueContext => exact host (queueContextBlock_passes s)
  case flushContexts => exact host (flushContextsBlock_passes s)
  case setCapture => exact host (setCaptureBlock_passes s)
  case readCaptures => exact host (readCapturesBlock_passes s)
  case powerOnReset => exact ⟨fun _ => .nil, fun _ => LineCapture.reset_entriesOk⟩
  case resetUnit =>
    split
    · exact start
    · split
      · simpa using start
      · exact ⟨fun _ => .nil, fun _ => LineCapture.reset_entriesOk⟩
  case setFrame | setOptics | setConditions | setExpansion | setPlausibility | setProbe =>
    refine host (fun ps => law.same (blocksOfConditions_lcu s ps _ ?_) start)
    simp [blocksOfConditions]
  case readConditions =>
    refine host (clearCommand_keeps (P := fun u => s.lcu.PassesTo u.lcu) start (fun c => ?_))
    cases c <;> exact start
  case conditionsFrame | stalenessTimerExpiry | kComputationComplete | syncEdge | frameTimerExpiry =>
    exact law.same (by (repeat' split) <;> simp) start

end Sys2Proof.Machine

namespace Sys2Proof.Proofs

open Sys2Proof.Machine

/-- Settles O11: every command passes both laws on, and line events and ticks leave the unit as it was. -/
theorem stepKeepsContextsAndEntries : Obligations.StepKeepsContextsAndEntries := by
  intro s t hs
  exact step_induction (P := fun u => s.lcu.PassesTo u.lcu) (.refl _) hs (fun _ _ k => k) (fun _ _ k => k)
    (fun _ _ _ k e => k.trans (exec_lcuPasses e)) (fun _ _ k => by simpa using k) (fun _ k => k)

end Sys2Proof.Proofs

namespace Sys2Proof.Machine

open Sys2Proof.Claims

/-! ## Timers in the vocabulary of the statements (R77, R78, R92, R119, R154, R157) -/

theorem State.staleDue_eq (s : State) : s.staleDue = ranOut s.tick s.cmu.staleness (s.cmu.condTimeout * 100000000) :=
  timerDue_eq_ranOut _ _ _

theorem State.watchDue_eq (s : State) : s.watchDue = ranOut s.tick s.fru.watch (2 * (s.fru.period * 100)) :=
  timerDue_eq_ranOut _ _ _

theorem State.frameTimerDue_eq (s : State) : s.frameTimerDue = ranOut s.tick s.fru.timer (s.fru.period * 100) :=
  timerDue_eq_ranOut _ _ _

theorem State.deadTimeDue_eq (s : State) (i : TrigInput) :
    s.deadTimeDue i = ranOut s.tick (s.lcu.triggers.get i).deadFrom (s.lcu.triggers.get i).dead :=
  timerDue_eq_ranOut _ _ _

/-- The staleness timer sets the mark and stops; COND_STALE is raised where the mark was clear (R77, R78). -/
theorem State.goStale_eq (s : State) :
    s.goStale = { (if s.cmu.stale = true then s else raised s 18) with
      cmu := { s.cmu with stale := true, staleness := none } } := by
  unfold State.goStale State.raiseIf
  cases s.cmu.stale <;> rfl

/-- A level whose minimum is over ends where its condition is false and goes on where it is true (R157). -/
theorem State.endMinimum_eq (s : State) :
    s.endMinimum = if s.levelCondition = true then { s with alc := { s.alc with state := .level true } }
      else { s with alc := { s.alc with state := .gap s.tick } } := by
  have same : (s.modAlc (fun x => { x with state := .level true })).levelCondition = s.levelCondition :=
    State.levelCondition_congr _ _ (fun _ => rfl) (fun _ => ⟨rfl, rfl⟩) rfl
  unfold State.endMinimum
  obtain ⟨h, e⟩ | ⟨h, -, e⟩ | ⟨-, h, -⟩ :=
    State.judgeLevel_cases (s.modAlc (fun x => { x with state := .level true }))
  · rw [e, if_pos (same ▸ h)]
    rfl
  · rw [e, if_neg (by simp [← same, h])]
    rfl
  · exact absurd rfl h

/-! ## Resets (R116, R172) -/

theorem ReadPhase.afterReset_eq (r : ReadPhase) : r.afterReset = if r = .idle then .idle else .spent := by
  cases r <;> rfl

theorem State.resetAll_eq (s : State) (low : Bool) : s.resetAll low = { State.reset with
    svp := { State.reset.svp with read := if s.svp.read = .idle then .idle else .spent }
    hpt := { State.reset.hpt with waitHsel := low }
    choices := s.choices, pending := s.pending, lines := s.lines } := by
  rw [← ReadPhase.afterReset_eq]
  rfl

end Sys2Proof.Machine

namespace Sys2Proof.Proofs

open Sys2Proof.Machine Sys2Proof.Claims

/-- Settles O28: the set staged is the result of the inputs of the computation, axis by axis. -/
theorem kComputationCompletes : Obligations.KComputationCompletes := by
  intro s
  refine ⟨fun h => congrArg Host.Outcome.next ?_, fun c h => ⟨c.inputs.result, fun a => ?_, congrArg Host.Outcome.next ?_⟩⟩
  · simp only [h]
  · exact Four.get_mapIdx ..
  · simp only [h]
    rfl

/-- Settles O46: each expiry tests its timer, by the state the timer belongs to, and does its work. -/
theorem expiries : Obligations.Expiries := by
  refine ⟨fun s => ⟨?_, ?_, fun i => ?_, fun r since h => ?_, fun h => ?_⟩, fun s start h => ?_, fun s start h => ?_, fun s h => ?_,
    fun s h => ?_, fun s h => ?_, fun s h => ?_⟩
  all_goals refine congrArg Host.Outcome.next ?_
  · rw [State.staleDue_eq, State.goStale_eq]
  · rw [State.watchDue_eq]
    rfl
  · rw [State.deadTimeDue_eq]
    rfl
  · simp only [h]
    rfl
  · cases hr : s.hpt.response with
    | preparing r since => exact absurd hr (h r since)
    | none => rfl
    | ready r => rfl
  · have due : s.pulseDue = true ↔ hasPassed s.tick start (s.alc.pulseTime * 100) := by simp [State.pulseDue_iff, dueNow, h]
    exact if_congr due rfl rfl
  · have due : s.gapDue = true ↔ hasPassed s.tick start (s.alc.pulseTime * 100) := by simp [State.gapDue_iff, dueNow, h]
    exact if_congr due rfl rfl
  · have due : s.minimumDue = true ↔ hasPassed s.tick s.alc.wentLow (s.alc.levelMin * 100) := by
      simp [State.minimumDue_iff, dueNow, h]
    rw [ite_not, State.endMinimum_eq]
    exact if_congr due rfl rfl
  · refine if_neg fun hd => ?_
    obtain ⟨start, hs, -⟩ := s.pulseDue_iff.1 hd
    exact h start hs
  · refine if_neg fun hd => ?_
    obtain ⟨start, hs, -⟩ := s.gapDue_iff.1 hd
    exact h start hs
  · exact if_neg fun hd => h (s.minimumDue_iff.1 hd).1

/-- Settles O52: both resets are the values after reset with what outlasts them, and the frame of RESET_UNIT has the length
required. -/
theorem resets : Obligations.Resets := by
  refine ⟨fun s low => ?_, fun s low extra => ?_, fun s => rfl⟩
  · exact congrArg Host.Outcome.next (s.resetAll_eq low)
  · have params : paramsOf 0 (frame [] extra) = some [] := paramsOf_cons [] extra (by decide)
    have lost : s.hpt.response.isPending = decide (s.hpt.response ≠ .none) := by cases s.hpt.response <;> rfl
    refine congrArg Host.Outcome.next ?_
    simp only [params, HostPort.closed_iff, taken, State.unitReset, State.resetAll_eq, State.respond, State.modHpt, lost]

end Sys2Proof.Proofs

namespace Sys2Proof.Machine

open Sys2Proof.Claims

/-! ## Updates of the K computation (R80) -/

theorem updated_zero (x : Compensation) (tick : Tick) : updated x tick 0 = x := by simp [updated]

theorem updated_idle {x : Compensation} (h : x.computing = none) (tick : Tick) (n : Nat) :
    updated x tick (n + 1) =
      { x with computing := some { inputs := x.inputs, start := tick }, recompute := x.recompute || decide (0 < n) } := by
  simp [updated, h, Compensation.inputs]

theorem updated_busy {x : Compensation} (h : x.computing ≠ none) (tick : Tick) (n : Nat) :
    updated x tick (n + 1) = { x with recompute := true } := by
  simp [updated, h]

/-- The updates of one moment add up. -/
theorem updated_updated (x : Compensation) (tick : Tick) (m n : Nat) :
    updated (updated x tick m) tick n = updated x tick (m + n) := by
  cases n with
  | zero => rw [updated_zero, Nat.add_zero]
  | succ n =>
    cases m with
    | zero => rw [updated_zero, Nat.zero_add]
    | succ m =>
      rw [show m + 1 + (n + 1) = m + (n + 1) + 1 by omega]
      by_cases h : x.computing = none
      · rw [updated_idle h, updated_idle h, updated_busy (by simp)]
        simp
      · rw [updated_busy h, updated_busy h, updated_busy (x := { x with recompute := true }) h]

theorem State.kUpdate_eq (s : State) : s.kUpdate = s.modCmu (fun x => updated x s.tick 1) := by
  unfold State.kUpdate State.modCmu
  cases h : s.cmu.computing with
  | none => simp [h, updated_idle h]
  | some c => simp [h, updated_busy (x := s.cmu) (by simp [h])]

theorem State.kUpdateIf_eq (s : State) (b : Bool) :
    s.kUpdateIf b = s.modCmu (fun x => updated x s.tick (if b = true then 1 else 0)) := by
  cases b
  · exact congrArg (fun c => s.modCmu (fun _ => c)) (updated_zero s.cmu s.tick).symm
  · exact s.kUpdate_eq

theorem State.kUpdateIf_kUpdateIf (s : State) (a b : Bool) : (s.kUpdateIf a).kUpdateIf b =
    s.modCmu (fun x => updated x s.tick ((if a = true then 1 else 0) + (if b = true then 1 else 0))) := by
  rw [State.kUpdateIf_eq, State.kUpdateIf_eq]
  exact congrArg (fun c => s.modCmu (fun _ => c)) (updated_updated ..)

theorem State.raiseHeld_eq (s : State) (before : Compensation) : s.raiseHeld before = heldRaised s before s.cmu := by
  unfold State.raiseHeld State.raiseIf heldRaised
  refine if_congr ?_ rfl rfl
  simp

/-! ## The commands of the compensation settings (R66, R70, R76) -/

theorem foldOf_eq (f : Byte) : foldOf f = if f.toNat ∈ [1, 2, 4, 8] then some f.toNat else none := by
  unfold foldOf
  split
  case h_5 h1 h2 h4 h8 =>
    rw [if_neg]
    simp only [List.mem_cons, List.not_mem_nil, or_false, not_or]
    exact ⟨h1, h2, h4, h8⟩
  all_goals (rename_i h; rw [h]; rfl)

theorem probeOf_eq (p : Byte) : probeOf p = if 1 ≤ p.toNat ∧ p.toNat ≤ 4 then some (quadAt (p - 1)) else none := by
  unfold probeOf
  split
  case h_1 h => obtain rfl : p = 1 := BitVec.eq_of_toNat_eq h; rfl
  case h_2 h => obtain rfl : p = 2 := BitVec.eq_of_toNat_eq h; rfl
  case h_3 h => obtain rfl : p = 3 := BitVec.eq_of_toNat_eq h; rfl
  case h_4 h => obtain rfl : p = 4 := BitVec.eq_of_toNat_eq h; rfl
  case h_5 h1 h2 h3 h4 =>
    have : p.toNat ≠ 1 ∧ p.toNat ≠ 2 ∧ p.toNat ≠ 3 ∧ p.toNat ≠ 4 := ⟨h1, h2, h3, h4⟩
    rw [if_neg (by omega)]

/-- Two bytes make a number below 65 536. -/
theorem natIn_word (b1 b0 : Byte) : natIn 0 65535 [b1, b0] = some (bytesToNat [b1, b0]) := by
  have := b1.isLt
  have := b0.isLt
  refine if_pos ⟨Nat.zero_le _, ?_⟩
  simp only [bytesToNat, List.foldl_cons, List.foldl_nil]
  omega

theorem setOpticsBlock_eq (s : State) (a l2 l1 l0 f v t : Byte) :
    setOpticsBlock s [a, l2, l1, l0, f, v, t] =
      if a.toNat ≤ 3 ∧ 400000 ≤ bytesToNat [l2, l1, l0] ∧ bytesToNat [l2, l1, l0] ≤ 1700000 ∧
        f.toNat ∈ [1, 2, 4, 8] ∧ v.toNat ≤ 1 ∧ t.toNat ≤ 1 then
        State.accept { s with cmu := (updated
          { s.cmu with optics := (s.cmu.optics.set (quadAt a)
              { lambda := bytesToNat [l2, l1, l0], fold := f.toNat, vacuum := isSet v, thermal := isSet t }) } s.tick
          (if s.cmu.optics.get (quadAt a) ≠
              { lambda := bytesToNat [l2, l1, l0], fold := f.toNat, vacuum := isSet v, thermal := isSet t }
            then 1 else 0)) }
      else s.refuse .badValue := by
  simp only [setOpticsBlock, quadOf_eq, natIn, foldOf_eq, boolOf_eq]
  split
  · rename_i ha hl hf hv ht
    simp only [Option.ite_none_right_eq_some, Option.some.injEq] at ha hl hf hv ht
    obtain ⟨ha, rfl⟩ := ha
    obtain ⟨hl, rfl⟩ := hl
    obtain ⟨hf, rfl⟩ := hf
    obtain ⟨hv, rfl⟩ := hv
    obtain ⟨ht, rfl⟩ := ht
    rw [if_pos ⟨ha, hl.1, hl.2, hf, hv, ht⟩, State.kUpdateIf_eq]
    simp only [bne_iff_ne]
    rfl
  · rename_i h
    rw [if_neg]
    rintro ⟨ha, hl0, hl1, hf, hv, ht⟩
    exact h _ _ _ _ _ (if_pos ha) (if_pos ⟨hl0, hl1⟩) (if_pos hf) (if_pos hv) (if_pos ht)

theorem intIn_eq (lo hi : Int) (bytes : List Byte) : intIn lo hi bytes =
    if lo ≤ bytesToInt bytes ∧ bytesToInt bytes ≤ hi then some (bytesToInt bytes) else none := rfl

theorem setExpansionBlock_eq (s : State) (b2 b1 b0 : Byte) :
    setExpansionBlock s [b2, b1, b0] =
      if -50000 ≤ bytesToInt [b2, b1, b0] ∧ bytesToInt [b2, b1, b0] ≤ 50000 then
        State.accept { s with cmu := (updated
          { s.cmu with alpha := bytesToInt [b2, b1, b0], e := bytesToInt [b2, b1, b0] * (s.cmu.tS - 20000) } s.tick
          (if bytesToInt [b2, b1, b0] * (s.cmu.tS - 20000) ≠ s.cmu.e then 1 else 0)) }
      else s.refuse .badValue := by
  unfold setExpansionBlock
  by_cases h : -50000 ≤ bytesToInt [b2, b1, b0] ∧ bytesToInt [b2, b1, b0] ≤ 50000
  · rw [if_pos h, intIn_eq, if_pos h]
    simp only [State.kUpdateIf_eq, State.modCmu, Compensation.formE, thermalTerm, bne_iff_ne]
  · rw [if_neg h, intIn_eq, if_neg h]

theorem setProbeBlock_eq (s : State) (p c11 c10 c21 c20 t11 t10 t21 t20 : Byte) :
    setProbeBlock s [p, c11, c10, c21, c20, t11, t10, t21, t20] =
      if 1 ≤ p.toNat ∧ p.toNat ≤ 4 ∧ bytesToNat [c11, c10] ≠ bytesToNat [c21, c20] ∧
        bytesToNat [t11, t10] ≤ 50000 ∧ bytesToNat [t21, t20] ≤ 50000 then
        State.accept { s with cmu := { s.cmu with probes := (s.cmu.probes.set (quadAt (p - 1))
          { c1 := bytesToNat [c11, c10], tc1 := bytesToNat [t11, t10], c2 := bytesToNat [c21, c20],
            tc2 := bytesToNat [t21, t20] }) } }
      else s.refuse .badValue := by
  simp only [setProbeBlock, probeOf_eq, natIn_word]
  simp only [natIn]
  split
  · rename_i hp h1 h2 ht1 ht2
    simp only [Option.ite_none_right_eq_some, Option.some.injEq] at hp h1 h2 ht1 ht2
    obtain ⟨hp, rfl⟩ := hp
    obtain ⟨ht1, rfl⟩ := ht1
    obtain ⟨ht2, rfl⟩ := ht2
    obtain rfl := h1
    obtain rfl := h2
    rw [← ite_not]
    exact if_congr ⟨fun h => ⟨hp.1, hp.2, h, ht1.2, ht2.2⟩, fun ⟨_, _, h, _⟩ => h⟩ rfl rfl
  · rename_i h
    rw [if_neg]
    rintro ⟨hp0, hp1, -, ht1, ht2⟩
    exact h _ _ _ _ _ (if_pos ⟨hp0, hp1⟩) rfl rfl (if_pos ⟨Nat.zero_le _, ht1⟩) (if_pos ⟨Nat.zero_le _, ht2⟩)

end Sys2Proof.Machine

namespace Sys2Proof.Proofs

open Sys2Proof.Machine Sys2Proof.Claims

/-- Settles O29: the checks of each command, the setting it writes and the update it owes. -/
theorem compensationSettings : Obligations.CompensationSettings := by
  refine ⟨fun s a l2 l1 l0 f v t extra => ?_, fun s b2 b1 b0 extra => ?_,
    fun s p c11 c10 c21 c20 t11 t10 t21 t20 extra => ?_⟩
  all_goals refine congrArg Host.Outcome.next ?_
  · exact State.hostCommand_checked rfl (by decide) (setOpticsBlock_eq ..) rfl
  · exact State.hostCommand_checked rfl (by decide) (setExpansionBlock_eq ..) rfl
  · exact State.hostCommand_checked rfl (by decide) (setProbeBlock_eq ..) rfl

end Sys2Proof.Proofs

namespace Sys2Proof.Machine

open Sys2Proof.Claims

/-! ## COND_HELD beside the Compensation Unit (R77) -/

theorem heldRaised_tick (s : State) (before after : Compensation) : (heldRaised s before after).tick = s.tick := by
  unfold heldRaised
  split <;> rfl

theorem heldRaised_modCmu (s : State) (before after : Compensation) (f : Compensation → Compensation) :
    (heldRaised s before after).modCmu f = heldRaised (s.modCmu f) before after := by
  unfold heldRaised
  split <;> rfl

/-! ## What changes of the conditions values leave alone (R69, R72 to R75) -/

/-- The values and holds, their sources and the staleness timer of `y`, with everything else of `x`. -/
def Compensation.withValues (x y : Compensation) : Compensation :=
  { x with
    nSource := y.nSource, n := y.n, heldN := y.heldN, tSource := y.tSource, tS := y.tS, heldT := y.heldT, e := y.e,
    staleness := y.staleness, stale := y.stale }

theorem Compensation.withValues_trans {x y z : Compensation} (hy : y = x.withValues y) (hz : z = y.withValues z) :
    z = x.withValues z := by
  have step : y.withValues z = (x.withValues y).withValues z := congrArg (Compensation.withValues · z) hy
  exact hz.trans step

theorem Compensation.setN_values (x : Compensation) (station : Bool) (v : Nat) :
    x.setN station v = x.withValues (x.setN station v) := by
  unfold Compensation.setN
  split <;> rfl

theorem Compensation.setT_values (x : Compensation) (station : Bool) (v : Nat) :
    x.setT station v = x.withValues (x.setT station v) := by
  unfold Compensation.setT
  split <;> rfl

theorem Compensation.setStaleness_values (x : Compensation) (before : Bool) (tick : Tick) :
    x.setStaleness before tick = x.withValues (x.setStaleness before tick) := by
  unfold Compensation.setStaleness
  split
  · split <;> rfl
  · rfl

/-! ## SET_CONDITIONS (R69) -/

theorem Compensation.setN_host (x : Compensation) (v : Nat) :
    x.setN false v = { x with nSource := .manual, n := v, heldN := false } := rfl

theorem Compensation.setN_handsOver {x : Compensation} (h : x.nSource = .manual) (v : Nat) :
    x.setN true v = { x with nSource := .awaiting, heldN := true } := by
  simp [Compensation.setN, h]

theorem Compensation.setN_stays {x : Compensation} (h : x.nSource ≠ .manual) (v : Nat) : x.setN true v = x := by
  cases hx : x.nSource
  · exact absurd hx h
  all_goals simp [Compensation.setN, hx]

theorem Compensation.setT_host (x : Compensation) (v : Nat) : x.setT false v =
    { x with tSource := .manual, tS := v, heldT := false, e := x.alpha * ((v : Int) - 20000) } := rfl

theorem Compensation.setT_handsOver {x : Compensation} (h : x.tSource = .manual) (v : Nat) :
    x.setT true v = { x with tSource := .awaiting, heldT := true } := by
  simp [Compensation.setT, h]

theorem Compensation.setT_stays {x : Compensation} (h : x.tSource ≠ .manual) (v : Nat) : x.setT true v = x := by
  cases hx : x.tSource
  · exact absurd hx h
  all_goals simp [Compensation.setT, hx]

theorem Compensation.usesStation_iff (x : Compensation) :
    x.usesStation = true ↔ x.nSource ≠ .manual ∨ x.tSource ≠ .manual := by
  simp [Compensation.usesStation]

theorem Compensation.usesStation_eq_false_iff (x : Compensation) :
    x.usesStation = false ↔ x.nSource = .manual ∧ x.tSource = .manual := by
  simp [Compensation.usesStation]

theorem Compensation.setT_n (x : Compensation) (station : Bool) (v : Nat) :
    (x.setT station v).nSource = x.nSource ∧ (x.setT station v).n = x.n ∧ (x.setT station v).heldN = x.heldN := by
  unfold Compensation.setT
  split <;> exact ⟨rfl, rfl, rfl⟩

theorem Compensation.setN_t (x : Compensation) (station : Bool) (v : Nat) :
    (x.setN station v).tSource = x.tSource ∧ (x.setN station v).tS = x.tS ∧ (x.setN station v).heldT = x.heldT ∧
      (x.setN station v).e = x.e ∧ (x.setN station v).alpha = x.alpha := by
  unfold Compensation.setN
  split <;> exact ⟨rfl, rfl, rfl, rfl, rfl⟩

/-- The effect on T_S depends on what belongs to T_S and on α. -/
theorem Compensation.setT_congr {x y : Compensation} (station : Bool) (v : Nat) (hs : y.tSource = x.tSource) (ht : y.tS = x.tS)
    (hh : y.heldT = x.heldT) (he : y.e = x.e) (ha : y.alpha = x.alpha) :
    (y.setT station v).tSource = (x.setT station v).tSource ∧ (y.setT station v).tS = (x.setT station v).tS ∧
      (y.setT station v).heldT = (x.setT station v).heldT ∧ (y.setT station v).e = (x.setT station v).e := by
  unfold Compensation.setT Compensation.formE
  rw [hs]
  split <;> simp [hs, ht, hh, he, ha]

theorem Compensation.setStaleness_nt (x : Compensation) (before : Bool) (tick : Tick) :
    x.setStaleness before tick = { x with
      staleness := (x.setStaleness before tick).staleness, stale := (x.setStaleness before tick).stale } := by
  unfold Compensation.setStaleness
  split
  · split <;> rfl
  · rfl

/-- The settings of SET_CONDITIONS: the two quantities, and then the staleness timer by the sources they leave. -/
def Compensation.setSources (x : Compensation) (nStation : Bool) (n : Nat) (tStation : Bool) (t : Nat) (tick : Tick) :
    Compensation :=
  ((x.setN nStation n).setT tStation t).setStaleness x.usesStation tick

section

variable (x : Compensation) (nStation : Bool) (n : Nat) (tStation : Bool) (t : Nat) (tick : Tick)

theorem Compensation.setSources_values :
    x.setSources nStation n tStation t tick = x.withValues (x.setSources nStation n tStation t tick) :=
  Compensation.withValues_trans (x.setN_values nStation n)
    (Compensation.withValues_trans (Compensation.setT_values _ tStation t) (Compensation.setStaleness_values _ _ tick))

theorem Compensation.setSources_n :
    (x.setSources nStation n tStation t tick).nSource = (x.setN nStation n).nSource ∧
      (x.setSources nStation n tStation t tick).n = (x.setN nStation n).n ∧
      (x.setSources nStation n tStation t tick).heldN = (x.setN nStation n).heldN := by
  rw [Compensation.setSources, Compensation.setStaleness_nt]
  exact Compensation.setT_n _ tStation t

theorem Compensation.setSources_t :
    (x.setSources nStation n tStation t tick).tSource = (x.setT tStation t).tSource ∧
      (x.setSources nStation n tStation t tick).tS = (x.setT tStation t).tS ∧
      (x.setSources nStation n tStation t tick).heldT = (x.setT tStation t).heldT ∧
      (x.setSources nStation n tStation t tick).e = (x.setT tStation t).e := by
  obtain ⟨hs, ht, hh, he, ha⟩ := x.setN_t nStation n
  rw [Compensation.setSources, Compensation.setStaleness_nt]
  exact Compensation.setT_congr tStation t hs ht hh he ha

theorem Compensation.setSources_usesStation :
    (x.setSources nStation n tStation t tick).usesStation = ((x.setN nStation n).setT tStation t).usesStation := by
  rw [Compensation.setSources, Compensation.setStaleness_nt]
  rfl

theorem Compensation.setSources_staleness :
    ((x.setSources nStation n tStation t tick).usesStation = false →
      (x.setSources nStation n tStation t tick).staleness = none ∧
        (x.setSources nStation n tStation t tick).stale = false) ∧
    ((x.setSources nStation n tStation t tick).usesStation = true → x.usesStation = true →
      (x.setSources nStation n tStation t tick).staleness = x.staleness ∧
        (x.setSources nStation n tStation t tick).stale = x.stale) ∧
    ((x.setSources nStation n tStation t tick).usesStation = true → x.usesStation = false →
      (x.setSources nStation n tStation t tick).staleness = some tick ∧
        (x.setSources nStation n tStation t tick).stale = x.stale) := by
  obtain ⟨nTimer, nStale⟩ := x.setN_timer nStation n
  obtain ⟨tTimer, tStale⟩ := (x.setN nStation n).setT_timer tStation t
  rw [Compensation.setSources_usesStation]
  refine ⟨fun h => ?_, fun h hx => ?_, fun h hx => ?_⟩
  · simp [Compensation.setSources, Compensation.setStaleness, h]
  · simp [Compensation.setSources, Compensation.setStaleness, h, hx, nTimer, nStale, tTimer, tStale]
  · simp [Compensation.setSources, Compensation.setStaleness, h, hx, nStale, tStale]

theorem State.applyConditions_eq (s : State) (y : Compensation) (hy : y = s.cmu.setSources nStation n tStation t s.tick) :
    s.applyConditions nStation n tStation t = heldRaised { s with cmu := (updated y s.tick
      ((if y.n ≠ s.cmu.n then 1 else 0) + (if y.e ≠ s.cmu.e then 1 else 0))) } s.cmu y := by
  have set : s.modCmu (fun x => ((x.setN nStation n).setT tStation t).setStaleness x.usesStation s.tick) =
      { s with cmu := y } := by rw [hy]; rfl
  unfold State.applyConditions
  simp only [set, State.raiseHeld_eq, State.kUpdateIf_kUpdateIf, heldRaised_tick, heldRaised_modCmu, bne_iff_ne]
  rfl

end

theorem boolOf_decide (b : Byte) : boolOf b = if b.toNat ≤ 1 then some (decide (b.toNat ≠ 0)) else none := by
  rw [boolOf_eq]
  split
  · rename_i h
    have : b.toNat = 0 ∨ b.toNat = 1 := by omega
    obtain e | e := this
    · obtain rfl : b = 0 := BitVec.eq_of_toNat_eq e
      rfl
    · obtain rfl : b = 1 := BitVec.eq_of_toNat_eq e
      rfl
  · rfl

theorem setConditionsBlock_eq (s : State) (ns n2 n1 n0 ts t1 t0 : Byte) :
    setConditionsBlock s [ns, n2, n1, n0, ts, t1, t0] =
      if ns.toNat ≤ 1 ∧ bytesToNat [n2, n1, n0] ≤ 999999 ∧ ts.toNat ≤ 1 ∧ bytesToNat [t1, t0] ≤ 50000 then
        (s.applyConditions (decide (ns.toNat ≠ 0)) (bytesToNat [n2, n1, n0]) (decide (ts.toNat ≠ 0))
          (bytesToNat [t1, t0])).accept
      else s.refuse .badValue := by
  simp only [setConditionsBlock, boolOf_decide, natIn]
  split
  · rename_i hns hn hts ht
    simp only [Option.ite_none_right_eq_some, Option.some.injEq] at hns hn hts ht
    obtain ⟨hns, rfl⟩ := hns
    obtain ⟨hn, rfl⟩ := hn
    obtain ⟨hts, rfl⟩ := hts
    obtain ⟨ht, rfl⟩ := ht
    rw [if_pos ⟨hns, hn.2, hts, ht.2⟩]
  · rename_i h
    rw [if_neg]
    rintro ⟨hns, hn, hts, ht⟩
    exact h _ _ _ _ (if_pos hns) (if_pos ⟨Nat.zero_le _, hn⟩) (if_pos hts) (if_pos ⟨Nat.zero_le _, ht⟩)

theorem exec_setConditions (s : State) (ns n2 n1 n0 ts t1 t0 : Byte) (extra : List Byte) (x : Compensation)
    (hx : x = s.cmu.setSources (decide (ns.toNat ≠ 0)) (bytesToNat [n2, n1, n0]) (decide (ts.toNat ≠ 0))
      (bytesToNat [t1, t0]) s.tick) :
    exec (.setConditions (frame [ns, n2, n1, n0, ts, t1, t0] extra)) s = .next (checked s 0x17
      (ns.toNat ≤ 1 ∧ bytesToNat [n2, n1, n0] ≤ 999999 ∧ ts.toNat ≤ 1 ∧ bytesToNat [t1, t0] ≤ 50000)
      (heldRaised { s with cmu := (updated x s.tick
        ((if x.n ≠ s.cmu.n then 1 else 0) + (if x.e ≠ s.cmu.e then 1 else 0))) } s.cmu x)) := by
  refine congrArg Host.Outcome.next ?_
  rw [← State.applyConditions_eq _ _ _ _ s x hx]
  refine State.hostCommand_checked rfl (by decide) (setConditionsBlock_eq ..) ?_
  rw [State.applyConditions_eq _ _ _ _ s x hx, heldRaised_tick]

/-! ## SET_PLAUSIBILITY (R71) -/

theorem Compensation.windowExcludes_iff (x : Compensation) (nMin nMax tMin tMax : Nat) :
    x.windowExcludes nMin nMax tMin tMax = true ↔
      (x.nSource = .station ∧ ¬ (nMin ≤ x.n ∧ x.n ≤ nMax)) ∨
        (x.tSource = .station ∧ ¬ ((tMin : Int) ≤ x.tS ∧ x.tS ≤ tMax)) := by
  simp [Compensation.windowExcludes, inRange, imp_iff_not_or]

theorem State.writePlausibility_eq (s : State) (nMin nMax tMin tMax timeout : Nat) :
    s.writePlausibility nMin nMax tMin tMax timeout =
      if ranOut s.tick s.cmu.staleness (timeout * 100000000) = true then
        { (if s.cmu.stale = true then s else raised s 18) with cmu := { s.cmu with
          nMin := nMin, nMax := nMax, tMin := tMin, tMax := tMax, condTimeout := timeout, stale := true,
          staleness := none } }
      else { s with cmu := { s.cmu with
          nMin := nMin, nMax := nMax, tMin := tMin, tMax := tMax, condTimeout := timeout } } := by
  unfold State.writePlausibility
  simp only [State.staleDue_eq, State.goStale_eq]
  refine if_congr Iff.rfl ?_ rfl
  cases h : s.cmu.stale <;> simp [State.modCmu, h, raised, withFlagsOf]

theorem State.writePlausibility_tick (s : State) (nMin nMax tMin tMax timeout : Nat) :
    (s.writePlausibility nMin nMax tMin tMax timeout).tick = s.tick := by
  rw [State.writePlausibility_eq]
  split
  · split <;> rfl
  · rfl

theorem setPlausibilityBlock_eq (s : State) (a2 a1 a0 b2 b1 b0 c1 c0 d1 d0 tmo : Byte) :
    setPlausibilityBlock s [a2, a1, a0, b2, b1, b0, c1, c0, d1, d0, tmo] =
      if ¬ (bytesToNat [a2, a1, a0] ≤ bytesToNat [b2, b1, b0] ∧ bytesToNat [b2, b1, b0] ≤ 999999 ∧
            bytesToNat [c1, c0] ≤ bytesToNat [d1, d0] ∧ bytesToNat [d1, d0] ≤ 50000 ∧ 1 ≤ tmo.toNat ∧ tmo.toNat ≤ 60) then
        s.refuse .badValue
      else if s.cmu.windowExcludes (bytesToNat [a2, a1, a0]) (bytesToNat [b2, b1, b0]) (bytesToNat [c1, c0])
          (bytesToNat [d1, d0]) = true then s.refuse .state
      else (s.writePlausibility (bytesToNat [a2, a1, a0]) (bytesToNat [b2, b1, b0]) (bytesToNat [c1, c0])
        (bytesToNat [d1, d0]) tmo.toNat).accept := by
  simp only [setPlausibilityBlock, natIn, bytesToNat_singleton]
  split
  · rename_i hnl hnh htl hth htmo
    simp only [Option.ite_none_right_eq_some, Option.some.injEq] at hnl hnh htl hth htmo
    obtain ⟨hnl, rfl⟩ := hnl
    obtain ⟨hnh, rfl⟩ := hnh
    obtain ⟨htl, rfl⟩ := htl
    obtain ⟨hth, rfl⟩ := hth
    obtain ⟨htmo, rfl⟩ := htmo
    refine if_congr ⟨fun h ok => ?_, fun h => ?_⟩ rfl rfl
    · omega
    · by_contra hw
      exact h ⟨by omega, hnh.2, by omega, hth.2, htmo.1, htmo.2⟩
  · rename_i h
    rw [if_pos]
    rintro ⟨hn, hn', ht, ht', htmo⟩
    exact h _ _ _ _ _ (if_pos ⟨Nat.zero_le _, hn.trans hn'⟩) (if_pos ⟨Nat.zero_le _, hn'⟩)
      (if_pos ⟨Nat.zero_le _, ht.trans ht'⟩) (if_pos ⟨Nat.zero_le _, ht'⟩) (if_pos htmo)

end Sys2Proof.Machine

namespace Sys2Proof.Proofs

open Sys2Proof.Machine Sys2Proof.Claims

/-- Settles O30: the settings of SET_CONDITIONS quantity by quantity, and the three answers of SET_PLAUSIBILITY. -/
theorem conditionsSettings : Obligations.ConditionsSettings := by
  refine ⟨fun s ns n2 n1 n0 ts t1 t0 extra => ?_, fun s a2 a1 a0 b2 b1 b0 c1 c0 d1 d0 tmo extra => ?_⟩
  · obtain ⟨hidle, hruns, hstarts⟩ := s.cmu.setSources_staleness (decide (ns.toNat ≠ 0)) (bytesToNat [n2, n1, n0])
      (decide (ts.toNat ≠ 0)) (bytesToNat [t1, t0]) s.tick
    refine ⟨s.cmu.setSources (decide (ns.toNat ≠ 0)) (bytesToNat [n2, n1, n0]) (decide (ts.toNat ≠ 0))
        (bytesToNat [t1, t0]) s.tick, fun h => ?_, fun h hs => ?_, fun h hs => ?_, fun h => ?_, fun h hs => ?_, fun h hs => ?_,
      fun h => hidle ?_, fun h hs => hruns ?_ ?_, fun h hs => hstarts ?_ ?_, Compensation.setSources_values .., exec_setConditions _ _ _ _ _ _ _ _ _ _ rfl⟩
    · simp [Compensation.setSources_n, h, Compensation.setN_host]
    · simp [Compensation.setSources_n, h, Compensation.setN_handsOver hs]
    · simp [Compensation.setSources_n, h, Compensation.setN_stays hs]
    · simp [Compensation.setSources_t, h, Compensation.setT_host]
    · simp [Compensation.setSources_t, h, Compensation.setT_handsOver hs]
    · simp [Compensation.setSources_t, h, Compensation.setT_stays hs]
    · exact (Compensation.usesStation_eq_false_iff _).2 h
    · exact (Compensation.usesStation_iff _).2 h
    · exact (Compensation.usesStation_iff _).2 hs
    · exact (Compensation.usesStation_iff _).2 h
    · exact (Compensation.usesStation_eq_false_iff _).2 hs
  · refine congrArg Host.Outcome.next ?_
    rw [State.hostCommand_frame (n := 11) s 0x19 _ extra _ rfl (by decide), setPlausibilityBlock_eq]
    simp only [Compensation.windowExcludes_iff, ← State.writePlausibility_eq]
    refine congrArg (taken s) ?_
    split
    · exact s.answer_refused _ _
    · split
      · exact s.answer_refused _ _
      · exact State.answer_ok (State.writePlausibility_tick ..) _ _

end Sys2Proof.Proofs

namespace Sys2Proof.Machine

open Sys2Proof.Claims

/-! ## The conditions frame (R72) -/

theorem execConditionsFrame_idle {s : State} {chars : List CondChar}
    (h : ¬ frameHasEnded s.tick chars ∨ (s.cmu.frame ≠ [] ∧ s.cmu.frame ≠ chars)) :
    exec (.conditionsFrame chars) s = .next s := by
  refine congrArg Host.Outcome.next (if_neg ?_)
  simp only [Bool.and_eq_true, Bool.or_eq_true, List.isEmpty_iff, beq_iff_eq, frameEnded_iff]
  tauto

theorem execConditionsFrame_taken {s : State} {chars : List CondChar} (h : frameHasEnded s.tick chars)
    (hf : s.cmu.frame = [] ∨ s.cmu.frame = chars) : exec (.conditionsFrame chars) s =
      .next ((s.modCmu (fun x => { x with frame := [] })).takeConditions chars) := by
  refine congrArg Host.Outcome.next (if_pos ?_)
  simp only [Bool.and_eq_true, Bool.or_eq_true, List.isEmpty_iff, beq_iff_eq, frameEnded_iff]
  exact ⟨h, hf⟩

theorem exists_of_length_fourteen {l : List Byte} (h : l.length = 14) :
    ∃ b1 b2 b3 b4 b5 b6 b7 b8 b9 b10 b11 b12 b13 b14, l = [b1, b2, b3, b4, b5, b6, b7, b8, b9, b10, b11, b12, b13, b14] :=
  match l, h with
  | [_, _, _, _, _, _, _, _, _, _, _, _, _, _], _ => ⟨_, _, _, _, _, _, _, _, _, _, _, _, _, _, rfl⟩

/-- A frame parses just where it has 14 good characters with a matching CRC. -/
theorem parseConditions_eq_none_iff (chars : List CondChar) :
    parseConditions chars = none ↔ chars.length ≠ 14 ∨ (∃ c ∈ chars, c.stopOk = false) ∨
      crc8 (bytesToBits ((chars.take 13).map (fun c => c.byte))) ≠ ((chars.drop 13).map (fun c => c.byte)).headD 0 := by
  have stops : ¬ (chars.all (fun c => c.stopOk) = true) ↔ ∃ c ∈ chars, c.stopOk = false := by simp
  rw [← List.length_map (f := fun c : CondChar => c.byte), List.map_take, List.map_drop, ← stops]
  unfold parseConditions
  split
  · rename_i good
    split
    · rename_i bytes
      rw [bytes]
      simp [good]
    · rename_i other
      have length : (chars.map (fun c => c.byte)).length ≠ 14 := fun h => by
        obtain ⟨b1, b2, b3, b4, b5, b6, b7, b8, b9, b10, b11, b12, b13, b14, e⟩ := exists_of_length_fourteen h
        exact other _ _ _ _ _ _ _ _ _ _ _ _ _ _ e
      simp only [true_iff]
      exact .inl length
  · rename_i bad
    simp only [true_iff]
    exact .inr (.inl bad)

theorem parseConditions_fields {chars : List CondChar} {f : CondFields}
    {b1 b2 b3 b4 b5 b6 b7 b8 b9 b10 b11 b12 b13 b14 : Byte} (h : parseConditions chars = some f)
    (hb : chars.map (fun c => c.byte) = [b1, b2, b3, b4, b5, b6, b7, b8, b9, b10, b11, b12, b13, b14]) :
    f = {
      seq := b1, nOk := b2.getLsbD 7, present := BitVec.ofNat 4 b2.toNat, n := bytesToNat [b3, b4, b5]
      raw := ⟨bytesToNat [b6, b7], bytesToNat [b8, b9], bytesToNat [b10, b11], bytesToNat [b12, b13]⟩ } := by
  simp only [parseConditions, hb, Option.ite_none_right_eq_some, Option.some.injEq] at h
  exact h.2.2.symm

/-! ## What an accepted frame makes of the values (R73 to R75, R77, R78) -/

theorem Compensation.convertProbes_get (x : Compensation) (f : CondFields) (k : ProbeId) :
    (x.convertProbes f).get k = if f.present.getLsbD k.toNat = true then
      some { tk := (x.probes.get k).convert (f.raw.get k),
             included := decide ((x.tMin : Int) ≤ (x.probes.get k).convert (f.raw.get k)) &&
               decide ((x.probes.get k).convert (f.raw.get k) ≤ (x.tMax : Int)) }
      else none :=
  Four.get_mapIdx ..

theorem frameTemperature_none {r : Four (Option ProbeReading)} (h : includedReadings r = []) : frameTemperature r = none := by
  simp [frameTemperature, h]

theorem frameTemperature_mean {r : Four (Option ProbeReading)} (h : includedReadings r ≠ []) :
    frameTemperature r = some (roundDiv (includedReadings r).sum (includedReadings r).length) := by
  unfold frameTemperature
  split
  · contradiction
  · rfl

theorem Compensation.takeN_manual {x : Compensation} (h : x.nSource = .manual) (n : Option Nat) : x.takeN n = x := by
  simp [Compensation.takeN, h]

theorem Compensation.takeN_some {x : Compensation} (h : x.nSource ≠ .manual) (v : Nat) :
    x.takeN (some v) = { x with n := v, nSource := .station, heldN := false } := by
  cases hx : x.nSource
  · exact absurd hx h
  all_goals simp [Compensation.takeN, hx]

theorem Compensation.takeN_keeps {x : Compensation} (h : x.nSource = .awaiting) : x.takeN none = x := by
  simp [Compensation.takeN, h]

theorem Compensation.takeN_holds {x : Compensation} (h : x.nSource = .station) : x.takeN none = { x with heldN := true } := by
  simp [Compensation.takeN, h]

theorem Compensation.takeT_manual {x : Compensation} (h : x.tSource = .manual) (t : Option Int) : x.takeT t = x := by
  simp [Compensation.takeT, h]

theorem Compensation.takeT_some {x : Compensation} (h : x.tSource ≠ .manual) (v : Int) :
    x.takeT (some v) = { x with tS := v, tSource := .station, heldT := false, e := x.alpha * (v - 20000) } := by
  cases hx : x.tSource
  · exact absurd hx h
  all_goals simp [Compensation.takeT, Compensation.formE, thermalTerm, hx]

theorem Compensation.takeT_keeps {x : Compensation} (h : x.tSource = .awaiting) : x.takeT none = x := by
  simp [Compensation.takeT, h]

theorem Compensation.takeT_holds {x : Compensation} (h : x.tSource = .station) : x.takeT none = { x with heldT := true } := by
  simp [Compensation.takeT, h]

/-- A plausible refractivity is taken where the host has not set N. -/
theorem Compensation.takeN_plausible {x : Compensation} {f : CondFields} (h : x.nSource ≠ .manual)
    (hp : f.nOk = true ∧ x.nMin ≤ f.n ∧ f.n ≤ x.nMax) :
    x.takeN (x.plausibleN f) = { x with n := f.n, nSource := .station, heldN := false } := by
  rw [Compensation.plausibleN, if_pos hp, Compensation.takeN_some h]

/-- One that is not leaves N, and holds it where its source is the station. -/
theorem Compensation.takeN_implausible {x : Compensation} {f : CondFields} (h : x.nSource ≠ .manual)
    (hp : ¬ (f.nOk = true ∧ x.nMin ≤ f.n ∧ f.n ≤ x.nMax)) :
    (x.takeN (x.plausibleN f)).n = x.n ∧ (x.takeN (x.plausibleN f)).nSource = x.nSource ∧
      (x.nSource = .station → (x.takeN (x.plausibleN f)).heldN = true) ∧
      (x.nSource = .awaiting → (x.takeN (x.plausibleN f)).heldN = x.heldN) := by
  rw [Compensation.plausibleN, if_neg hp]
  cases hx : x.nSource with
  | manual => exact absurd hx h
  | awaiting => rw [Compensation.takeN_keeps hx]; simp [hx]
  | station => rw [Compensation.takeN_holds hx]; simp [hx]

/-- A frame with no included reading leaves T_S and E, and holds T_S where its source is the station. -/
theorem Compensation.takeT_unmeasured {x : Compensation} (h : x.tSource ≠ .manual) :
    (x.takeT none).tS = x.tS ∧ (x.takeT none).tSource = x.tSource ∧ (x.takeT none).e = x.e ∧
      (x.tSource = .station → (x.takeT none).heldT = true) ∧
      (x.tSource = .awaiting → (x.takeT none).heldT = x.heldT) := by
  cases hx : x.tSource with
  | manual => exact absurd hx h
  | awaiting => rw [Compensation.takeT_keeps hx]; simp [hx]
  | station => rw [Compensation.takeT_holds hx]; simp [hx]

/-- What a frame makes of N depends on what belongs to N. -/
theorem Compensation.takeN_congr {x y : Compensation} (n : Option Nat) (hs : y.nSource = x.nSource) (hn : y.n = x.n)
    (hh : y.heldN = x.heldN) : (y.takeN n).nSource = (x.takeN n).nSource ∧ (y.takeN n).n = (x.takeN n).n ∧
      (y.takeN n).heldN = (x.takeN n).heldN := by
  unfold Compensation.takeN
  rw [hs]
  split <;> simp [hs, hn, hh]

/-- What a frame makes of T_S depends on what belongs to T_S and on α. -/
theorem Compensation.takeT_congr {x y : Compensation} (t : Option Int) (hs : y.tSource = x.tSource) (ht : y.tS = x.tS)
    (hh : y.heldT = x.heldT) (he : y.e = x.e) (ha : y.alpha = x.alpha) :
    (y.takeT t).tSource = (x.takeT t).tSource ∧ (y.takeT t).tS = (x.takeT t).tS ∧ (y.takeT t).heldT = (x.takeT t).heldT ∧
      (y.takeT t).e = (x.takeT t).e := by
  unfold Compensation.takeT Compensation.formE
  rw [hs]
  split <;> simp [hs, ht, hh, he, ha]

/-- An accepted frame counted, with the staleness timer restarted where the station is the source of a quantity (R73, R78). -/
def Compensation.counted (x : Compensation) (f : CondFields) (tick : Tick) : Compensation :=
  { x with
    accepted := x.accepted + 1, lastSeq := some f.seq
    staleness := if x.nSource ≠ .manual ∨ x.tSource ≠ .manual then some tick else x.staleness
    stale := if x.nSource ≠ .manual ∨ x.tSource ≠ .manual then false else x.stale }

theorem Compensation.counted_eq (x : Compensation) (f : CondFields) (tick : Tick) :
    ({ x with accepted := x.accepted + 1, lastSeq := some f.seq } : Compensation).refresh tick = x.counted f tick := by
  unfold Compensation.refresh Compensation.counted
  simp only [Compensation.usesStation_iff]
  split <;> rfl

theorem Compensation.takeN_eq (x : Compensation) (n : Option Nat) : x.takeN n =
    { x with nSource := (x.takeN n).nSource, n := (x.takeN n).n, heldN := (x.takeN n).heldN } := by
  unfold Compensation.takeN
  split <;> rfl

theorem Compensation.takeT_eq (x : Compensation) (t : Option Int) : x.takeT t =
    { x with
      tSource := (x.takeT t).tSource, tS := (x.takeT t).tS, heldT := (x.takeT t).heldT, e := (x.takeT t).e } := by
  unfold Compensation.takeT
  split <;> rfl

/-- An accepted frame as a whole: N by its refractivity, T_S and E by its temperature. -/
theorem Compensation.takeAccepted_eq (x : Compensation) (f : CondFields) (tick : Tick) : x.takeAccepted f tick = { x with
    accepted := x.accepted + 1, lastSeq := some f.seq, readings := x.convertProbes f
    nSource := (x.takeN (x.plausibleN f)).nSource
    n := (x.takeN (x.plausibleN f)).n
    heldN := (x.takeN (x.plausibleN f)).heldN
    tSource := (x.takeT (frameTemperature (x.convertProbes f))).tSource
    tS := (x.takeT (frameTemperature (x.convertProbes f))).tS
    heldT := (x.takeT (frameTemperature (x.convertProbes f))).heldT
    e := (x.takeT (frameTemperature (x.convertProbes f))).e
    staleness := if x.nSource ≠ .manual ∨ x.tSource ≠ .manual then some tick else x.staleness
    stale := if x.nSource ≠ .manual ∨ x.tSource ≠ .manual then false else x.stale } := by
  obtain ⟨hns, hn, hnh⟩ := Compensation.takeN_congr (x := x) (y := x.counted f tick) (x.plausibleN f) rfl rfl rfl
  obtain ⟨hts, ht, hth, he⟩ := Compensation.takeT_congr (x := x)
    (y := { (x.counted f tick).takeN (x.plausibleN f) with readings := x.convertProbes f })
    (frameTemperature (x.convertProbes f)) (by rw [Compensation.takeN_eq]; rfl) (by rw [Compensation.takeN_eq]; rfl)
    (by rw [Compensation.takeN_eq]; rfl) (by rw [Compensation.takeN_eq]; rfl) (by rw [Compensation.takeN_eq]; rfl)
  unfold Compensation.takeAccepted
  dsimp only
  rw [Compensation.counted_eq, Compensation.takeT_eq, hts, ht, hth, he, Compensation.takeN_eq, hns, hn, hnh]
  rfl

theorem Compensation.takeAccepted_n (x : Compensation) (f : CondFields) (tick : Tick) :
    (x.takeAccepted f tick).n = (x.takeN (x.plausibleN f)).n ∧
    (x.takeAccepted f tick).nSource = (x.takeN (x.plausibleN f)).nSource ∧
    (x.takeAccepted f tick).heldN = (x.takeN (x.plausibleN f)).heldN := by
  rw [Compensation.takeAccepted_eq]
  exact ⟨rfl, rfl, rfl⟩

theorem Compensation.takeAccepted_t (x : Compensation) (f : CondFields) (tick : Tick) :
    (x.takeAccepted f tick).tS = (x.takeT (frameTemperature (x.convertProbes f))).tS ∧
    (x.takeAccepted f tick).tSource = (x.takeT (frameTemperature (x.convertProbes f))).tSource ∧
    (x.takeAccepted f tick).heldT = (x.takeT (frameTemperature (x.convertProbes f))).heldT ∧
    (x.takeAccepted f tick).e = (x.takeT (frameTemperature (x.convertProbes f))).e := by
  rw [Compensation.takeAccepted_eq]
  exact ⟨rfl, rfl, rfl, rfl⟩

section

variable {x y : Compensation} {f : CondFields} {tick : Tick}

theorem Compensation.takeAccepted_readings (hy : y = x.takeAccepted f tick) : y.readings = x.convertProbes f := by
  rw [hy, Compensation.takeAccepted_eq]

theorem Compensation.takeAccepted_manualN (hy : y = x.takeAccepted f tick) (h : x.nSource = .manual) :
    y.n = x.n ∧ y.nSource = .manual ∧ y.heldN = x.heldN := by
  simp only [hy, Compensation.takeAccepted_n, Compensation.takeN_manual h, h, and_self]

theorem Compensation.takeAccepted_plausible (hy : y = x.takeAccepted f tick) (h : x.nSource ≠ .manual)
    (hp : f.nOk = true ∧ x.nMin ≤ f.n ∧ f.n ≤ x.nMax) : y.n = f.n ∧ y.nSource = .station ∧ y.heldN = false := by
  simp only [hy, Compensation.takeAccepted_n, Compensation.takeN_plausible h hp, and_self]

theorem Compensation.takeAccepted_implausible (hy : y = x.takeAccepted f tick) (h : x.nSource ≠ .manual)
    (hp : ¬ (f.nOk = true ∧ x.nMin ≤ f.n ∧ f.n ≤ x.nMax)) :
    y.n = x.n ∧ y.nSource = x.nSource ∧ (x.nSource = .station → y.heldN = true) ∧
      (x.nSource = .awaiting → y.heldN = x.heldN) := by
  simp only [hy, Compensation.takeAccepted_n]
  exact Compensation.takeN_implausible h hp

theorem Compensation.takeAccepted_manualT (hy : y = x.takeAccepted f tick) (h : x.tSource = .manual) :
    y.tS = x.tS ∧ y.tSource = .manual ∧ y.heldT = x.heldT ∧ y.e = x.e := by
  simp only [hy, Compensation.takeAccepted_t, Compensation.takeT_manual h, h, and_self]

theorem Compensation.takeAccepted_mean (hy : y = x.takeAccepted f tick) (h : x.tSource ≠ .manual)
    (hi : includedReadings y.readings ≠ []) :
    y.tS = roundDiv (includedReadings y.readings).sum (includedReadings y.readings).length ∧ y.tSource = .station ∧
      y.heldT = false ∧ y.e = x.alpha * (y.tS - 20000) := by
  rw [Compensation.takeAccepted_readings hy] at hi ⊢
  simp only [hy, Compensation.takeAccepted_t, frameTemperature_mean hi, Compensation.takeT_some h, and_self]

theorem Compensation.takeAccepted_unmeasured (hy : y = x.takeAccepted f tick) (h : x.tSource ≠ .manual)
    (hi : includedReadings y.readings = []) :
    y.tS = x.tS ∧ y.tSource = x.tSource ∧ y.e = x.e ∧ (x.tSource = .station → y.heldT = true) ∧
      (x.tSource = .awaiting → y.heldT = x.heldT) := by
  rw [Compensation.takeAccepted_readings hy] at hi
  simp only [hy, Compensation.takeAccepted_t, frameTemperature_none hi]
  exact Compensation.takeT_unmeasured h

theorem Compensation.takeAccepted_rest (hy : y = x.takeAccepted f tick) : y = { x with
    accepted := x.accepted + 1, lastSeq := some f.seq, readings := y.readings
    n := y.n, nSource := y.nSource, heldN := y.heldN, tS := y.tS, tSource := y.tSource, heldT := y.heldT, e := y.e
    staleness := if x.nSource ≠ .manual ∨ x.tSource ≠ .manual then some tick else x.staleness
    stale := if x.nSource ≠ .manual ∨ x.tSource ≠ .manual then false else x.stale } := by
  rw [hy, Compensation.takeAccepted_eq]

end

theorem State.acceptConditions_eq (s : State) (f : CondFields) (y : Compensation) (hy : y = s.cmu.takeAccepted f s.tick) :
    s.acceptConditions f = heldRaised { s with cmu := (updated y s.tick
      (if y.n ≠ s.cmu.n ∨ y.e ≠ s.cmu.e then 1 else 0)) } s.cmu y := by
  have taken : s.modCmu (fun x => x.takeAccepted f s.tick) = { s with cmu := y } := by rw [hy]; rfl
  unfold State.acceptConditions
  simp only [taken, State.raiseHeld_eq, State.kUpdateIf_eq, heldRaised_tick, heldRaised_modCmu, Bool.or_eq_true, bne_iff_ne]
  rfl

end Sys2Proof.Machine

namespace Sys2Proof.Proofs

open Sys2Proof.Machine Sys2Proof.Claims

/-- Settles O27: by what the characters parse to; an accepted frame takes each quantity by its source. -/
theorem conditionsFrames : Obligations.ConditionsFrames := by
  refine ⟨fun s byte stopOk => rfl, fun s chars h => execConditionsFrame_idle h, fun s chars hended hframe => ?_⟩
  rw [execConditionsFrame_taken hended hframe]
  refine ⟨fun b1 b2 b3 b4 b5 b6 b7 b8 b9 b10 b11 b12 b13 b14 f hf hb => ?_, parseConditions_eq_none_iff chars,
    fun hf => ?_, fun f hf hseq => ?_, fun f hf hseq => ?_⟩
  · rw [parseConditions_fields hf hb]
    exact ⟨rfl, rfl, quadSetOf_has b2, rfl, rfl, rfl, rfl, rfl⟩
  · simp only [State.takeConditions, hf]
    rfl
  · simp only [State.takeConditions, hf]
    exact congrArg Host.Outcome.next (if_pos hseq)
  · obtain ⟨y, hy⟩ : ∃ y, y = ({ s.cmu with frame := [] } : Compensation).takeAccepted f s.tick := ⟨_, rfl⟩
    refine ⟨y, fun k => ?_, (Compensation.takeAccepted_manualN hy :), (Compensation.takeAccepted_plausible hy :),
      (Compensation.takeAccepted_implausible hy :), (Compensation.takeAccepted_manualT hy :),
      (Compensation.takeAccepted_mean hy :), (Compensation.takeAccepted_unmeasured hy :),
      (Compensation.takeAccepted_rest hy :), ?_⟩
    · rw [Compensation.takeAccepted_readings hy]
      exact Compensation.convertProbes_get _ f k
    · simp only [State.takeConditions, hf]
      refine congrArg Host.Outcome.next ((if_neg hseq).trans ?_)
      exact State.acceptConditions_eq (s.modCmu (fun x => { x with frame := [] })) f y hy

end Sys2Proof.Proofs

namespace Sys2Proof.Machine

open Sys2Proof.Claims

/-! ## Flags raised and nothing else of the host port (R167, R169) -/

/-- The host port of `t` is that of `s` with the flags of `p` raised, and ATTN follows. -/
structure State.Raises (s t : State) (p : Nat → Prop) : Prop where
  host : t.hpt = { s.hpt with flags := t.hpt.flags, attn := t.hpt.attn }
  flags : ∀ i, i < 27 → (t.hpt.flags.getLsbD i = true ↔ s.hpt.flags.getLsbD i = true ∨ p i)
  attn : s.hpt.attn = (s.hpt.flags &&& s.hpt.mask != 0) → t.hpt.attn = (t.hpt.flags &&& s.hpt.mask != 0)

section

variable {s t u : State} {p q : Nat → Prop}

theorem State.Raises.nothing (h : t.hpt = s.hpt) (hp : ∀ i, ¬ p i) : s.Raises t p where
  host := by rw [h]
  flags i _ := by simp [h, hp]
  attn h' := by rw [h]; exact h'

theorem State.raise_raises (s : State) (f : Flag) (hp : ∀ i, p i ↔ i = f.index) : s.Raises (s.raise f) p where
  host := rfl
  flags i _ := by rw [State.raise_flags, hp]
  attn _ := rfl

theorem State.raiseIf_raises (s : State) (b : Bool) (f : Flag) : s.Raises (s.raiseIf b f) (fun i => i = f.index ∧ b = true) := by
  cases b
  · exact .nothing rfl (by simp)
  · exact s.raise_raises f (by simp)

theorem State.Raises.trans (h : s.Raises t p) (k : t.Raises u q) : s.Raises u (fun i => p i ∨ q i) where
  host := by rw [k.host, h.host]
  flags i hi := by rw [k.flags i hi, h.flags i hi, or_assoc]
  attn hs := by
    have mask : t.hpt.mask = s.hpt.mask := by rw [h.host]
    rw [← mask]
    exact k.attn (mask ▸ h.attn hs)

theorem State.Raises.mono (h : s.Raises t p) (e : ∀ i, p i ↔ q i) : s.Raises t q where
  host := h.host
  flags i hi := by rw [h.flags i hi, e]
  attn := h.attn

theorem State.Raises.congr {s' t' : State} (h : s.Raises t p) (hs : s'.hpt = s.hpt) (ht : t'.hpt = t.hpt) :
    s'.Raises t' p where
  host := by rw [hs, ht]; exact h.host
  flags i hi := by rw [hs, ht]; exact h.flags i hi
  attn := by rw [hs, ht]; exact h.attn

end

/-! ## The Servo Port at a frame event (R106, R107, R114) -/

theorem ServoPort.activateLayout_withRead (x : ServoPort) (r : ReadPhase) :
    ({ x with read := r } : ServoPort).activateLayout = { x.activateLayout with read := r } := by
  obtain ⟨layout, staged, gen, snapshot, delivered, read, holds⟩ := x
  cases staged <;> rfl

theorem State.abandonRead_svp (s : State) : s.abandonRead.svp = { s.svp with read := s.svp.read.afterReset } := by
  unfold State.abandonRead
  cases h : s.svp.read with
  | reading r => rfl
  | idle => simp [ReadPhase.afterReset, ← h]
  | spent => simp [ReadPhase.afterReset, ← h]

theorem State.abandonRead_raises (s : State) : s.Raises s.abandonRead (fun i => i = 25 ∧ ∃ r, s.svp.read = .reading r) := by
  unfold State.abandonRead
  cases h : s.svp.read with
  | reading r => exact (State.raise_raises _ .servoOverrun (by simp [Flag.index])).congr rfl rfl
  | idle => exact .nothing rfl (by simp)
  | spent => exact .nothing rfl (by simp)

theorem State.servoFrameEvent_snapshot (s : State) (kind : FrameKind) : (s.servoFrameEvent kind).svp.snapshot =
    some (snapshotOf { s with svp := s.svp.activateLayout } kind s.cmu) := by
  unfold State.servoFrameEvent State.abandonRead
  cases h : s.svp.read with
  | reading r =>
    simp only [State.takeSnapshot, State.clearReadMarks_frame, State.modSvp, ServoPort.activateLayout_withRead, State.raise,
      State.withFlags]
    rfl
  | idle => rfl
  | spent => rfl

/-- The port but for the snapshot: the layout of the event is active, and a read in progress is abandoned. -/
theorem State.servoFrameEvent_svp (s : State) (kind : FrameKind) : (s.servoFrameEvent kind).svp =
    { s.svp.activateLayout with
      snapshot := (s.servoFrameEvent kind).svp.snapshot, delivered := false, read := s.svp.read.afterReset } := by
  have port : (s.servoFrameEvent kind).svp =
      { s.abandonRead.svp.activateLayout with snapshot := (s.servoFrameEvent kind).svp.snapshot, delivered := false } := rfl
  rw [State.abandonRead_svp, ServoPort.activateLayout_withRead] at port
  exact port

theorem State.servoFrameEvent_phu (s : State) (kind : FrameKind) (a : Axis) : (s.servoFrameEvent kind).phu.get a =
    if (s.svp.activateLayout.layout.any (fun d => d.source.dependsOn a)) = true then
      { s.phu.get a with saturated := false, bridged := false } else s.phu.get a := by
  have units : s.abandonRead.phu = s.phu := by simp
  have marks : (s.servoFrameEvent kind).phu.get a =
      if layoutReads s.abandonRead.svp.activateLayout.layout a = true then
        { s.abandonRead.phu.get a with saturated := false, bridged := false } else s.abandonRead.phu.get a :=
    Four.get_mapIdx ..
  rw [State.abandonRead_svp, ServoPort.activateLayout_withRead, units] at marks
  exact marks

theorem State.servoFrameEvent_raises (s : State) (kind : FrameKind) :
    s.Raises (s.servoFrameEvent kind) (fun i => i = 25 ∧ ∃ r, s.svp.read = .reading r) :=
  s.abandonRead_raises.congr rfl (by simp [State.servoFrameEvent])

/-! ## The K set at a frame event (R83) -/

theorem State.activateK_none {s : State} (h : s.cmu.staged = none) : s.activateK = s := by
  simp only [State.activateK, h]

theorem State.activateK_some {s : State} {k : KSet} (h : s.cmu.staged = some k) : s.activateK =
    (s.modCmu (fun x => { x with active := k, compGen := x.compGen + 1, staged := none })).raise .condApplied := by
  simp only [State.activateK, h]

theorem State.activateK_cmu_congr {s t : State} (h : t.cmu = s.cmu) : t.activateK.cmu = s.activateK.cmu := by
  cases hs : s.cmu.staged with
  | none => rw [State.activateK_none hs, State.activateK_none (h ▸ hs), h]
  | some k => rw [State.activateK_some hs, State.activateK_some (h ▸ hs)]; simp [h]

theorem State.activateK_raises (s : State) : s.Raises s.activateK (fun i => i = 20 ∧ s.cmu.staged ≠ none) := by
  cases h : s.cmu.staged with
  | none => exact .nothing (by rw [State.activateK_none h]) (by simp)
  | some k =>
    rw [State.activateK_some h]
    exact (State.raise_raises _ .condApplied (by simp [Flag.index])).congr rfl rfl

theorem snapshotOf_activateK (s : State) (kind : FrameKind) (x : ServoPort) (k : Compensation) :
    snapshotOf { s.activateK with svp := x } kind k = snapshotOf { s with svp := x } kind k := by
  unfold State.activateK
  split <;> rfl

section

variable (s : State) (kind : FrameKind)

/-- The two orders of a frame event, where one set is staged (R83, log entry 3). -/
theorem State.activateAndSnapshot_cases : s.activateAndSnapshot kind = (s.servoFrameEvent kind).activateK ∨
    s.activateAndSnapshot kind = s.activateK.servoFrameEvent kind := by
  unfold State.activateAndSnapshot
  split
  · exact .inl rfl
  · exact .inr rfl

theorem State.activateAndSnapshot_cmu : (s.activateAndSnapshot kind).cmu = s.activateK.cmu := by
  obtain e | e := s.activateAndSnapshot_cases kind
  · rw [e]
    exact State.activateK_cmu_congr (by simp)
  · rw [e]
    simp

theorem State.activateAndSnapshot_snapshot :
    (s.activateAndSnapshot kind).svp.snapshot = some (snapshotOf { s with svp := s.svp.activateLayout } kind s.cmu) ∨
    (s.activateAndSnapshot kind).svp.snapshot =
      some (snapshotOf { s with svp := s.svp.activateLayout } kind s.activateK.cmu) := by
  obtain e | e := s.activateAndSnapshot_cases kind
  · left
    rw [e, ← s.servoFrameEvent_snapshot]
    simp
  · right
    have port : s.activateK.svp = s.svp := by simp
    rw [e, State.servoFrameEvent_snapshot, snapshotOf_activateK, port]

theorem State.activateAndSnapshot_svp : (s.activateAndSnapshot kind).svp =
    { s.svp.activateLayout with
      snapshot := (s.activateAndSnapshot kind).svp.snapshot, delivered := false, read := s.svp.read.afterReset } := by
  obtain e | e := s.activateAndSnapshot_cases kind
  · have port : (s.servoFrameEvent kind).activateK.svp = (s.servoFrameEvent kind).svp := by simp
    rw [e, port]
    exact s.servoFrameEvent_svp kind
  · have port : s.activateK.svp = s.svp := by simp
    rw [e, ← port]
    exact s.activateK.servoFrameEvent_svp kind

theorem State.activateAndSnapshot_phu (a : Axis) : (s.activateAndSnapshot kind).phu.get a =
    if (s.svp.activateLayout.layout.any (fun d => d.source.dependsOn a)) = true then
      { s.phu.get a with saturated := false, bridged := false } else s.phu.get a := by
  obtain e | e := s.activateAndSnapshot_cases kind
  · have units : (s.servoFrameEvent kind).activateK.phu = (s.servoFrameEvent kind).phu := by simp
    rw [e, units, State.servoFrameEvent_phu]
  · have units : s.activateK.phu = s.phu := by simp
    have port : s.activateK.svp = s.svp := by simp
    rw [e, State.servoFrameEvent_phu, units, port]

theorem State.activateAndSnapshot_raises : s.Raises (s.activateAndSnapshot kind)
    (fun i => (i = 25 ∧ ∃ r, s.svp.read = .reading r) ∨ (i = 20 ∧ s.cmu.staged ≠ none)) := by
  obtain e | e := s.activateAndSnapshot_cases kind
  · have units : (s.servoFrameEvent kind).cmu = s.cmu := by simp
    rw [e, ← units]
    exact (s.servoFrameEvent_raises kind).trans (State.activateK_raises _)
  · have port : s.activateK.svp = s.svp := by simp
    rw [e, ← port]
    exact (s.activateK_raises.trans (s.activateK.servoFrameEvent_raises kind)).mono (fun i => Or.comm)

/-! ## The sample-count check and the notify event (R98, R100) -/

theorem SampleCheck.failsNow_iff (a : Axis) :
    (s.fru.checks.get a).failsNow ((s.slr.get a).link == .locked) = true ↔ checkFails s a := by
  simp [SampleCheck.failsNow, checkFails, and_assoc]

theorem State.checkAxis_fru (a : Axis) : (s.checkAxis a).fru = { s.fru with
    checks := s.fru.checks.set a ((s.fru.checks.get a).atEvent ((s.slr.get a).link == .locked)) } := by
  simp [State.checkAxis]

theorem State.checkAxis_raises (a : Axis) : s.Raises (s.checkAxis a) (fun i => i = 21 + a.toNat ∧ checkFails s a) := by
  have failed := (State.raiseIf_raises (s.modFru (fun x => { x with
    checks := x.checks.set a ((x.checks.get a).atEvent ((s.slr.get a).link == .locked)) }))
    ((s.fru.checks.get a).failsNow ((s.slr.get a).link == .locked)) (.sampleCount a)).mono
    (q := fun i => i = 21 + a.toNat ∧ checkFails s a) (fun i => by rw [SampleCheck.failsNow_iff]; rfl)
  exact failed.congr rfl rfl

theorem checkFails_checkAxis {a b : Axis} (h : a ≠ b) : checkFails (s.checkAxis b) a ↔ checkFails s a := by
  have links : (s.checkAxis b).slr = s.slr := by simp
  unfold checkFails
  rw [State.checkAxis_fru, links]
  simp only [Four.get_set_ne _ _ h]

theorem State.checkSamples_fru : s.checkSamples.fru = { s.fru with
    checks := s.fru.checks.mapIdx (fun a k => k.atEvent ((s.slr.get a).link == .locked)) } := by
  simp only [State.checkSamples, State.checkAxis_fru, State.checkAxis_frame]
  rfl

theorem State.checkSamples_raises : s.Raises s.checkSamples (fun i => ∃ a : Axis, i = 21 + a.toNat ∧ checkFails s a) := by
  have each := (((s.checkAxis_raises .q0).trans (State.checkAxis_raises _ .q1)).trans (State.checkAxis_raises _ .q2)).trans
    (State.checkAxis_raises _ .q3)
  refine each.mono fun i => ?_
  simp only [checkFails_checkAxis _ (by decide : Quad.q1 ≠ .q0), checkFails_checkAxis _ (by decide : Quad.q2 ≠ .q1),
    checkFails_checkAxis _ (by decide : Quad.q2 ≠ .q0), checkFails_checkAxis _ (by decide : Quad.q3 ≠ .q2),
    checkFails_checkAxis _ (by decide : Quad.q3 ≠ .q1), checkFails_checkAxis _ (by decide : Quad.q3 ≠ .q0)]
  constructor
  · rintro (((h | h) | h) | h)
    exacts [⟨_, h⟩, ⟨_, h⟩, ⟨_, h⟩, ⟨_, h⟩]
  · rintro ⟨a, h⟩
    cases a
    exacts [.inl (.inl (.inl h)), .inl (.inl (.inr h)), .inl (.inr h), .inr h]

theorem State.notify_fru : s.notify.fru = { s.fru with notifyCount :=
    if s.fru.notifyN = 0 then s.fru.notifyCount
    else if s.fru.notifyN ≤ s.fru.notifyCount + 1 then 0 else s.fru.notifyCount + 1 } := by
  unfold State.notify
  split
  · rfl
  · split <;> rfl

theorem State.notify_raises : s.Raises s.notify
    (fun i => i = 15 ∧ s.fru.notifyN ≠ 0 ∧ s.fru.notifyN ≤ s.fru.notifyCount + 1) := by
  unfold State.notify
  split
  · rename_i h
    exact .nothing rfl (by simp [h])
  · rename_i h
    split
    · rename_i hn
      exact (State.raise_raises _ .frameTick (by simp [Flag.index, h, hn])).congr rfl rfl
    · rename_i hn
      exact .nothing rfl (by simp [hn])

end

/-! ## The frame event as a whole (R89, R90) -/

/-- The state with the number of the frame advanced and a staged layout active (R90, R106). -/
def State.laidOut (s : State) : State :=
  { s with fru := { s.fru with frameNo := s.fru.frameNo + 1 }, svp := s.svp.activateLayout }

/-- The state with the number of the frame advanced (R90). -/
def State.numbered (s : State) : State := { s with fru := { s.fru with frameNo := s.fru.frameNo + 1 } }

section

variable (s : State) (kind : FrameKind)

/-- The checks and the notify event follow the K set and the snapshot; an open choice is consumed. -/
theorem State.frameEvent_eq : s.frameEvent kind =
    ({ s.numbered.activateAndSnapshot kind with choices := s.choices + 1 } : State).checkSamples.notify := by
  have choices : (s.numbered.activateAndSnapshot kind).choices = s.choices := by simp [State.numbered]
  rw [← choices]
  rfl

theorem State.frameEvent_cmu : (s.frameEvent kind).cmu = s.activateK.cmu := by
  have event : (s.frameEvent kind).cmu = (s.numbered.activateAndSnapshot kind).cmu := by simp [State.frameEvent_eq]
  rw [event, State.activateAndSnapshot_cmu]
  exact State.activateK_cmu_congr rfl

theorem State.frameEvent_svp : (s.frameEvent kind).svp = (s.numbered.activateAndSnapshot kind).svp := by
  simp [State.frameEvent_eq]

theorem State.frameEvent_phu : (s.frameEvent kind).phu = (s.numbered.activateAndSnapshot kind).phu := by
  simp [State.frameEvent_eq]

theorem State.frameEvent_fru : (s.frameEvent kind).fru = { s.fru with
    frameNo := s.fru.frameNo + 1
    checks := s.fru.checks.mapIdx (fun a k => k.atEvent ((s.slr.get a).link == .locked))
    notifyCount :=
      if s.fru.notifyN = 0 then s.fru.notifyCount
      else if s.fru.notifyN ≤ s.fru.notifyCount + 1 then 0 else s.fru.notifyCount + 1 } := by
  simp only [State.frameEvent_eq, State.notify_fru, State.checkSamples_fru, State.activateAndSnapshot_frame]
  rfl

theorem State.frameEvent_check (a : Axis) : (s.frameEvent kind).fru.checks.get a =
    (s.fru.checks.get a).atEvent ((s.slr.get a).link == .locked) := by
  rw [State.frameEvent_fru]
  exact Four.get_mapIdx ..

theorem State.frameEvent_raises : s.Raises (s.frameEvent kind) (fun i =>
    (i = 25 ∧ ∃ r, s.svp.read = .reading r) ∨ (i = 20 ∧ s.cmu.staged ≠ none) ∨
    (∃ a : Axis, i = 21 + a.toNat ∧ checkFails s a) ∨
    (i = 15 ∧ s.fru.notifyN ≠ 0 ∧ s.fru.notifyN ≤ s.fru.notifyCount + 1)) := by
  obtain ⟨m, hm⟩ : ∃ m : State, m = { s.numbered.activateAndSnapshot kind with choices := s.choices + 1 } := ⟨_, rfl⟩
  have event : s.Raises m _ := (s.numbered.activateAndSnapshot_raises kind).congr rfl (by rw [hm])
  have frames : m.fru = s.numbered.fru := by simp [hm]
  have links : m.slr = s.slr := by simp [hm, State.numbered]
  have checked := m.checkSamples_raises
  have notified := m.checkSamples.notify_raises
  rw [State.checkSamples_fru, frames] at notified
  rw [State.frameEvent_eq, ← hm]
  refine ((event.trans checked).trans notified).mono fun i => ?_
  have fails (a : Axis) : checkFails m a ↔ checkFails s a := by
    unfold checkFails
    rw [frames, links]
    rfl
  simp only [fails]
  rw [or_assoc, or_assoc]
  rfl

/-- What a frame event makes of a state. -/
theorem State.frameEvent_done : FrameEventDone s s.laidOut (s.frameEvent kind) kind where
  base := rfl
  noStaged h := by rw [State.frameEvent_cmu, State.activateK_none h]
  activated k h := by rw [State.frameEvent_cmu, State.activateK_some h]; rfl
  snapshot := by
    rw [State.frameEvent_svp, State.frameEvent_cmu, ← State.activateK_cmu_congr (s := s) (t := s.numbered) rfl]
    exact s.numbered.activateAndSnapshot_snapshot kind
  port := by
    have read : (s.numbered.activateAndSnapshot kind).svp.read = s.svp.read.afterReset := by
      rw [State.activateAndSnapshot_svp]
      rfl
    rw [State.frameEvent_svp, read]
    exact s.numbered.activateAndSnapshot_svp kind
  abandoned := by
    rintro ⟨bits, h⟩
    rw [State.frameEvent_svp, State.activateAndSnapshot_svp]
    exact (congrArg ReadPhase.afterReset h : _)
  noRead h := by
    rw [State.frameEvent_svp, State.activateAndSnapshot_svp]
    have stays : s.svp.read.afterReset = s.svp.read := by
      cases hr : s.svp.read with
      | reading r => exact absurd ⟨r, hr⟩ h
      | idle => rfl
      | spent => rfl
    exact stays
  marks a := by
    rw [State.frameEvent_phu]
    exact s.numbered.activateAndSnapshot_phu kind a
  checks a := by
    rw [State.frameEvent_check]
    simp only [SampleCheck.atEvent, beq_eq_decide, bne, decide_not]
  failed a := by
    rw [State.frameEvent_check]
    exact SampleCheck.failsNow_iff s a
  frameUnit := by
    rw [State.frameEvent_fru]
    rfl
  notify := by rw [State.frameEvent_fru]
  flags := (s.frameEvent_raises kind).flags
  host := (s.frameEvent_raises kind).host
  attn := (s.frameEvent_raises kind).attn
  others := by simp

end

theorem State.syncRise_internalOnly {s : State} (h : s.fru.mode = .internalOnly) : s.syncRise = s := by
  simp only [State.syncRise, h]

theorem State.syncRise_external {s : State} (hm : s.fru.mode = .externalWithFallback) (hs : s.fru.source = .external) :
    s.syncRise = ({ s with fru := { s.fru with watch := some s.tick } } : State).frameEvent .sync := by
  unfold State.syncRise
  split
  · rename_i h
    exact absurd (hm.symm.trans h) (by decide)
  · rfl
  · rename_i h
    exact absurd (hs.symm.trans h) (by decide)

theorem State.syncRise_internal {s : State} (hm : s.fru.mode = .externalWithFallback) (hs : s.fru.source = .internal) :
    s.syncRise = ({ raised s 17 with fru := { s.fru with
      source := .external, timer := none, watch := some s.tick } } : State).frameEvent .sync := by
  unfold State.syncRise
  split
  · rename_i h
    exact absurd (hm.symm.trans h) (by decide)
  · rename_i h
    exact absurd (hs.symm.trans h) (by decide)
  · rfl

end Sys2Proof.Machine

namespace Sys2Proof.Proofs

open Sys2Proof.Machine Sys2Proof.Claims

/-- Settles O31: each edge and each expiry prepares the timers of its case and makes the one frame event. -/
theorem frameEvents : Obligations.FrameEvents := by
  refine fun s => ⟨fun hm => ?_, fun hm hs => ⟨_, _, ?_, State.frameEvent_done _ _⟩,
    fun hm hs => ⟨_, _, ?_, State.frameEvent_done _ _⟩, fun h => ?_, fun h => ⟨_, _, ?_, State.frameEvent_done _ _⟩⟩
  all_goals refine congrArg Host.Outcome.next ?_
  · exact State.syncRise_internalOnly hm
  · exact State.syncRise_external hm hs
  · exact State.syncRise_internal hm hs
  · exact if_neg (by rw [State.frameTimerDue_eq, h]; decide)
  · exact if_pos ((State.frameTimerDue_eq s).trans h)

end Sys2Proof.Proofs

namespace Sys2Proof.Machine

/-! ## The law of the Frame Unit, change by change (R91 to R101) -/

namespace FrameUnit.Ok

variable {x : FrameUnit} (h : x.Ok)
include h

/-- A frame timer that runs has the source INTERNAL (R91, R92). -/
theorem internal_of_timer {start : Tick} (ht : x.timer = some start) : x.source = .internal := by
  cases hs : x.source with
  | internal => rfl
  | external =>
    obtain ⟨-, -, stopped⟩ := h.external hs
    rw [stopped] at ht
    cases ht

/-- SYNC lost, or Internal-Only entered: the source is INTERNAL and the frame timer alone runs (R92, R96). -/
theorem toInternal (now : Tick) : ({ x with source := .internal, watch := none, timer := some now } : FrameUnit).Ok :=
  { h with external := nofun, internal := fun _ => ⟨rfl, rfl⟩ }

/-- An edge of SYNC in External-with-Fallback: the source is EXTERNAL and the watch timer alone runs (R91, R94). -/
theorem toExternal (hm : x.mode = .externalWithFallback) (now : Tick) :
    ({ x with source := .external, watch := some now, timer := none } : FrameUnit).Ok :=
  { h with external := fun _ => ⟨hm, rfl, rfl⟩, internal := nofun }

/-- A frame timer that runs starts anew (R93). -/
theorem restartTimer {start : Tick} (ht : x.timer = some start) (now : Tick) :
    ({ x with timer := some now } : FrameUnit).Ok :=
  { h with
    external := fun hs => absurd (hs.symm.trans (h.internal_of_timer ht)) (by decide)
    internal := fun hs => ⟨(h.internal hs).1, rfl⟩ }

/-- A mode and a period that leave the source as it is (R96). -/
theorem setFrame {mode : FrameMode} {period : Nat} (hp : 20 ≤ period ∧ period ≤ 10000)
    (hm : x.source = .external → mode = .externalWithFallback) :
    ({ x with mode := mode, period := period } : FrameUnit).Ok :=
  { h with
    external := fun hs => ⟨hm hs, (h.external hs).2⟩
    period := hp }

/-- The checks of the axes in their ranges (R97 to R99). -/
theorem withCheck (a : Axis) {k : SampleCheck} (hk : k.tally ≤ 16777215 ∧ k.expect ≤ 65535 ∧ k.tol ≤ 255) :
    ({ x with checks := x.checks.set a k } : FrameUnit).Ok :=
  { h with
    checks := fun b => by
      rw [Four.get_set]
      split
      · exact hk
      · exact h.checks b }

/-- The changes of a frame event: its number, the checks, and the notify counter, which starts again at NOTIFY_N (R90, R98,
R100). -/
theorem atFrameEvent (locked : Axis → Bool) : ({ x with
    frameNo := x.frameNo + 1
    checks := x.checks.mapIdx (fun a k => k.atEvent (locked a))
    notifyCount := if x.notifyN = 0 then x.notifyCount else if x.notifyN ≤ x.notifyCount + 1 then 0 else x.notifyCount + 1 }
      : FrameUnit).Ok :=
  { h with
    notify := by
      obtain ⟨top, off, below⟩ := h.notify
      refine ⟨top, fun hn => ?_, fun hn => ?_⟩
      · exact (if_pos hn).trans (off hn)
      · dsimp only at hn ⊢
        rw [if_neg hn]
        split <;> omega
    checks := fun a => by
      rw [Four.get_mapIdx]
      exact ⟨Nat.zero_le _, (h.checks a).2⟩ }

end FrameUnit.Ok

/-! ## The law of the Frame Unit in its operations (R89 to R101) -/

theorem State.frameEvent_fruOk {s : State} (h : s.fru.Ok) (kind : FrameKind) : (s.frameEvent kind).fru.Ok := by
  rw [State.frameEvent_fru]
  exact h.atFrameEvent _

theorem State.loseSync_fruOk {s : State} (h : s.fru.Ok) : s.loseSync.fru.Ok := h.toInternal s.tick

theorem State.frameTimer_of_due {s : State} (hd : s.frameTimerDue = true) : ∃ start, s.fru.timer = some start := by
  rw [State.frameTimerDue] at hd
  cases ht : s.fru.timer with
  | some start => exact ⟨start, rfl⟩
  | none =>
    rw [ht] at hd
    cases hd

theorem State.timerEvent_fruOk {s : State} (h : s.fru.Ok) (hd : s.frameTimerDue = true) : s.timerEvent.fru.Ok := by
  obtain ⟨start, running⟩ := State.frameTimer_of_due hd
  exact State.frameEvent_fruOk (s := s.modFru (fun x => { x with timer := some s.tick })) (h.restartTimer running s.tick) _

theorem State.syncRise_fruOk {s : State} (h : s.fru.Ok) : s.syncRise.fru.Ok := by
  cases hm : s.fru.mode with
  | internalOnly => rwa [State.syncRise_internalOnly hm]
  | externalWithFallback =>
    cases hs : s.fru.source with
    | internal =>
      rw [State.syncRise_internal hm hs]
      exact State.frameEvent_fruOk (h.toExternal hm s.tick) _
    | external =>
      obtain ⟨-, -, stopped⟩ := h.external hs
      have restarted := h.toExternal hm s.tick
      rw [← hs, ← stopped] at restarted
      rw [State.syncRise_external hm hs]
      exact State.frameEvent_fruOk restarted _

theorem State.judgeFrameTimers_fruOk {s : State} (h : s.fru.Ok) (changed : Bool) : (s.judgeFrameTimers changed).fru.Ok := by
  unfold State.judgeFrameTimers
  split
  · exact State.loseSync_fruOk h
  · split
    · rename_i hd
      exact State.timerEvent_fruOk h (Bool.and_eq_true_iff.mp hd).2
    · exact h

/-- Internal-Only mode leaves no unit in EXTERNAL, and a period in its range leaves the timers to be judged (R96). -/
theorem State.applyFrame_fruOk {s : State} (h : s.fru.Ok) (mode : FrameMode) {period : Nat}
    (hp : 20 ≤ period ∧ period ≤ 10000) : (s.applyFrame mode period).fru.Ok := by
  have written (hm : s.fru.source = .external → mode = .externalWithFallback) :
      (s.modFru (fun x => { x with mode := mode, period := period })).fru.Ok := h.setFrame hp hm
  unfold State.applyFrame
  dsimp only
  split
  · exact { h.toInternal s.tick with external := nofun, period := hp }
  · exact State.judgeFrameTimers_fruOk (written (fun _ => rfl)) _
  · rename_i hs
    exact State.judgeFrameTimers_fruOk (written (fun he => absurd (he.symm.trans hs) (by decide))) _

theorem setFrameBlock_fruOk {s : State} (h : s.fru.Ok) (ps : List Byte) : (setFrameBlock s ps).2.fru.Ok := by
  unfold setFrameBlock
  split
  · split
    · rename_i hp
      exact State.applyFrame_fruOk h _ (natIn_bounds hp)
    · exact h
  · exact h

theorem setSampleCheckBlock_fruOk {s : State} (h : s.fru.Ok) (ps : List Byte) : (setSampleCheckBlock s ps).2.fru.Ok := by
  unfold setSampleCheckBlock
  split
  · rename_i e1 e0 t
    split
    · rename_i a _
      exact h.withCheck a ⟨(h.checks a).1, (natIn_bounds (natIn_word e1 e0)).2, Nat.le_of_lt_succ t.isLt⟩
    · exact h
  · exact h

theorem setNotifyBlock_fruOk {s : State} (h : s.fru.Ok) (ps : List Byte) : (setNotifyBlock s ps).2.fru.Ok := by
  unfold setNotifyBlock
  split
  · rename_i n
    exact { h with notify := ⟨Nat.le_of_lt_succ n.isLt, fun _ => rfl, Nat.pos_of_ne_zero⟩ }
  · exact h

/-! ## The law of the Frame Unit along the sample path (R13, R97) -/

theorem State.contribute_fruOk {s : State} (h : s.fru.Ok) (a : Axis) (n : Nat) : (s.contribute a n).fru.Ok :=
  h.withCheck a ⟨Nat.min_le_left _ _, (h.checks a).2⟩

theorem State.acceptSample_fruOk {s : State} (h : s.fru.Ok) (a : Axis) (f : SampleFields) : (s.acceptSample a f).fru.Ok := by
  simpa [State.acceptSample] using State.contribute_fruOk (s := s.modSlr a _) h a 1

theorem State.enterLocked_fruOk {s : State} (h : s.fru.Ok) (a : Axis) (f : SampleFields) : (s.enterLocked a f).fru.Ok := by
  have gained (u : State) (hu : u.fru.Ok) : (u.lockGained a).fru.Ok := by simpa using hu
  simpa [State.enterLocked] using State.contribute_fruOk (gained (s.modSlr a _) h) a 1

theorem State.goodInAcquiring_fruOk {s : State} (h : s.fru.Ok) (a : Axis) (f : SampleFields) :
    (s.goodInAcquiring a f).fru.Ok := by
  unfold State.goodInAcquiring
  dsimp only
  split
  · split
    · exact State.enterLocked_fruOk h a f
    · exact h
  · exact h

theorem State.goodInLocked_fruOk {s : State} (h : s.fru.Ok) (a : Axis) (f : SampleFields) :
    (s.goodInLocked a f).fru.Ok := by
  unfold State.goodInLocked
  dsimp only
  split
  · exact State.acceptSample_fruOk h a f
  · split
    · exact State.acceptSample_fruOk (by simpa using State.contribute_fruOk (s := s.modSlr a _) h a _) a f
    · simpa using h

/-- A frame reaches the Frame Unit through the sample tally of its axis alone. -/
theorem State.takeFrame_fruOk {s : State} (h : s.fru.Ok) (a : Axis) (bits : List Bool) : (s.takeFrame a bits).fru.Ok := by
  unfold State.takeFrame State.goodFrame
  dsimp only
  split
  · split
    · exact h
    · exact State.goodInAcquiring_fruOk (s := s.modSlr a _) h a _
    · exact State.goodInLocked_fruOk (s := s.modSlr a _) h a _
  · simpa using h

/-! ## Commands that do not reach the Frame Unit -/

/-- The blocks whose settings and data lie outside the Frame Unit. -/
def blocksOutsideFrames : List (State → List Byte → Reply × State) :=
  [setOpticsBlock, setConditionsBlock, setExpansionBlock, setPlausibilityBlock, setProbeBlock, readLinkCountersBlock,
    setCorrectionBlock, setAmplitudeBlock, setDirectionBlock, setBridgeBlock, setLayoutBlock, holdOutputBlock,
    setMicroLinkBlock, setMonitorBlock, clearMonitorBlock, setAlertBlock, readPositionBlock, clearEventsBlock]

theorem blocksOutsideFrames_fru (s : State) (ps : List Byte) :
    ∀ block ∈ blocksOutsideFrames, (block s ps).2.fru = s.fru := by
  simp only [blocksOutsideFrames, List.forall_mem_cons, List.not_mem_nil, false_implies, implies_true, and_true,
    setOpticsBlock, setConditionsBlock, setExpansionBlock, setPlausibilityBlock, setProbeBlock, readLinkCountersBlock,
    setCorrectionBlock, setAmplitudeBlock, setDirectionBlock, setBridgeBlock, setLayoutBlock, holdOutputBlock,
    setMicroLinkBlock, setMonitorBlock, clearMonitorBlock, setAlertBlock, readPositionBlock, clearEventsBlock]
  refine ⟨?_, ?_, ?_, ?_, ?_, ?_, ?_, ?_, ?_, ?_, ?_, ?_, ?_, ?_, ?_, ?_, ?_, ?_⟩
  all_goals (repeat' split) <;> simp [State.accept, State.report, State.refuse]

theorem datumNowAt_fru (s : State) (a : Axis) (v : Int) : (datumNowAt s a v).2.fru = s.fru := by
  unfold datumNowAt
  (repeat' split) <;> simp [State.accept, State.refuse]

theorem blocksOfCaptures_fru (s : State) (ps : List Byte) : ∀ block ∈ blocksOfCaptures, (block s ps).2.fru = s.fru := by
  simp only [blocksOfCaptures, List.forall_mem_cons, List.not_mem_nil, false_implies, implies_true, and_true, setLinkBlock,
    datumNowBlock, setTriggerBlock, queueContextBlock, flushContextsBlock, setCaptureBlock, readCapturesBlock]
  refine ⟨?_, ?_, ?_, ?_, ?_, ?_, ?_⟩
  all_goals (repeat' split) <;> simp [State.accept, State.report, State.refuse, datumNowAt_fru]

theorem axisBlocks_fru (s : State) (a : Axis) : ∀ act ∈ axisBlocks, (act s a).2.fru = s.fru := by
  simp only [axisBlocks, List.forall_mem_cons, List.not_mem_nil, false_implies, implies_true, and_true, enableAxisBlock,
    disableAxisBlock, ackFaultBlock, releaseAxisBlock, axisRestartBlock]
  refine ⟨?_, ?_, ?_, ?_, ?_⟩
  all_goals split <;> simp [State.accept, State.refuse]

/-- A message reaches the Frame Unit through its act alone. -/
theorem State.takeMessage_fru {s : State} {act : State → List Byte × State} (h : ∀ u : State, (act u).2.fru = u.fru) :
    (s.takeMessage act).fru = s.fru := by
  unfold State.takeMessage
  split
  · simp [h]
  · rfl

theorem microQueueAct_fru (params : List Byte) (s : State) : (microQueueAct params s).2.fru = s.fru := by
  unfold microQueueAct
  (repeat' split) <;> simp

theorem flushOwnAct_fru (params : List Byte) (s : State) : (flushOwnAct params s).2.fru = s.fru := by
  unfold flushOwnAct
  split <;> simp

/-- The commands that can reach the Frame Unit. -/
def reachesFrames : Instr → Bool
  | .sampleFrame _ _ | .syncEdge | .syncWatchExpiry | .frameTimerExpiry => true
  | .setFrame _ | .setSampleCheck _ | .setNotify _ => true
  | .resetUnit _ _ | .powerOnReset _ => true
  | _ => false

/-- Every other command leaves the Frame Unit as it was. -/
theorem exec_fru {i : Instr} {s t : State} (hi : reachesFrames i = false) (h : exec i s = .next t) : t.fru = s.fru := by
  have host : ∀ {code n body block}, (∀ ps, (block s ps).2.fru = s.fru) → (s.hostCommand code n body block).fru = s.fru :=
    State.hostCommand_keeps (P := fun u => u.fru = s.fru) (fun _ _ _ k => by simpa using k) rfl
  have settings : ∀ {code n body block}, block ∈ blocksOutsideFrames → (s.hostCommand code n body block).fru = s.fru :=
    fun hb => host (fun ps => blocksOutsideFrames_fru s ps _ hb)
  have captures : ∀ {code n body block}, block ∈ blocksOfCaptures → (s.hostCommand code n body block).fru = s.fru :=
    fun hb => host (fun ps => blocksOfCaptures_fru s ps _ hb)
  have axis : ∀ {code body act}, (∀ a, (act s a).2.fru = s.fru) →
      (s.hostCommand code 1 body (axisCommand act)).fru = s.fru :=
    fun ha => host (axisCommand_keeps (P := fun u => u.fru = s.fru) rfl ha)
  have datum : ∀ {code n body act}, (∀ a d, (act s a d).2.fru = s.fru) →
      (s.hostCommand code n body (datumCommand act)).fru = s.fru :=
    fun ha => host (datumCommand_keeps (P := fun u => u.fru = s.fru) rfl ha)
  cases i <;> cases hi <;> obtain rfl := Host.Outcome.next.inj h
  case microQueueContext params => exact State.takeMessage_fru (microQueueAct_fru params)
  case flushOwn params => exact State.takeMessage_fru (flushOwnAct_fru params)
  case query params => exact State.takeMessage_fru (fun _ => rfl)
  case microUnknownCode =>
    split
    · rfl
    · exact State.takeMessage_fru (fun _ => rfl)
  case readStatus | readFrameState | readServoState => exact host (fun _ => rfl)
  case setEventMask => exact host (fun _ => by simp [State.accept])
  case readTracking => exact axis (fun _ => rfl)
  case enableAxis | disableAxis | ackFault | releaseAxis | axisRestart =>
    exact axis (fun a => axisBlocks_fru s a _ (by simp [axisBlocks]))
  case setDatumPreset => exact datum (fun _ _ => rfl)
  case datumAtMark =>
    refine datum (fun a d => ?_)
    unfold datumAtMarkAt
    split <;> rfl
  case readConditions | readCaptureState | readAlertState =>
    refine host (clearCommand_keeps (P := fun u => u.fru = s.fru) rfl (fun c => ?_))
    cases c <;> rfl
  case setLink | datumNow | setTrigger | queueContext | flushContexts | setCapture | readCaptures =>
    exact captures (by simp [blocksOfCaptures])
  case setLayout =>
    split
    · split
      · rfl
      · split
        · simp
        · exact settings (by simp [blocksOutsideFrames])
    · exact settings (by simp [blocksOutsideFrames])
  case readPosition | clearEvents | holdOutput | holdOutputRelease | setOptics | setConditions | setExpansion |
      setPlausibility | setProbe | setMicroLink | setMonitor | clearMonitor | setAlert | readLinkCounters |
      setCorrection | setAmplitude | setDirection | setBridge =>
    exact settings (by simp [blocksOutsideFrames])
  all_goals (repeat' split) <;> simp

/-! ## The law of the Frame Unit in every step -/

/-- Every command keeps the law of the Frame Unit. -/
theorem State.exec_fruOk {s t : State} (h : s.fru.Ok) {i : Instr} (e : exec i s = .next t) : t.fru.Ok := by
  by_cases hi : reachesFrames i = false
  · rwa [exec_fru hi e]
  have host : ∀ {code n body block}, (∀ ps, (block s ps).2.fru.Ok) → (s.hostCommand code n body block).fru.Ok :=
    State.hostCommand_keeps (P := fun u => u.fru.Ok) (fun _ _ _ k => by simpa using k) h
  cases i <;> first | exact absurd rfl hi | obtain rfl := Host.Outcome.next.inj e
  case sampleFrame a bits => exact State.takeFrame_fruOk h a bits
  case syncEdge => exact State.syncRise_fruOk h
  case syncWatchExpiry =>
    split
    · exact State.loseSync_fruOk h
    · exact h
  case frameTimerExpiry =>
    split
    · rename_i hd
      exact State.timerEvent_fruOk h hd
    · exact h
  case setFrame => exact host (setFrameBlock_fruOk h)
  case setSampleCheck => exact host (setSampleCheckBlock_fruOk h)
  case setNotify => exact host (setNotifyBlock_fruOk h)
  case powerOnReset => exact FrameUnit.reset_ok
  case resetUnit =>
    split
    · exact h
    · split
      · simpa using h
      · exact FrameUnit.reset_ok

end Sys2Proof.Machine

namespace Sys2Proof.Proofs

open Sys2Proof.Machine

/-- Settles O9: every command keeps the law, and line events and ticks leave the Frame Unit as it was. -/
theorem stepKeepsFrameUnit : Obligations.StepKeepsFrameUnit := by
  intro s t h hs
  exact step_induction (P := fun u => u.fru.Ok) h hs (fun _ _ k => k) (fun _ _ k => k)
    (fun _ _ _ k e => State.exec_fruOk k e) (fun _ _ k => by simpa using k) (fun _ k => k)

end Sys2Proof.Proofs

namespace Sys2Proof.Machine

open Sys2Proof.Claims

/-! ## SET_FRAME, SET_SAMPLE_CHECK and SET_NOTIFY (R96, R99, R101) -/

theorem frameModeOf_eq (m : Byte) : frameModeOf m =
    if m.toNat ≤ 1 then some (if m = 1 then .internalOnly else .externalWithFallback) else none := by
  rw [frameModeOf, boolOf_eq]
  split
  · simp only [Option.map_some, beq_iff_eq]
  · rfl

/-- The timers are judged where the period changed, the watch timer before the frame timer (R96). -/
theorem State.judgeFrameTimers_eq (s : State) (changed : Bool) : s.judgeFrameTimers changed =
    if changed = false then s
    else if ranOut s.tick s.fru.watch (2 * (s.fru.period * 100)) = true then
      raised { s with fru := { s.fru with source := .internal, watch := none, timer := some s.tick } } 16
    else if ranOut s.tick s.fru.timer (s.fru.period * 100) = true then
      ({ s with fru := { s.fru with timer := some s.tick } } : State).frameEvent .timer
    else s := by
  unfold State.judgeFrameTimers
  rw [State.watchDue_eq, State.frameTimerDue_eq]
  cases changed <;> rfl

theorem State.applyFrame_eq (s : State) (mode : FrameMode) (period : Nat) {u : State}
    (hu : u = { s with fru := { s.fru with mode := mode, period := period } }) : s.applyFrame mode period =
    if s.fru.source = .external ∧ mode = .internalOnly then
      { u with fru := { u.fru with source := .internal, watch := none, timer := some s.tick } }
    else u.judgeFrameTimers (s.fru.period != period) := by
  subst hu
  unfold State.applyFrame
  dsimp only
  split
  · rename_i hs
    exact (if_pos ⟨hs, rfl⟩).symm
  · exact (if_neg (fun h => absurd h.2 (by decide))).symm
  · rename_i hs
    exact (if_neg (fun h => absurd (hs.symm.trans h.1) (by decide))).symm

theorem setFrameBlock_eq (s : State) (m p1 p0 : Byte) : setFrameBlock s [m, p1, p0] =
    if m.toNat ≤ 1 ∧ 20 ≤ bytesToNat [p1, p0] ∧ bytesToNat [p1, p0] ≤ 10000 then
      (s.applyFrame (if m = 1 then .internalOnly else .externalWithFallback) (bytesToNat [p1, p0])).accept
    else s.refuse .badValue := by
  simp only [setFrameBlock, frameModeOf_eq, natIn]
  split
  · rename_i hm hp
    simp only [Option.ite_none_right_eq_some, Option.some.injEq] at hm hp
    obtain ⟨hm, rfl⟩ := hm
    obtain ⟨hp, rfl⟩ := hp
    exact (if_pos ⟨hm, hp⟩).symm
  · rename_i h
    rw [if_neg]
    rintro ⟨hm, hp⟩
    exact h _ _ (if_pos hm) (if_pos hp)

/-- The effect of SET_FRAME by its MODE byte: a period that stands leaves the running timer to its own expiry (R96, log
entry 22). -/
theorem State.applyFrame_modeByte (s : State) (m : Byte) (period : Nat) {u : State} (hu : u = { s with fru := { s.fru with
      mode := if m = 1 then .internalOnly else .externalWithFallback, period := period } }) :
    s.applyFrame (if m = 1 then .internalOnly else .externalWithFallback) period =
      if s.fru.source = .external ∧ m = 1 then
        { u with fru := { u.fru with source := .internal, watch := none, timer := some s.tick } }
      else if s.fru.period = period then u
      else if ranOut s.tick s.fru.watch (2 * (period * 100)) = true then
        raised { u with fru := { u.fru with source := .internal, watch := none, timer := some s.tick } } 16
      else if ranOut s.tick s.fru.timer (period * 100) = true then
        ({ u with fru := { u.fru with timer := some s.tick } } : State).frameEvent .timer
      else u := by
  rw [State.applyFrame_eq _ _ _ hu, State.judgeFrameTimers_eq]
  subst hu
  have internalOnly : (if m = 1 then FrameMode.internalOnly else .externalWithFallback) = .internalOnly ↔ m = 1 := by simp
  simp only [internalOnly, bne_eq_false_iff_eq]

theorem setSampleCheckBlock_eq (s : State) (a e1 e0 t : Byte) : setSampleCheckBlock s [a, e1, e0, t] =
    if a.toNat ≤ 3 then
      State.accept { s with fru := { s.fru with checks := (s.fru.checks.set (quadAt a)
        { s.fru.checks.get (quadAt a) with expect := bytesToNat [e1, e0], tol := t.toNat }) } }
    else s.refuse .badValue := by
  simp only [setSampleCheckBlock, quadOf_eq]
  by_cases ha : a.toNat ≤ 3
  · simp only [if_pos ha, State.modFru]
  · simp only [if_neg ha]

end Sys2Proof.Machine

namespace Sys2Proof.Proofs

open Sys2Proof.Machine Sys2Proof.Claims

/-- Settles O35: the checks of each command, the setting it writes, and the timers SET_FRAME starts or judges. -/
theorem frameSettings : Obligations.FrameSettings := by
  refine ⟨fun s m p1 p0 extra u hu => ?_, fun s a e1 e0 t extra => ?_, fun s n extra => ?_⟩
  all_goals refine congrArg Host.Outcome.next ?_
  · rw [← State.applyFrame_modeByte s m _ hu]
    exact State.hostCommand_checked rfl (by decide) (setFrameBlock_eq ..) (by simp)
  · exact State.hostCommand_checked rfl (by decide) (setSampleCheckBlock_eq ..) rfl
  · rw [State.hostCommand_frame (n := 1) s 0x1E [n] extra _ rfl (by decide)]
    exact congrArg (taken s) (State.answer_ok rfl _ _)

end Sys2Proof.Proofs

namespace Sys2Proof.Machine

open Sys2Proof.Claims

/-! ## Laws of the record queue and the microscope link along the sample path (R42, R128, R130) -/

/-- A law of the state that reads no more than the capture in flight sees, and that reports and offers to it keep: the sample
path reaches the record queue, RECORDS_READY and the outgoing messages by these two alone. -/
structure QueueLaw (P : State → Prop) : Prop where
  same : ∀ {s t : State}, s.SameCapture t → P s → P t
  report : ∀ {s : State} (a : Axis) (r : AxisReport), P s → P (s.reportToCapture a r)
  offer : ∀ {s : State} (a : Axis) (e : HistEntry), P s → P (s.offerToCapture a e)

section

variable {P : State → Prop} {s : State} (law : QueueLaw P)
include law

theorem QueueLaw.frame {t : State} (h : P s) (e : t.tick = s.tick ∧ t.lcu = s.lcu ∧ t.msl = s.msl ∧ t.hpt = s.hpt) : P t :=
  law.same (.of_frame e.1 e.2.1 e.2.2.1 e.2.2.2) h

theorem QueueLaw.judgeLevel (h : P s) : P s.judgeLevel := law.frame h (by simp)

theorem QueueLaw.reportLoss (h : P s) (a : Axis) : P (s.reportLoss s a) := by
  unfold State.reportLoss
  split
  · exact law.report a .fault h
  · exact h

theorem QueueLaw.integrityLoss (h : P s) (a : Axis) (c : Cause) (t : Tick) (hold : Int) : P (s.integrityLoss a c t hold) :=
  law.same (s.integrityLoss_sameCapture a c t hold) (law.reportLoss h a)

/-- A processed sample reaches the capture in flight by the offer of its entry (R42). -/
theorem QueueLaw.processed {u t : State} {a : Axis} {e : HistEntry} {lost : Bool} (h : P u) (proc : s.Processed u t a e lost) :
    P t := by
  have alike : u.SameCapture { u with phu := t.phu } := .of_frame rfl rfl rfl rfl
  exact law.same (proc.capture _ alike rfl) (law.offer a e (law.same alike h))

/-- The state a sample is offered from, whether or not its change is a RANGE loss (R31). -/
theorem QueueLaw.reportRange (h : P s) (a : Axis) (b : Bool) : P (if b then s.reportLoss s a else s) := by
  cases b
  · exact h
  · exact law.reportLoss h a

theorem QueueLaw.countSample (h : P s) (a : Axis) (mark : Bool) (p : BitVec 9) (d : Int) (t : Tick) :
    P (s.countSample a mark p d t) := by
  cases hl : (s.phu.get a).loads mark ((s.phu.get a).dir.sign * d) with
  | none => exact law.processed (law.reportRange h a _) (State.countSample_processed hl p t)
  | some v => exact law.processed (law.report a .epochChange h) (State.countSample_datum_processed hl p t)

theorem QueueLaw.takePhase (h : P s) (a : Axis) (mark : Bool) (p : BitVec 9) (t : Tick) : P (s.takePhase a mark p t) := by
  unfold State.takePhase
  split
  · exact law.processed h (s.anchorSample_processed a p t)
  · dsimp only
    split
    · exact law.countSample h a mark p _ t
    · exact law.processed (law.reportLoss h a) (s.stepViolation_processed a p t)

theorem QueueLaw.bridgeSamples (a : Axis) (tn : Tick) (ts : List Tick) : ∀ {s : State}, P s → P (s.bridgeSamples a tn ts) := by
  induction ts with
  | nil => exact fun h => h
  | cons t ts ih => exact fun {s} h => ih (law.processed (law.reportRange h a _) (s.bridgeSample_processed a tn t))

theorem QueueLaw.takeNotice (h : P s) (a : Axis) (reason : MissingReason) (g : Nat) (tn : Tick) :
    P (s.takeNotice a reason g tn) := by
  unfold State.takeNotice
  split
  · rename_i instants _
    exact law.frame (law.bridgeSamples a tn instants h) (by simp)
  · exact law.integrityLoss (law.frame h (by simp)) a _ _ _

theorem QueueLaw.handNotice (h : P s) (a : Axis) (reason : MissingReason) (g : Nat) (tn : Tick) :
    P (s.handNotice a reason g tn) := by
  unfold State.handNotice
  split
  · exact h
  · exact law.takeNotice h a reason g tn

theorem QueueLaw.handSample (h : P s) (a : Axis) (f : SampleFields) (t : Tick) : P (s.handSample a f t) := by
  unfold State.handSample State.takeSample
  split
  · exact h
  · dsimp only
    split
    · exact law.takeNotice h a .low 1 t
    · exact law.takePhase (law.frame h (by simp)) a f.mark _ t

theorem QueueLaw.loseLock (h : P s) (a : Axis) (t : Tick) : P (s.loseLock a t) := by
  have down : P (s.modSlr a (fun r => { r.toDown with lockLosses := satAdd 255 r.lockLosses 1 })) := law.frame h (by simp)
  unfold State.loseLock State.lockLost
  split
  · exact down
  · exact law.frame (law.integrityLoss down a .link t _) ⟨rfl, rfl, rfl, rfl⟩

theorem QueueLaw.dropLink (h : P s) (a : Axis) (t : Tick) : P (s.dropLink a t) := by
  unfold State.dropLink
  split
  · exact h
  · exact law.frame h (by simp)
  · exact law.loseLock h a t

theorem QueueLaw.acceptSample (h : P s) (a : Axis) (f : SampleFields) : P (s.acceptSample a f) :=
  law.handSample (law.frame h (by simp)) a f _

theorem QueueLaw.badInLocked (h : P s) (a : Axis) (duplicate : Bool) : P (s.badInLocked a duplicate) := by
  unfold State.badInLocked State.occupyPosition
  split
  · exact law.loseLock h a _
  · split
    · exact law.frame h (by simp)
    · exact law.handNotice (law.frame h (by simp)) a _ _ _

theorem QueueLaw.goodFrame (h : P s) (a : Axis) (f : SampleFields) : P (s.goodFrame a f) := by
  have taken : P (s.modSlr a (fun r => { r with goodFrames := r.goodFrames + 1 })) := law.frame h (by simp)
  unfold State.goodFrame
  dsimp only
  split
  · exact law.frame taken (by simp)
  · unfold State.goodInAcquiring State.enterLocked
    dsimp only
    split
    · split
      · exact law.handSample (law.frame taken (by simp)) a f _
      · exact law.frame taken (by simp)
    · exact law.frame taken (by simp)
  · unfold State.goodInLocked
    dsimp only
    split
    · exact law.acceptSample taken a f
    · split
      · exact law.acceptSample (law.handNotice (law.frame taken (by simp)) a _ _ _) a f
      · exact law.badInLocked (law.frame taken (by simp)) a _

/-- A sample frame keeps the law (R3 to R14). -/
theorem QueueLaw.takeFrame (h : P s) (a : Axis) (bits : List Bool) : P (s.takeFrame a bits) := by
  unfold State.takeFrame
  split
  · exact law.goodFrame h a _
  · unfold State.badFrame
    dsimp only
    split
    · exact law.frame h (by simp)
    · exact law.frame h (by simp)
    · exact law.badInLocked (law.frame h (by simp)) a _

/-- So do SET_LINK, which may drop a link, and the axis commands that report to the capture in flight (R16, R47, R51, R57,
R59). -/
theorem QueueLaw.setLinkBlock (h : P s) (ps : List Byte) : P (setLinkBlock s ps).2 := by
  have written (a : Axis) (l t d : Nat) : P (s.writeLink a l t d) := by
    unfold State.writeLink
    dsimp only
    split
    · exact law.dropLink (law.frame h (by simp)) a _
    · exact law.frame h (by simp)
  unfold Machine.setLinkBlock
  split
  · split
    · exact written _ _ _ _
    · exact h
  · exact h

theorem QueueLaw.disableAxis (h : P s) (a : Axis) : P (disableAxisBlock s a).2 := by
  unfold disableAxisBlock
  split
  · exact h
  · exact law.judgeLevel (law.report a .disable (law.frame h (by simp)))

theorem QueueLaw.axisRestart (h : P s) (a : Axis) : P (axisRestartBlock s a).2 := by
  unfold axisRestartBlock
  split
  · exact h
  · exact law.judgeLevel (law.report a .restart (law.frame h (by simp)))

theorem QueueLaw.datumNowBlock (h : P s) (ps : List Byte) : P (datumNowBlock s ps).2 := by
  unfold Machine.datumNowBlock
  split
  · split
    · rw [datumNowAt_eq]
      split
      · exact h
      · split
        · exact h
        · exact law.report _ .epochChange (law.frame h ⟨rfl, rfl, rfl, rfl⟩)
    · exact h
  · exact h

end

end Sys2Proof.Machine

namespace Sys2Proof.Machine

open Sys2Proof.Claims

/-! ## Commands that the capture in flight does not see -/

theorem State.SameCapture.of_flags {s t : State} (ht : t.tick = s.tick) (hl : t.lcu = s.lcu) (hm : t.msl = s.msl)
    (hf : t.hpt.flags = s.hpt.flags) : s.SameCapture t :=
  ⟨ht, hl, hm, by simp only [State.flagSet, hf], by simp only [State.flagSet, hf]⟩

theorem State.modFru_sameCapture (s : State) (f : FrameUnit → FrameUnit) : s.SameCapture (s.modFru f) :=
  .of_frame rfl rfl rfl rfl

theorem State.modCmu_sameCapture (s : State) (f : Compensation → Compensation) : s.SameCapture (s.modCmu f) :=
  .of_frame rfl rfl rfl rfl

theorem State.answer_flags (s : State) (code : Byte) (r : Reply) : (s.answer code r).hpt.flags = s.hpt.flags := by
  obtain ⟨p, e⟩ := s.answer_hpt code r
  rw [e]

theorem State.answer_sameCapture (s : State) (code : Byte) (r : Reply) : s.SameCapture (s.answer code r) :=
  .of_flags (by simp) (by simp) (by simp) (s.answer_flags code r)

theorem State.raiseIf_sameCapture (s : State) (b : Bool) {f : Flag} (h0 : .recordsReady ≠ f) (h1 : .captureOverflow ≠ f) :
    s.SameCapture (s.raiseIf b f) := by
  cases b
  · exact .refl s
  · exact s.raise_sameCapture h0 h1

/-- Flags raised beside those of the record queue. -/
theorem State.Raises.sameCapture {s t : State} {p : Nat → Prop} (h : s.Raises t p) (ht : t.tick = s.tick) (hl : t.lcu = s.lcu)
    (hm : t.msl = s.msl) (hp : ∀ i, p i → 2 ≤ i) : s.SameCapture t := by
  have same (f : Flag) (hf : f.index < 2) : t.flagSet f = s.flagSet f := by
    rw [State.flagSet, State.flagSet, Bool.eq_iff_iff, h.flags _ f.index_lt]
    exact or_iff_left (fun k => absurd (hp _ k) (by omega))
  exact ⟨ht, hl, hm, same _ (by decide), same _ (by decide)⟩

theorem State.frameEvent_sameCapture (s : State) (kind : FrameKind) : s.SameCapture (s.frameEvent kind) :=
  (State.frameEvent_raises (s := s) kind).sameCapture (by simp) (by simp) (by simp) (fun i hi => by
    rcases hi with ⟨rfl, _⟩ | ⟨rfl, _⟩ | ⟨a, rfl, _⟩ | ⟨rfl, _⟩ <;> omega)

theorem State.timerEvent_sameCapture (s : State) : s.SameCapture s.timerEvent :=
  (s.modFru_sameCapture _).trans (State.frameEvent_sameCapture _ _)

theorem State.loseSync_sameCapture (s : State) : s.SameCapture s.loseSync :=
  (s.modFru_sameCapture _).trans (State.raise_sameCapture _ (by simp) (by simp))

theorem State.syncRise_sameCapture (s : State) : s.SameCapture s.syncRise := by
  unfold State.syncRise
  split
  · exact .refl s
  · exact (s.modFru_sameCapture _).trans (State.frameEvent_sameCapture _ _)
  · refine .trans (.trans (s.modFru_sameCapture _) (State.raise_sameCapture _ ?_ ?_)) (State.frameEvent_sameCapture _ _)
    · simp
    · simp

theorem setFrameBlock_sameCapture (s : State) (ps : List Byte) : s.SameCapture (setFrameBlock s ps).2 := by
  have judged (u : State) (b : Bool) : u.SameCapture (u.judgeFrameTimers b) := by
    unfold State.judgeFrameTimers
    split
    · exact u.loseSync_sameCapture
    · split
      · exact u.timerEvent_sameCapture
      · exact .refl u
  unfold setFrameBlock
  split
  · split
    · dsimp only [State.accept, State.applyFrame]
      split
      · exact s.modFru_sameCapture _
      · exact (s.modFru_sameCapture _).trans (judged _ _)
      · exact (s.modFru_sameCapture _).trans (judged _ _)
    · exact .refl s
  · exact .refl s

theorem State.kUpdateIf_sameCapture (s : State) (b : Bool) : s.SameCapture (s.kUpdateIf b) :=
  .of_frame (by simp) (by simp) (by simp) (by simp)

theorem State.raiseHeld_sameCapture (s : State) (before : Compensation) : s.SameCapture (s.raiseHeld before) :=
  s.raiseIf_sameCapture _ (by simp) (by simp)

theorem State.takeConditions_sameCapture (s : State) (chars : List CondChar) : s.SameCapture (s.takeConditions chars) := by
  unfold State.takeConditions
  split
  · exact s.modCmu_sameCapture _
  · split
    · exact s.modCmu_sameCapture _
    · exact ((s.modCmu_sameCapture _).trans (State.raiseHeld_sameCapture _ _)).trans (State.kUpdateIf_sameCapture _ _)

theorem State.goStale_sameCapture (s : State) : s.SameCapture s.goStale :=
  (s.modCmu_sameCapture _).trans (State.raiseIf_sameCapture _ _ (by simp) (by simp))

theorem setConditionsBlock_sameCapture (s : State) (ps : List Byte) : s.SameCapture (setConditionsBlock s ps).2 := by
  unfold setConditionsBlock
  split
  · split
    · exact (((s.modCmu_sameCapture _).trans (State.raiseHeld_sameCapture _ _)).trans (State.kUpdateIf_sameCapture _ _)).trans
        (State.kUpdateIf_sameCapture _ _)
    · exact .refl s
  · exact .refl s

theorem setPlausibilityBlock_sameCapture (s : State) (ps : List Byte) : s.SameCapture (setPlausibilityBlock s ps).2 := by
  have written (a b c d e : Nat) : s.SameCapture (s.writePlausibility a b c d e) := by
    unfold State.writePlausibility
    dsimp only
    split
    · exact (s.modCmu_sameCapture _).trans (State.goStale_sameCapture _)
    · exact .of_frame rfl rfl rfl rfl
  unfold setPlausibilityBlock
  split
  · split
    · split
      · exact .refl s
      · split
        · exact .refl s
        · exact written _ _ _ _ _
    · exact .refl s
  · exact .refl s

/-- The blocks whose settings and data lie outside the Line Capture Unit, the microscope link and the host port. -/
def blocksOutsideQueues : List (State → List Byte → Reply × State) :=
  [readLinkCountersBlock, setCorrectionBlock, setAmplitudeBlock, setDirectionBlock, setBridgeBlock, setSampleCheckBlock,
    setNotifyBlock, setLayoutBlock, holdOutputBlock, setMonitorBlock, clearMonitorBlock, setAlertBlock, readPositionBlock,
    setOpticsBlock, setExpansionBlock, setProbeBlock]

theorem blocksOutsideQueues_sameCapture (s : State) (ps : List Byte) :
    ∀ block ∈ blocksOutsideQueues, s.SameCapture (block s ps).2 := by
  simp only [blocksOutsideQueues, List.forall_mem_cons, List.not_mem_nil, false_implies, implies_true, and_true,
    readLinkCountersBlock, setCorrectionBlock, setAmplitudeBlock, setDirectionBlock, setBridgeBlock, setSampleCheckBlock,
    setNotifyBlock, setLayoutBlock, holdOutputBlock, setMonitorBlock, clearMonitorBlock, setAlertBlock, readPositionBlock,
    setOpticsBlock, setExpansionBlock, setProbeBlock, State.accept, State.report, State.refuse]
  refine ⟨?_, ?_, ?_, ?_, ?_, ?_, ?_, ?_, ?_, ?_, ?_, ?_, ?_, ?_, ?_, ?_⟩
  all_goals (repeat' split) <;> exact .of_frame (by simp) (by simp) (by simp) (by simp)

theorem silentAxisBlocks_sameCapture (s : State) (a : Axis) : ∀ act ∈ silentAxisBlocks, s.SameCapture (act s a).2 := by
  simp only [silentAxisBlocks, List.forall_mem_cons, List.not_mem_nil, false_implies, implies_true, and_true, enableAxisBlock,
    ackFaultBlock, releaseAxisBlock, State.accept, State.refuse]
  refine ⟨?_, ?_, ?_⟩
  all_goals split <;> exact .of_frame (by simp) (by simp) (by simp) (by simp)

/-- The commands that can reach the Line Capture Unit, the microscope link or the flags of the record queue. -/
def reachesQueues : Instr → Bool
  | .sampleFrame _ _ | .silenceTimerExpiry _ | .setLink _ | .disableAxis _ | .datumNow _ | .axisRestart _ => true
  | .triggerEdge _ _ | .deadTimeEnd _ | .captureTimeoutExpiry => true
  | .microQueueContext _ | .flushOwn _ | .query _ | .microUnknownCode _ _ => true
  | .lineError _ _ | .characterWhileWaitingForSilence _ _ | .gapDiscard | .silenceWaitEnd | .messageSent => true
  | .setTrigger _ | .queueContext _ | .flushContexts _ | .setCapture _ | .readCaptures _ | .readCaptureState _ => true
  | .setMicroLink _ | .clearEvents _ | .resetUnit _ _ | .powerOnReset _ => true
  | _ => false

/-- Every other command leaves them as they were. -/
theorem exec_sameCapture {i : Instr} {s t : State} (hi : reachesQueues i = false) (h : exec i s = .next t) :
    s.SameCapture t := by
  have host : ∀ {code n body block}, (∀ ps, s.SameCapture (block s ps).2) → s.SameCapture (s.hostCommand code n body block) :=
    State.hostCommand_keeps (fun _ _ _ k => k.trans (State.answer_sameCapture _ _ _)) (.refl s)
  have listed : ∀ {code n body block}, block ∈ blocksOutsideQueues → s.SameCapture (s.hostCommand code n body block) :=
    fun hb => host (fun ps => blocksOutsideQueues_sameCapture s ps _ hb)
  have axis : ∀ {code body act}, act ∈ silentAxisBlocks → s.SameCapture (s.hostCommand code 1 body (axisCommand act)) :=
    fun hb => host (axisCommand_keeps (.refl s) (fun a => silentAxisBlocks_sameCapture s a _ hb))
  cases i <;> cases hi <;> obtain rfl := Host.Outcome.next.inj h
  case conditionsFrame chars =>
    split
    · exact (s.modCmu_sameCapture _).trans (State.takeConditions_sameCapture _ _)
    · exact .refl s
  case stalenessTimerExpiry =>
    split
    · exact s.goStale_sameCapture
    · exact .refl s
  case syncEdge => exact s.syncRise_sameCapture
  case syncWatchExpiry =>
    split
    · exact s.loseSync_sameCapture
    · exact .refl s
  case frameTimerExpiry =>
    split
    · exact s.timerEvent_sameCapture
    · exact .refl s
  case setFrame => exact host (setFrameBlock_sameCapture s)
  case setConditions => exact host (setConditionsBlock_sameCapture s)
  case setPlausibility => exact host (setPlausibilityBlock_sameCapture s)
  case readStatus | readFrameState | readServoState => exact host (fun _ => .refl s)
  case setEventMask => exact host (fun _ => .of_flags rfl rfl rfl rfl)
  case readTracking => exact host (axisCommand_keeps (.refl s) (fun _ => .refl s))
  case setDatumPreset => exact host (datumCommand_keeps (.refl s) (fun _ _ => .of_frame rfl rfl rfl rfl))
  case datumAtMark =>
    refine host (datumCommand_keeps (.refl s) (fun a d => ?_))
    unfold datumAtMarkAt
    split <;> exact .of_frame rfl rfl rfl rfl
  case readConditions | readAlertState =>
    refine host (clearCommand_keeps (.refl s) (fun c => ?_))
    cases c <;> exact .of_frame rfl rfl rfl rfl
  case enableAxis | ackFault | releaseAxis => exact axis (by simp [silentAxisBlocks])
  case setLayout body =>
    split
    · split
      · exact .refl s
      · split
        · exact s.answer_sameCapture _ _
        · exact listed (by simp [blocksOutsideQueues])
    · exact listed (by simp [blocksOutsideQueues])
  case unknownCommand =>
    split
    · exact .refl s
    · exact s.answer_sameCapture _ _
  case readPosition | holdOutput | holdOutputRelease | setSampleCheck | setNotify | setMonitor | clearMonitor | setAlert |
      readLinkCounters | setCorrection | setAmplitude | setDirection | setBridge | setOptics | setExpansion | setProbe =>
    exact listed (by simp [blocksOutsideQueues])
  case fetch | responseReady | hselSeenHigh =>
    (repeat' split) <;> exact .of_flags rfl rfl rfl rfl
  all_goals (repeat' split) <;> exact .of_frame (by simp) (by simp) (by simp) (by simp)

/-- A line event reaches of them the receiver of the microscope link alone. -/
theorem State.takeLine_ready (s : State) (e : LineEvent) (f : Flag) : (s.takeLine e).1.flagSet f = s.flagSet f := by
  rw [State.flagSet, (s.takeLine_flags e).1, State.flagSet]

end Sys2Proof.Machine

namespace Sys2Proof.Machine

open Sys2Proof.Claims

/-! ## The numbers of the queued records (R134) -/

/-- A record takes the next number: it joins the queue at the new end, some of the oldest given up for it, or is given up
itself (R134). -/
def LineCapture.TakesNumber (x y : LineCapture) : Prop :=
  y.recordNo = x.recordNo + 1 ∧
  (y.records = x.records ∨ ∃ k r, y.records = x.records.drop k ++ [r] ∧ r.number = x.recordNo)

/-- All that a step does to the queue and the number: a reset empties it, records leave at the old end, or a record takes the
next number (R134, R135, R137). -/
def LineCapture.QueueTo (x y : LineCapture) : Prop :=
  (y.records = [] ∧ y.recordNo = 0) ∨ (∃ k, y.records = x.records.drop k ∧ y.recordNo = x.recordNo) ∨ x.TakesNumber y

theorem LineCapture.QueueTo.of_same {x y : LineCapture} (hr : y.records = x.records) (hn : y.recordNo = x.recordNo) :
    x.QueueTo y := .inr (.inl ⟨0, hr, hn⟩)

/-- The way back to a number is one longer for the next number, unless it comes round to that number itself. -/
theorem toNat_succ_sub {n q : BitVec 16} (h : q ≠ n + 1) : (n + 1 - q).toNat = (n - q).toNat + 1 := by bv_omega

/-- Numbers that rise up to a number rise up to the next one. -/
theorem LineCapture.NumbersRise.succ {x : LineCapture} (h : x.NumbersRise) (wrap : ∀ r ∈ x.records, r.number ≠ x.recordNo + 1) :
    x.records.Pairwise (fun r q => (x.recordNo + 1 - q.number).toNat < (x.recordNo + 1 - r.number).toNat) := by
  refine h.1.imp_of_mem fun {r q} hr hq lt => ?_
  rw [toNat_succ_sub (wrap r hr), toNat_succ_sub (wrap q hq)]
  omega

theorem LineCapture.TakesNumber.numbersRise {x y : LineCapture} (t : x.TakesNumber y) (h : x.NumbersRise)
    (wrap : ∀ r ∈ x.records, r.number ≠ x.recordNo + 1) : y.NumbersRise := by
  obtain ⟨hn, hr | ⟨k, r, hr, number⟩⟩ := t
  · rw [LineCapture.NumbersRise, hr, hn]
    exact ⟨h.succ wrap, wrap⟩
  · rw [LineCapture.NumbersRise, hr, hn]
    have kept {q : Record} (hq : q ∈ x.records.drop k) : q ∈ x.records := List.mem_of_mem_drop hq
    refine ⟨List.pairwise_append.mpr ⟨(h.succ wrap).sublist (List.drop_sublist k _), List.pairwise_singleton _ _, ?_⟩, ?_⟩
    · intro q hq p hp
      obtain rfl := List.mem_singleton.mp hp
      rw [number, toNat_succ_sub (wrap q (kept hq))]
      have apart := h.2 q (kept hq)
      bv_omega
    · intro q hq
      rcases List.mem_append.mp hq with hq | hq
      · exact wrap q (kept hq)
      · rw [List.mem_singleton.mp hq, number]
        bv_omega

/-- Numbers that rise go on to rise, for as long as the next number is not one still queued (log entry 24). -/
theorem LineCapture.QueueTo.numbersRise {x y : LineCapture} (t : x.QueueTo y) (h : x.NumbersRise)
    (wrap : ∀ r ∈ x.records, r.number ≠ x.recordNo + 1) : y.NumbersRise := by
  rcases t with ⟨hr, _⟩ | ⟨k, hr, hn⟩ | t
  · rw [LineCapture.NumbersRise, hr]
    exact ⟨List.Pairwise.nil, nofun⟩
  · rw [LineCapture.NumbersRise, hr, hn]
    exact ⟨h.1.sublist (List.drop_sublist k _), fun r hr => h.2 r (List.mem_of_mem_drop hr)⟩
  · exact t.numbersRise h wrap

/-! ## The depth of the queue and RECORDS_READY (R134, R135) -/

theorem State.RecordsOk.same {s t : State} (h : s.RecordsOk) (hr : t.lcu.records = s.lcu.records)
    (hl : t.lcu.readyLevel = s.lcu.readyLevel) (hf : t.flagSet .recordsReady = s.flagSet .recordsReady) : t.RecordsOk where
  depth := hr ▸ h.depth
  level := hl ▸ h.level
  ready := by rw [hf, h.ready, hr, hl]

theorem State.RecordsOk.sameCapture {s t : State} (h : s.RecordsOk) (e : s.SameCapture t) : t.RecordsOk :=
  h.same (by rw [e.lcu]) (by rw [e.lcu]) e.ready

/-- RECORDS_READY judged anew follows whatever queue and level it is judged on. -/
theorem State.judgeReady_recordsOk {s : State} (depth : s.lcu.records.length ≤ 32)
    (level : 1 ≤ s.lcu.readyLevel ∧ s.lcu.readyLevel ≤ 32) : s.judgeReady.RecordsOk where
  depth := by simpa using depth
  level := by simpa using level
  ready := by rw [State.flagSet_judgeReady, if_pos rfl]; simp

/-- A completion judges RECORDS_READY on the queue it leaves (R135). -/
theorem State.completeCapture_ready (s : State) (c : Capture) :
    (s.completeCapture c).flagSet .recordsReady =
      decide ((s.completeCapture c).lcu.readyLevel ≤ (s.completeCapture c).lcu.records.length) := by
  have offered (u : State) (m : List Byte) : (u.offerMessage m).flagSet .recordsReady = u.flagSet .recordsReady := rfl
  rw [State.completeCapture_lcu]
  unfold State.completeCapture
  dsimp only
  split
  · rw [offered, State.flagSet_judgeReady, if_pos rfl]
    simp
  · rw [State.flagSet_judgeReady, if_pos rfl]
    simp

theorem State.completeCapture_recordsOk {s : State} (h : s.RecordsOk) (c : Capture) : (s.completeCapture c).RecordsOk where
  depth := by
    rw [State.completeCapture_lcu]
    exact enqueueRecord_length _ _ _ h.depth
  level := by
    rw [State.completeCapture_lcu]
    exact h.level
  ready := s.completeCapture_ready c

/-! ## The queue along a step -/

/-- The record queue as the parts of one command find and leave it: in order, and either as the command found it or with the one
number taken that the completion of the capture in flight takes (R133, R134). -/
structure State.QueuePath (s u : State) : Prop where
  keeps : s.RecordsOk → u.RecordsOk
  queue : (u.lcu.records = s.lcu.records ∧ u.lcu.recordNo = s.lcu.recordNo) ∨
    (u.lcu.capture = none ∧ s.lcu.TakesNumber u.lcu)

theorem State.QueuePath.refl (s : State) : s.QueuePath s := ⟨id, .inl ⟨rfl, rfl⟩⟩

/-- A record handed to the queue takes the next number, wherever it ends up (R134). -/
theorem State.completeCapture_takesNumber (s : State) (c : Capture) : s.lcu.TakesNumber (s.completeCapture c).lcu := by
  rw [State.completeCapture_lcu]
  refine ⟨rfl, ?_⟩
  unfold enqueueRecord
  split
  · exact .inr ⟨0, _, rfl, rfl⟩
  · split
    · exact .inl rfl
    · exact .inr ⟨1, _, rfl, rfl⟩

/-- A queue as the command found it is left so, or takes the record of the capture that completes. -/
theorem State.QueuePath.completeIfSettled {s u : State} (keeps : s.RecordsOk → u.RecordsOk)
    (hr : u.lcu.records = s.lcu.records) (hn : u.lcu.recordNo = s.lcu.recordNo) : s.QueuePath u.completeIfSettled := by
  rcases u.completeIfSettled_cases with ⟨c, _, _, e⟩ | ⟨_, e⟩ <;> rw [e]
  · refine ⟨fun h => State.completeCapture_recordsOk (keeps h) c, .inr ⟨by rw [State.completeCapture_lcu], ?_⟩⟩
    have taken := u.completeCapture_takesNumber c
    rwa [LineCapture.TakesNumber, hr, hn] at taken
  · exact ⟨keeps, .inl ⟨hr, hn⟩⟩

/-- New progress of an entry can complete the capture in flight, and only where there is one. -/
theorem State.QueuePath.progressEntry {s u : State} (h : s.QueuePath u) (a : Axis)
    (f : Capture → PhysEntry → Option HistEntry → EntryProgress) : s.QueuePath (u.progressEntry a f) := by
  rcases u.progressEntry_cases a f with e | ⟨c, x, b, hc, _, _, e⟩ <;> rw [e]
  · exact h
  · rcases h.queue with ⟨hr, hn⟩ | ⟨idle, _⟩
    · exact .completeIfSettled (fun ok => (h.keeps ok).same rfl rfl rfl) hr hn
    · rw [idle] at hc
      cases hc

/-- The sample path reaches the queue by completions alone. -/
theorem State.queuePath_law (s : State) : QueueLaw s.QueuePath where
  same e h := ⟨fun ok => (h.keeps ok).sameCapture e, by rw [e.lcu]; exact h.queue⟩
  report a _ h := h.progressEntry a _
  offer a _ h := h.progressEntry a _

/-- All that a step does to the record queue. -/
def State.QueueStep (s t : State) : Prop := (s.RecordsOk → t.RecordsOk) ∧ s.lcu.QueueTo t.lcu

theorem State.QueuePath.step {s t : State} (h : s.QueuePath t) : s.QueueStep t := by
  refine ⟨h.keeps, ?_⟩
  rcases h.queue with ⟨hr, hn⟩ | ⟨_, taken⟩
  · exact .of_same hr hn
  · exact .inr (.inr taken)

/-- Queue, READY_LEVEL and RECORDS_READY left as they were. -/
theorem State.QueueStep.of_same {s t : State} (hr : t.lcu.records = s.lcu.records) (hn : t.lcu.recordNo = s.lcu.recordNo)
    (hl : t.lcu.readyLevel = s.lcu.readyLevel) (hf : t.flagSet .recordsReady = s.flagSet .recordsReady) : s.QueueStep t :=
  ⟨fun h => h.same hr hl hf, .of_same hr hn⟩

theorem State.QueueStep.of_lcu {s t : State} (hl : t.lcu = s.lcu) (hf : t.flagSet .recordsReady = s.flagSet .recordsReady) :
    s.QueueStep t := .of_same (by rw [hl]) (by rw [hl]) (by rw [hl]) hf

theorem State.QueueStep.refl (s : State) : s.QueueStep s := .of_lcu rfl rfl

theorem State.QueueStep.answer {s t : State} (h : s.QueueStep t) (code : Byte) (r : Reply) : s.QueueStep (t.answer code r) :=
  ⟨fun ok => (h.1 ok).sameCapture (t.answer_sameCapture code r), by simpa using h.2⟩

/-- A reset empties the queue and starts the numbers anew, RECORDS_READY clear (R172). -/
theorem State.QueueStep.reset {s t : State} (hl : t.lcu = LineCapture.reset) (hf : t.flagSet .recordsReady = false) :
    s.QueueStep t :=
  ⟨fun _ => State.reset_recordsOk.same (by rw [hl]; rfl) (by rw [hl]; rfl) hf, .inl (by rw [hl]; exact ⟨rfl, rfl⟩)⟩

theorem State.QueuePath.timeOutCapture {s u : State} (keeps : s.RecordsOk → u.RecordsOk)
    (hr : u.lcu.records = s.lcu.records) (hn : u.lcu.recordNo = s.lcu.recordNo) : s.QueuePath u.timeOutCapture := by
  unfold State.timeOutCapture
  split
  · exact .completeIfSettled (fun ok => (keeps ok).same rfl rfl rfl) hr hn
  · exact ⟨keeps, .inl ⟨hr, hn⟩⟩

theorem State.QueuePath.judgeEdge {s u : State} (keeps : s.RecordsOk → u.RecordsOk) (hr : u.lcu.records = s.lcu.records)
    (hn : u.lcu.recordNo = s.lcu.recordNo) (input : TrigInput) (edge : EdgeDir) : s.QueuePath (u.judgeEdge input edge) := by
  have same : s.QueuePath u := ⟨keeps, .inl ⟨hr, hn⟩⟩
  unfold State.judgeEdge
  split
  · exact same
  · split
    · split
      · exact .completeIfSettled (fun ok => (keeps ok).same rfl rfl rfl) hr hn
      · have counted : s.QueuePath (u.modLcu (fun x => { x with missed := satAdd 255 x.missed 1 })) :=
          ⟨fun ok => (keeps ok).same rfl rfl rfl, .inl ⟨hr, hn⟩⟩
        exact s.queuePath_law.frame counted (by simp [State.missEdge])
    · exact same

theorem setCaptureBlock_queueStep (s : State) (ps : List Byte) : s.QueueStep (setCaptureBlock s ps).2 := by
  unfold setCaptureBlock
  split
  · split
    · rename_i policy ready timeout _ hready _
      have keeps : s.RecordsOk →
          (s.modLcu (fun x => { x with policy := policy, readyLevel := ready, timeout := timeout })).judgeReady.RecordsOk :=
        fun ok => State.judgeReady_recordsOk ok.depth (natIn_bounds hready)
      dsimp only [State.accept]
      split
      · exact (State.QueuePath.timeOutCapture keeps (by simp) (by simp)).step
      · exact State.QueuePath.step ⟨keeps, .inl ⟨by simp, by simp⟩⟩
    · exact .refl s
  · exact .refl s

theorem readCapturesBlock_queueStep (s : State) (ps : List Byte) : s.QueueStep (readCapturesBlock s ps).2 := by
  unfold readCapturesBlock
  split
  · split
    · dsimp only
      split
      · exact .refl s
      · refine ⟨fun ok => State.judgeReady_recordsOk ?_ ok.level, .inr (.inl ⟨_, by simp; rfl, by simp⟩)⟩
        have := ok.depth
        rw [State.modLcu_lcu, List.length_drop]
        omega
    · exact .refl s
  · exact .refl s

/-- CLEAR_EVENTS leaves RECORDS_READY as it is (R168). -/
theorem clearEventsBlock_queueStep (s : State) (ps : List Byte) : s.QueueStep (clearEventsBlock s ps).2 := by
  refine .of_lcu (by simp [clearEventsBlock]) ?_
  simp [clearEventsBlock, State.flagSet, State.withFlags, Flag.index, Flag.bit]

theorem State.lineErrorAt_queueStep {s u : State} (hl : u.lcu = s.lcu) (hf : u.hpt = s.hpt) (began : Tick) :
    s.QueueStep (u.lineErrorAt began) := by
  have offered (v : State) (m : List Byte) : (v.offerMessage m).flagSet .recordsReady = v.flagSet .recordsReady := rfl
  refine .of_lcu (by simpa [State.lineErrorAt] using hl) ?_
  rw [State.lineErrorAt, offered, State.flagSet_raise]
  simp [State.flagSet, hf]

theorem State.changeRate_queueStep (s : State) (rate : Nat) : s.QueueStep (s.changeRate rate) := by
  unfold State.changeRate State.dropAssembly
  split
  · exact .of_lcu rfl rfl
  · obtain ⟨ok, queue⟩ := State.lineErrorAt_queueStep (s := s) (u := s.modMsl (fun x => x.cut s.tick)) rfl rfl _
    exact ⟨fun k => (ok k).same rfl rfl rfl, queue⟩
  · exact .of_lcu rfl rfl

theorem setMicroLinkBlock_queueStep (s : State) (ps : List Byte) : s.QueueStep (setMicroLinkBlock s ps).2 := by
  unfold setMicroLinkBlock
  split
  · split
    · exact .refl s
    · exact s.changeRate_queueStep _
  · exact .refl s

theorem State.takeMessage_queueStep {s : State} {act : State → List Byte × State}
    (h : ∀ u : State, u.QueueStep (act u).2) : s.QueueStep (s.takeMessage act) := by
  unfold State.takeMessage
  split
  · dsimp only
    obtain ⟨ok, queue⟩ := h (s.modMsl (fun x => { x with messages := x.messages + 1 }))
    exact ⟨fun k => (ok (k.same rfl rfl rfl)).same rfl rfl rfl, queue⟩
  · exact .refl s

/-- Every command does no more to the record queue. -/
theorem exec_queueStep {i : Instr} {s t : State} (h : exec i s = .next t) : s.QueueStep t := by
  by_cases hi : reachesQueues i = false
  · have same := exec_sameCapture hi h
    exact .of_lcu same.lcu same.ready
  have law := s.queuePath_law
  have start := State.QueuePath.refl s
  have host : ∀ {code n body block}, (∀ ps, s.QueueStep (block s ps).2) → s.QueueStep (s.hostCommand code n body block) :=
    State.hostCommand_keeps (P := s.QueueStep) (fun _ _ _ k => k.answer _ _) (.refl s)
  have axis : ∀ {code body act}, (∀ a, s.QueueStep (act s a).2) → s.QueueStep (s.hostCommand code 1 body (axisCommand act)) :=
    fun ha => host (axisCommand_keeps (P := s.QueueStep) (.refl s) ha)
  cases i <;> first | exact absurd rfl hi | obtain rfl := Host.Outcome.next.inj h
  case sampleFrame a bits => exact (law.takeFrame start a bits).step
  case silenceTimerExpiry a =>
    split
    · exact (law.dropLink start a _).step
    · exact .refl s
  case setLink => exact host (fun ps => (law.setLinkBlock start ps).step)
  case datumNow => exact host (fun ps => (law.datumNowBlock start ps).step)
  case disableAxis => exact axis (fun a => (law.disableAxis start a).step)
  case axisRestart => exact axis (fun a => (law.axisRestart start a).step)
  case triggerEdge input edge =>
    split
    · exact .refl s
    · have path : s.QueuePath ((s.startDeadTime input).judgeEdge input edge) :=
        .judgeEdge (s := s) (u := s.startDeadTime input) (fun ok => ok.same rfl rfl rfl) rfl rfl input edge
      exact path.step
  case captureTimeoutExpiry =>
    split
    · exact (State.QueuePath.timeOutCapture id rfl rfl).step
    · exact .refl s
  case microQueueContext params =>
    refine State.takeMessage_queueStep (fun u => ?_)
    unfold microQueueAct
    (repeat' split) <;> exact .of_same rfl rfl rfl rfl
  case flushOwn params =>
    refine State.takeMessage_queueStep (fun u => ?_)
    unfold flushOwnAct
    split <;> exact .of_same rfl rfl rfl rfl
  case query params => exact State.takeMessage_queueStep (fun u => .refl u)
  case microUnknownCode code params =>
    split
    · exact .refl s
    · exact State.takeMessage_queueStep (fun u => .refl u)
  case lineError fault began =>
    split
    · exact .of_lcu rfl rfl
    · split
      · exact State.lineErrorAt_queueStep rfl rfl began
      · exact .refl s
  case gapDiscard =>
    split
    · refine .of_lcu (by simp) ?_
      rw [State.flagSet_raise]
      simp [State.flagSet]
    · exact .refl s
  case setTrigger =>
    refine host (fun ps => ?_)
    unfold setTriggerBlock
    split
    · split
      · dsimp only [State.accept]
        split <;> exact .of_same rfl rfl rfl rfl
      · exact .refl s
    · exact .refl s
  case queueContext =>
    refine host (fun ps => ?_)
    unfold queueContextBlock
    split
    · exact .refl s
    · split
      · exact .of_same rfl rfl rfl rfl
      · exact .of_lcu rfl (by simp [State.refuse, State.flagSet_raise])
  case flushContexts =>
    refine host (fun ps => ?_)
    unfold flushContextsBlock
    (repeat' split) <;> exact .of_same rfl rfl rfl rfl
  case setCapture => exact host (setCaptureBlock_queueStep s)
  case readCaptures => exact host (readCapturesBlock_queueStep s)
  case readCaptureState =>
    refine host (clearCommand_keeps (P := s.QueueStep) (.refl s) (fun c => ?_))
    cases c <;> exact .of_same rfl rfl rfl rfl
  case setMicroLink => exact host (setMicroLinkBlock_queueStep s)
  case clearEvents => exact host (clearEventsBlock_queueStep s)
  case powerOnReset => exact .reset rfl BitVec.getLsbD_zero
  case resetUnit =>
    split
    · exact .refl s
    · split
      · exact (State.QueueStep.refl s).answer _ _
      · exact .reset rfl BitVec.getLsbD_zero
  case deadTimeEnd | characterWhileWaitingForSilence | silenceWaitEnd | messageSent =>
    split <;> exact .of_same rfl rfl rfl rfl

/-- A line event leaves the record queue alone; the row it completes acts as a command. -/
theorem lineStep_queueStep {s t : State} {e : LineEvent} (h : lineStep e s = .next t) : s.QueueStep t := by
  have line : s.QueueStep (s.takeLine e).1 := .of_lcu (by simp) (s.takeLine_ready e _)
  unfold lineStep at h
  split at h
  · rename_i he
    rw [he] at line
    obtain ⟨ok, queue⟩ := exec_queueStep h
    have same : (s.takeLine e).1.lcu = s.lcu := by simp
    rw [he] at same
    exact ⟨fun k => ok (line.1 k), same ▸ queue⟩
  · rename_i he
    rw [he] at line
    cases h
    exact line

theorem step_queueStep {s t : State} (h : step s = .next t) : s.QueueStep t := by
  rcases step_cases h with ⟨i, q, e⟩ | ⟨i, e⟩ | ⟨e, q, hl⟩ | rfl
  · obtain ⟨ok, queue⟩ := exec_queueStep e
    exact ⟨fun k => ok (k.same rfl rfl rfl), queue⟩
  · exact exec_queueStep e
  · obtain ⟨ok, queue⟩ := lineStep_queueStep hl
    exact ⟨fun k => ok (k.same rfl rfl rfl), queue⟩
  · exact .of_same rfl rfl rfl rfl

end Sys2Proof.Machine

namespace Sys2Proof.Proofs

open Sys2Proof.Machine Sys2Proof.Claims

/-- Settles O12: a command finds the capture in flight or takes its number once, when that capture completes; the numbers then
rise by the way back to each. -/
theorem stepKeepsRecords : Obligations.StepKeepsRecords := by
  intro s t hs
  obtain ⟨ok, queue⟩ := step_queueStep hs
  refine ⟨ok, ?_, queue.numbersRise⟩
  rcases queue with reset | removed | ⟨hn, hr | ⟨k, r, hr, number⟩⟩
  · exact .inl reset
  · exact .inr (.inl removed)
  · exact .inr (.inr (.inl ⟨hr, hn⟩))
  · exact .inr (.inr (.inr ⟨k, r, hr, number, hn⟩))

end Sys2Proof.Proofs

namespace Sys2Proof.Machine

open Sys2Proof.Claims

/-! ## The microscope link keeps its law (R141, R142, R145) -/

/-- Every answer and every ECHO is a message of 3 to 14 characters (Formats). -/
def MessageFits (m : List Byte) : Prop := 3 ≤ m.length ∧ m.length ≤ 14

theorem refusedMessage_fits (r : MicroRefusal) : MessageFits (refusedMessage r) :=
  ⟨Nat.le_refl 3, show 3 ≤ 14 by decide⟩

theorem acceptedMessage_fits (n : Nat) : MessageFits (acceptedMessage n) := ⟨Nat.le_refl 3, show 3 ≤ 14 by decide⟩

theorem stateMessage_fits (x : LineCapture) : MessageFits x.stateMessage := by
  simp [MessageFits, LineCapture.stateMessage, message]

theorem echoMessage_fits (r : Record) (e : RecordEntry) : MessageFits (echoMessage r e) := by
  simp [MessageFits, echoMessage, message]

theorem MicroLink.Ok.receives {x : MicroLink} (h : x.Ok) {rx : RxState}
    (hrx : ∀ chars began, rx = .assembling chars began →
      ∃ len rest, chars = len :: rest ∧ 1 ≤ len.toNat ∧ len.toNat ≤ 23 ∧ rest.length < len.toNat) : { x with rx := rx }.Ok :=
  { h with assembling := hrx }

theorem MicroLink.Ok.waits {x : MicroLink} (h : x.Ok) (began : Tick) : { x with rx := .waiting began }.Ok :=
  h.receives nofun

theorem MicroLink.Ok.idles {x : MicroLink} (h : x.Ok) : { x with rx := .idle }.Ok := h.receives nofun

theorem MicroLink.Ok.countLineError {x : MicroLink} (h : x.Ok) : x.countLineError.Ok :=
  { h with counters := ⟨satAdd_le _ _ _, h.counters.2⟩ }

/-- A message that fits is discarded and counted, or joins the queue, where it is being sent if it is alone (R145). -/
theorem State.offerMessage_mslOk {s : State} (h : s.msl.Ok) {m : List Byte} (hm : MessageFits m) :
    (s.offerMessage m).msl.Ok := by
  rcases s.offerMessage_cases m with ⟨_, e⟩ | ⟨room, e⟩ <;> rw [e]
  · exact { h with counters := ⟨h.counters.1, h.counters.2.1, satAdd_le _ _ _⟩ }
  · refine { h with depth := ?_, quiet := ?_, lengths := fun n hn => ?_ }
    · rw [State.modMsl_msl, List.length_append, List.length_singleton]
      omega
    · have := h.quiet
      cases ho : s.msl.out <;> simp_all
    · rcases List.mem_append.mp hn with hn | hn
      · exact h.lengths n hn
      · exact List.mem_singleton.mp hn ▸ hm

theorem State.completeIfSettled_mslOk {s : State} (h : s.msl.Ok) : s.completeIfSettled.msl.Ok := by
  rcases s.completeIfSettled_cases with ⟨c, _, _, e⟩ | ⟨_, e⟩ <;> rw [e]
  · unfold State.completeCapture
    dsimp only
    split
    · exact State.offerMessage_mslOk (by simpa using h) (echoMessage_fits _ _)
    · simpa using h
  · exact h

theorem State.progressEntry_mslOk {s : State} (h : s.msl.Ok) (a : Axis)
    (f : Capture → PhysEntry → Option HistEntry → EntryProgress) : (s.progressEntry a f).msl.Ok := by
  rcases s.progressEntry_cases a f with e | ⟨c, x, b, _, _, _, e⟩ <;> rw [e]
  · exact h
  · exact State.completeIfSettled_mslOk h

/-- The sample path reaches the link by the ECHO of a completed capture alone. -/
theorem mslOk_law : QueueLaw (fun u => u.msl.Ok) where
  same e h := e.msl ▸ h
  report a _ h := State.progressEntry_mslOk h a _
  offer a _ h := State.progressEntry_mslOk h a _

theorem State.timeOutCapture_mslOk {s : State} (h : s.msl.Ok) : s.timeOutCapture.msl.Ok := by
  unfold State.timeOutCapture
  split
  · exact State.completeIfSettled_mslOk h
  · exact h

theorem State.judgeEdge_mslOk {s : State} (h : s.msl.Ok) (input : TrigInput) (edge : EdgeDir) :
    (s.judgeEdge input edge).msl.Ok := by
  unfold State.judgeEdge
  split
  · exact h
  · split
    · split
      · exact State.completeIfSettled_mslOk h
      · simpa [State.missEdge] using h
    · exact h

theorem State.takeMessage_mslOk {s : State} (h : s.msl.Ok) {act : State → List Byte × State}
    (ha : ∀ u : State, (act u).2.msl = u.msl ∧ MessageFits (act u).1) : (s.takeMessage act).msl.Ok := by
  unfold State.takeMessage
  split
  · obtain ⟨same, fits⟩ := ha (s.modMsl (fun x => { x with messages := x.messages + 1 }))
    refine State.offerMessage_mslOk ?_ fits
    rw [same]
    exact { h with }
  · exact h

theorem State.lineErrorAt_mslOk {s : State} (h : s.msl.Ok) (began : Tick) : (s.lineErrorAt began).msl.Ok :=
  State.offerMessage_mslOk (h.countLineError.waits began) (refusedMessage_fits _)

theorem State.ignoredCharacter_mslOk {s : State} (h : s.msl.Ok) (b : Bool) (began : Tick) :
    (s.ignoredCharacter b began).msl.Ok := by
  cases b
  · exact h.waits began
  · exact h.countLineError.waits began

theorem MicroLink.Ok.cut {x : MicroLink} (h : x.Ok) (tick : Tick) : (x.cut tick).Ok := by
  unfold MicroLink.cut
  split
  · rename_i ho
    exact { h with quiet := by simp [ho] }
  · exact h

/-- The head message is gone; the next one is being sent, and the link is quiet where there is none (R145). -/
theorem MicroLink.Ok.sent {x : MicroLink} (h : x.Ok) (tick : Tick) : (x.sent tick).Ok where
  depth := by
    have := h.depth
    rw [MicroLink.sent, List.length_drop]
    omega
  quiet := by
    rw [MicroLink.sent]
    dsimp only
    cases x.out.drop 1 <;> simp
  lengths m hm := h.lengths m (List.mem_of_mem_drop hm)
  rate := h.rate
  counters := h.counters
  assembling := h.assembling

theorem setMicroLinkBlock_mslOk {s : State} (h : s.msl.Ok) (ps : List Byte) : (setMicroLinkBlock s ps).2.msl.Ok := by
  unfold setMicroLinkBlock
  split
  · rename_i rate hr
    split
    · exact h
    · have dropped : ((s.modMsl (fun x => x.cut s.tick)).dropAssembly).msl.Ok := by
        unfold State.dropAssembly
        split
        · exact h.cut _
        · exact State.lineErrorAt_mslOk (h.cut _) _
        · exact h.cut _
      exact { dropped with rate := natIn_bounds hr }
  · exact h

/-- Every command keeps the law of the microscope link. -/
theorem exec_mslOk {i : Instr} {s t : State} (hs : s.msl.Ok) (h : exec i s = .next t) : t.msl.Ok := by
  by_cases hi : reachesQueues i = false
  · exact (exec_sameCapture hi h).msl ▸ hs
  have law := mslOk_law
  have host : ∀ {code n body block}, (∀ ps, (block s ps).2.msl.Ok) → (s.hostCommand code n body block).msl.Ok :=
    State.hostCommand_keeps (P := fun u => u.msl.Ok) (fun _ _ _ k => by simpa using k) hs
  have axis : ∀ {code body act}, (∀ a, (act s a).2.msl.Ok) → (s.hostCommand code 1 body (axisCommand act)).msl.Ok :=
    fun ha => host (axisCommand_keeps (P := fun u => u.msl.Ok) hs ha)
  cases i <;> first | exact absurd rfl hi | obtain rfl := Host.Outcome.next.inj h
  case sampleFrame a bits => exact law.takeFrame hs a bits
  case silenceTimerExpiry a =>
    split
    · exact law.dropLink hs a _
    · exact hs
  case setLink => exact host (law.setLinkBlock hs)
  case datumNow => exact host (law.datumNowBlock hs)
  case disableAxis => exact axis (law.disableAxis hs)
  case axisRestart => exact axis (law.axisRestart hs)
  case triggerEdge input edge =>
    split
    · exact hs
    · exact State.judgeEdge_mslOk (s := s.startDeadTime input) hs input edge
  case captureTimeoutExpiry =>
    split
    · exact State.timeOutCapture_mslOk hs
    · exact hs
  case microQueueContext params =>
    refine State.takeMessage_mslOk hs (fun u => ?_)
    unfold microQueueAct
    split
    · exact ⟨rfl, refusedMessage_fits _⟩
    · split
      · exact ⟨rfl, acceptedMessage_fits _⟩
      · exact ⟨rfl, refusedMessage_fits _⟩
  case flushOwn params =>
    refine State.takeMessage_mslOk hs (fun u => ?_)
    unfold flushOwnAct
    split
    · exact ⟨rfl, acceptedMessage_fits _⟩
    · exact ⟨rfl, refusedMessage_fits _⟩
  case query params =>
    refine State.takeMessage_mslOk hs (fun u => ⟨rfl, ?_⟩)
    unfold queryAct
    split
    · exact stateMessage_fits _
    · exact refusedMessage_fits _
  case microUnknownCode code params =>
    split
    · exact hs
    · exact State.takeMessage_mslOk hs (fun u => ⟨rfl, refusedMessage_fits _⟩)
  case lineError fault began =>
    split
    · exact State.ignoredCharacter_mslOk hs _ _
    · split
      · exact State.lineErrorAt_mslOk hs began
      · exact hs
  case characterWhileWaitingForSilence b began =>
    split
    · exact State.ignoredCharacter_mslOk hs _ _
    · exact hs
  case gapDiscard =>
    split
    · exact { hs.idles with counters := ⟨hs.counters.1, satAdd_le _ _ _, hs.counters.2.2⟩ }
    · exact hs
  case silenceWaitEnd =>
    split
    · exact hs.idles
    · exact hs
  case messageSent =>
    split
    · exact hs.sent _
    · exact hs
  case setCapture =>
    refine host (fun ps => ?_)
    unfold setCaptureBlock
    split
    · split
      · dsimp only [State.accept]
        split
        · exact State.timeOutCapture_mslOk (by simpa using hs)
        · simpa using hs
      · exact hs
    · exact hs
  case readCaptureState =>
    refine host (clearCommand_keeps (P := fun u => u.msl.Ok) hs (fun c => ?_))
    cases c
    · exact hs
    · exact { hs with counters := ⟨Nat.zero_le _, Nat.zero_le _, Nat.zero_le _⟩ }
  case setMicroLink => exact host (setMicroLinkBlock_mslOk hs)
  case powerOnReset => exact MicroLink.reset_ok
  case resetUnit =>
    split
    · exact hs
    · split
      · simpa using hs
      · exact MicroLink.reset_ok
  case deadTimeEnd => split <;> exact hs
  case setTrigger | queueContext | flushContexts | readCaptures | clearEvents =>
    refine host (fun ps => ?_)
    simp only [setTriggerBlock, queueContextBlock, flushContextsBlock, readCapturesBlock, clearEventsBlock]
    (repeat' split) <;> exact hs

/-! ## The receiver of the microscope link (R142, R143) -/

theorem isMessageLength_iff (len : Byte) : isMessageLength len = true ↔ 1 ≤ len.toNat ∧ len.toNat ≤ 23 := by
  rw [isMessageLength, Bool.and_eq_true, decide_eq_true_iff, decide_eq_true_iff, Config.maxMicroLength]

/-- A character joins a message of a good LEN, and leaves none being assembled that has its LEN bytes (R142). -/
theorem State.takeCharacter_mslOk {s : State} (h : s.msl.Ok) (byte : Byte) (began : Tick) :
    (s.takeCharacter byte began).1.msl.Ok := by
  unfold State.takeCharacter
  split
  · split
    · rename_i fits
      obtain ⟨low, high⟩ := (isMessageLength_iff byte).mp fits
      exact h.receives (fun chars b e => by cases e; exact ⟨byte, [], rfl, low, high, low⟩)
    · exact h
  · rename_i chars _ hrx
    split
    · exact h.idles
    · rename_i incomplete
      obtain ⟨len, rest, rfl, low, high, _⟩ := h.assembling _ _ hrx
      refine h.receives (fun more b e => ?_)
      cases e
      refine ⟨len, rest ++ [byte], rfl, low, high, ?_⟩
      simpa [messageComplete] using incomplete
  · exact h

theorem MicroLink.Ok.begins {x : MicroLink} (h : x.Ok) (tick : Tick) : (x.begins tick).Ok := by
  refine { h with assembling := fun chars began e => ?_ }
  dsimp only [MicroLink.begins] at e
  split at e
  · cases e
  · rename_i hrx
    cases e
    exact h.assembling _ _ hrx
  · cases e

theorem State.takeLine_mslOk {s : State} (h : s.msl.Ok) (e : LineEvent) : (s.takeLine e).1.msl.Ok := by
  cases e with
  | microBegins => exact h.begins _
  | microEnds byte parityOk stopOk =>
    have ended : (s.modMsl (fun x => { x with underWay := none })).msl.Ok := { h with }
    simp only [State.takeLine, State.endCharacter]
    split
    · exact h
    · split
      · exact State.takeCharacter_mslOk ended _ _
      · split
        · exact ended
        · exact ended
  | _ =>
    simp only [State.takeLine, State.endSampleFrame, State.takeServoClock, State.deselectHost, State.takeConditionsCharacter]
    (repeat' split) <;> exact h

end Sys2Proof.Machine

namespace Sys2Proof.Proofs

open Sys2Proof.Machine Sys2Proof.Claims

/-- Settles O13: every message offered is short enough, a queue is being sent or empty, and characters are counted against
their LEN. -/
theorem stepKeepsMicroLink : Obligations.StepKeepsMicroLink := by
  intro s t h hs
  exact step_induction (P := fun u => u.msl.Ok) h hs (fun _ _ k => k) (fun _ _ k => k) (fun _ _ _ k e => exec_mslOk k e)
    (fun _ e k => State.takeLine_mslOk k e) (fun _ k => k)

end Sys2Proof.Proofs

namespace Sys2Proof.Machine

open Sys2Proof.Claims

/-! ## An entry between its history entries (R129) -/

/-- The share of a difference that falls in a part of an interval, rounded, lies between nothing and the whole. -/
theorem roundDiv_share_between (diff : Int) {part whole : Int} (hw : 0 < whole) (h0 : 0 ≤ part) (h1 : part ≤ whole) :
    min 0 diff ≤ roundDiv (diff * part) whole ∧ roundDiv (diff * part) whole ≤ max 0 diff := by
  rcases le_total 0 diff with pos | neg
  · have low : 0 ≤ diff * part := Int.mul_nonneg pos h0
    have high : diff * part ≤ diff * whole := Int.mul_le_mul_of_nonneg_left h1 pos
    have := roundDiv_between (n := diff * part) (lo := 0) (hi := diff) hw (by linarith) (by linarith)
    omega
  · have high : diff * part ≤ 0 := Int.mul_nonpos_of_nonpos_of_nonneg neg h0
    have low : diff * whole ≤ diff * part := Int.mul_le_mul_of_nonpos_left neg h1
    have := roundDiv_between (n := diff * part) (lo := diff) (hi := 0) hw (by linarith) (by linarith)
    omega

theorem later_iff (x y : Tick) : later x y = true ↔ 0 < (x - y).toInt := decide_eq_true_iff

theorem later_eq_false_iff (x y : Tick) : later x y = false ↔ (x - y).toInt ≤ 0 := by
  rw [later, decide_eq_false_iff_not, not_lt]
  rfl

theorem settleEntry_epoch {c : Capture} {a : Axis} {st : AxisState} {epoch : BitVec 4} {before after : HistEntry}
    (h : before.epoch ≠ epoch ∨ after.epoch ≠ epoch) : settleEntry c a st epoch before after = .settled .datum 0 0 := by
  rw [settleEntry, if_pos h, settledBad]

theorem settleEntry_notReferenced {c : Capture} {a : Axis} {st : AxisState} {epoch : BitVec 4} {before after : HistEntry}
    (hb : before.epoch = epoch) (ha : after.epoch = epoch) (hst : st ≠ .referenced) :
    settleEntry c a st epoch before after = .settled .notValid 0 0 := by
  rw [settleEntry, if_neg (by simp [hb, ha]), if_pos hst, settledBad]

/-- An entry whose axis counts on takes the interpolated count and its length, where the length fits (R87, R129). -/
theorem settleEntry_referenced {c : Capture} {a : Axis} {st : AxisState} {epoch : BitVec 4} {before after : HistEntry}
    (hb : before.epoch = epoch) (ha : after.epoch = epoch) (hst : st = .referenced) {x16 len : Int}
    (hx : x16 = interpolate16 c.tTrig before after) (hl : len = roundDiv (x16 * c.kset.get a) 1048576) :
    settleEntry c a st epoch before after =
      if len < -140737488355327 ∨ 140737488355327 < len then .settled .notValid 0 0
      else if before.kind = .bridged ∨ (after.kind = .bridged ∧ 0 < (c.tTrig - before.instant).toInt) then
        .settled .bridged x16 len
      else .settled .ok x16 len := by
  have length : length16Of (.phys a) c.kset (fun _ => x16) = len := hl.symm
  rw [settleEntry, if_neg (by simp [hb, ha]), if_neg (fun h => h hst)]
  dsimp only
  rw [← hx, length]
  simp only [overflows_iff, lengthMax, later_iff, settledBad]

end Sys2Proof.Machine

namespace Sys2Proof.Proofs

open Sys2Proof.Machine Sys2Proof.Claims

/-- Settles O38: the interpolated difference is the share of the whole difference that the trigger instant has reached. -/
theorem entriesSettleByInterpolation : Obligations.EntriesSettleByInterpolation := by
  intro c a st epoch before after x16 len hx hl
  refine ⟨settleEntry_epoch, settleEntry_notReferenced, fun hb ha hst => settleEntry_referenced hb ha hst hx hl,
    fun x s0 s1 x0 x1 h => derivedOutcome_eq c h s0 s1 x0 x1, fun hp hq whole => ?_⟩
  have reached : (c.tTrig - before.instant).toInt ≤ (after.instant - before.instant).toInt := by omega
  have share := roundDiv_share_between (16 * (after.acc - before.acc)) (by omega) hp reached
  omega

end Sys2Proof.Proofs

namespace Sys2Proof.Machine

open Sys2Proof.Claims

/-! ## A completed capture in the vocabulary of the statements (R132 to R135, R138) -/

theorem State.offerMessage_eq (s : State) (m : List Byte) : s.offerMessage m = offered s m := by
  simp only [State.offerMessage, State.modMsl, offered, Config.outgoingCapacity, satAdd, List.isEmpty_iff]

theorem echoMessage_eq (r : Record) (y : RecordEntry) : echoMessage r y = echoData r y := by
  simp [echoMessage, echoData, message, byteOf, one, sourceStatusByte, sourceAndStatus]

theorem settledAxis_eq (c : Capture) (a : Axis) :
    settledAxis c a = (c.outcome a).map (fun o => (c.epochOf (.phys a), o)) := by
  simp only [settledAxis, Capture.outcome, Capture.epochOf]
  rcases c.phys.get a with _ | ⟨e, _ | _⟩ <;> rfl

/-- The entry of a source is its outcome under its epoch (R132, R133). -/
theorem entryOf_eq (c : Capture) (x : Source) :
    entryOf c x = (c.sourceOutcome x).map (fun o =>
      { source := x, status := o.1, epoch := c.epochOf x, position := o.2 }) := by
  cases x with
  | phys a =>
    simp only [entryOf, settledAxis_eq, Capture.sourceOutcome, Option.map_map]
    rfl
  | m =>
    simp only [entryOf, settledAxis_eq, Capture.sourceOutcome, derivedOutcome_eq c (.inl rfl)]
    cases c.outcome .q0 <;> cases c.outcome .q1 <;> rfl
  | w =>
    simp only [entryOf, settledAxis_eq, Capture.sourceOutcome, derivedOutcome_eq c (.inr rfl)]
    cases c.outcome .q0 <;> cases c.outcome .q1 <;> rfl

theorem Capture.entries_eq (c : Capture) :
    c.entries = (six.filter (fun x => c.sources.getLsbD x.toNat)).filterMap (entryOf c) := by
  simp only [Capture.entries, funext (entryOf_eq c)]
  rfl

theorem mem_six (x : Source) : x ∈ six := by rcases x with (_ | _ | _ | _) | _ | _ <;> decide

/-- An entry of a record stands for a source of the capture, as that source settled. -/
theorem Capture.mem_entries {c : Capture} {y : RecordEntry} (h : y ∈ c.entries) :
    c.sources.getLsbD y.source.toNat = true ∧ entryOf c y.source = some y := by
  rw [Capture.entries_eq] at h
  obtain ⟨x, hx, e⟩ := List.mem_filterMap.mp h
  have source : y.source = x := by
    rw [entryOf_eq] at e
    obtain ⟨_, _, rfl⟩ := Option.map_eq_some_iff.mp e
    rfl
  rw [source]
  exact ⟨(List.mem_filter.mp hx).2, e⟩

theorem Capture.mem_entries_of {c : Capture} {x : Source} (hx : c.sources.getLsbD x.toNat = true) {y : RecordEntry}
    (h : entryOf c x = some y) : y ∈ c.entries := by
  rw [Capture.entries_eq]
  exact List.mem_filterMap.mpr ⟨x, List.mem_filter.mpr ⟨mem_six x, hx⟩, h⟩

/-- The entries of a record come in the order of their sources (R133). -/
theorem Capture.entries_order (c : Capture) : c.entries.Pairwise (fun x y => x.source.toNat < y.source.toNat) := by
  have ordered : six.Pairwise (fun x y => x.toNat < y.toNat) := by decide
  rw [Capture.entries_eq, List.pairwise_filterMap]
  refine (ordered.filter _).imp fun {x y} lt p hp q hq => ?_
  rw [entryOf_eq] at hp hq
  obtain ⟨_, _, rfl⟩ := Option.map_eq_some_iff.mp hp
  obtain ⟨_, _, rfl⟩ := Option.map_eq_some_iff.mp hq
  exact lt

theorem State.completeCapture_overflow (s : State) (c : Capture) :
    (s.completeCapture c).flagSet .captureOverflow =
      (s.flagSet .captureOverflow || decide (32 ≤ s.lcu.records.length)) := by
  have raised (u : State) (b : Bool) :
      (u.raiseIf b .captureOverflow).judgeReady.flagSet .captureOverflow = (u.flagSet .captureOverflow || b) := by
    rw [State.flagSet_judgeReady, if_neg (by decide)]
    cases b
    · exact (Bool.or_false _).symm
    · exact u.flagSet_raise _ _
  unfold State.completeCapture
  dsimp only
  split <;> exact raised _ _

/-- A capture without the ECHO option sends nothing (R138). -/
theorem State.completeCapture_msl_silent (s : State) {c : Capture} (he : c.echo = false) :
    (s.completeCapture c).msl = s.msl := by
  simp [State.completeCapture, he]

/-- One with it offers an ECHO of its first entry (R138). -/
theorem State.completeCapture_msl_echo (s : State) {c : Capture} (he : c.echo = true) {y : RecordEntry}
    {rest : List RecordEntry} (hr : c.entries = y :: rest) :
    (s.completeCapture c).msl = (offered s (echoData (recordOf c s.lcu.recordNo s.lcu.missed) y)).msl := by
  simp [State.completeCapture, recordOf, he, hr, State.offerMessage_eq, echoMessage_eq, offered]

/-- The completion of a capture does what the rules say of it, whatever stood for it in the unit before (R133 to R135, R138). -/
theorem State.completeCapture_completed {s u : State} {k : Option Capture}
    (hu : u = { s with lcu := { s.lcu with capture := k } }) (c : Capture) :
    CaptureCompleted s (u.completeCapture c) c (recordOf c s.lcu.recordNo s.lcu.missed) := by
  subst hu
  constructor
  case entries => exact c.entries_eq
  case fields => rfl
  case order => exact c.entries_order
  case sources => exact fun y hy => (Capture.mem_entries hy).1
  case unit =>
    rw [State.completeCapture_lcu]
    rfl
  case ready => exact State.completeCapture_ready _ c
  case overflow => exact State.completeCapture_overflow _ c
  case otherFlags =>
    intro i hi
    by_cases h : i < 27
    · exact State.completeCapture_flags _ c hi h
    · rw [BitVec.getLsbD_of_ge _ _ (by omega), BitVec.getLsbD_of_ge _ _ (by omega)]
  case noEcho =>
    exact fun he => State.completeCapture_msl_silent _ he
  case echoed =>
    exact fun y rest he hr => State.completeCapture_msl_echo _ he hr
  case others => simp

/-- Something in a capture waits as long as one of its entries does. -/
theorem Capture.isSettled_iff (c : Capture) :
    c.isSettled = true ↔ ∀ a x b, c.phys.get a = some x → x.progress ≠ .waiting b := by
  have waits (e : PhysEntry) : e.waits = true ↔ ∃ b, e.progress = .waiting b := by
    unfold PhysEntry.waits
    split <;> simp [*]
  have mem (o : Option PhysEntry) : o ∈ c.phys.toList ↔ ∃ a, c.phys.get a = o := by
    constructor
    · intro h
      simp only [Four.toList, List.mem_cons, List.not_mem_nil, or_false] at h
      rcases h with rfl | rfl | rfl | rfl
      · exact ⟨.q0, rfl⟩
      · exact ⟨.q1, rfl⟩
      · exact ⟨.q2, rfl⟩
      · exact ⟨.q3, rfl⟩
    · rintro ⟨a, rfl⟩
      cases a <;> simp [Four.toList, Four.get]
  simp only [Capture.isSettled, List.all_eq_true, mem]
  constructor
  · intro h a x b hx hb
    have := h _ ⟨a, rfl⟩
    rw [hx] at this
    simp [(waits x).mpr ⟨b, hb⟩] at this
  · rintro h _ ⟨a, rfl⟩
    cases hx : c.phys.get a with
    | none => rfl
    | some x =>
      have := mt (waits x).mp (fun ⟨b, hb⟩ => h a x b hx hb)
      simpa using this

theorem State.completeIfSettled_settled {s : State} {c : Capture} (hc : s.lcu.capture = some c) (h : c.isSettled = true) :
    s.completeIfSettled = s.completeCapture c := by
  rw [State.completeIfSettled, hc]
  exact if_pos h

theorem State.completeIfSettled_waits {s : State} {c : Capture} (hc : s.lcu.capture = some c) (h : c.isSettled = false) :
    s.completeIfSettled = s := by
  rw [State.completeIfSettled, hc]
  exact if_neg (by simp [h])

end Sys2Proof.Machine

namespace Sys2Proof.Machine

open Sys2Proof.Claims

/-! ## A capture that times out (R131) -/

theorem State.captureDue_eq (s : State) :
    s.captureDue = ranOut s.tick (s.lcu.capture.map (fun c => c.edgeTick)) (s.lcu.timeout * 100) :=
  timerDue_eq_ranOut _ _ _

theorem PhysEntry.timeOut_waiting {x : PhysEntry} {b : Option HistEntry} (h : x.progress = .waiting b) :
    x.timeOut = { x with progress := .settled .timeout 0 0 } := by
  rw [PhysEntry.timeOut, PhysEntry.waits, h]
  exact if_pos rfl

theorem PhysEntry.timeOut_settled {x : PhysEntry} {st : Status} {x16 pos : Int} (h : x.progress = .settled st x16 pos) :
    x.timeOut = x := by
  rw [PhysEntry.timeOut, PhysEntry.waits, h]
  exact if_neg Bool.false_ne_true

/-- An entry leaves the timeout settled with the status and count the statements name. -/
theorem PhysEntry.timeOut_eq (x : PhysEntry) :
    ∃ pos, x.timeOut = { x with progress := .settled (timedOut x).1 (timedOut x).2 pos } := by
  obtain ⟨epoch, b | ⟨st, x16, pos⟩⟩ := x
  · exact ⟨0, PhysEntry.timeOut_waiting rfl⟩
  · exact ⟨pos, PhysEntry.timeOut_settled rfl⟩

/-- Every entry leaves the timeout settled, so the capture completes. -/
theorem State.timeOutCapture_eq {s : State} {c c' : Capture} (hc : s.lcu.capture = some c)
    (hc' : c' = { c with phys := c'.phys }) (timed : ∀ a, c'.phys.get a = (c.phys.get a).map PhysEntry.timeOut) :
    s.timeOutCapture = State.completeCapture { s with lcu := { s.lcu with capture := some c' } } c' := by
  have phys : c.phys.mapIdx (fun _ e => e.map PhysEntry.timeOut) = c'.phys :=
    Four.ext_get _ _ (fun a => by rw [Four.get_mapIdx, timed])
  have settled : c'.isSettled = true := by
    refine c'.isSettled_iff.mpr fun a x b hx hb => ?_
    rw [timed] at hx
    obtain ⟨y, _, rfl⟩ := Option.map_eq_some_iff.mp hx
    obtain ⟨pos, e⟩ := y.timeOut_eq
    rw [e] at hb
    cases hb
  rw [State.timeOutCapture, hc]
  dsimp only
  rw [phys, ← hc']
  exact State.completeIfSettled_settled rfl settled

theorem settledAxis_of {c : Capture} {a : Axis} {epoch : BitVec 4} {st : Status} {x16 pos : Int}
    (h : c.phys.get a = some { epoch := epoch, progress := .settled st x16 pos }) :
    settledAxis c a = some (epoch, st, x16, pos) := by
  rw [settledAxis, h]

/-- The entry of an axis in the record, as it settled. -/
theorem Capture.phys_mem_entries {c : Capture} {a : Axis} (ha : c.sources.getLsbD a.toNat = true)
    {epoch : BitVec 4} {st : Status} {x16 pos : Int} (h : c.phys.get a = some { epoch := epoch, progress := .settled st x16 pos }) :
    { source := .phys a, status := st, epoch := epoch, position := pos } ∈ c.entries := by
  refine Capture.mem_entries_of (x := .phys a) ha ?_
  rw [entryOf, settledAxis_of h]
  rfl

/-- The entry of M or W in the record, from those of A0 and A1 as they settled (R132). -/
theorem Capture.pair_mem_entries {c : Capture} {x : Source} (hp : x = .m ∨ x = .w) (hx : c.sources.getLsbD x.toNat = true)
    {e0 e1 : BitVec 4} {s0 s1 : Status} {x0 x1 p0 p1 : Int}
    (h0 : c.phys.get .q0 = some { epoch := e0, progress := .settled s0 x0 p0 })
    (h1 : c.phys.get .q1 = some { epoch := e1, progress := .settled s1 x1 p1 }) :
    { source := x, status := (pairEntry c.kset x s0 s1 x0 x1).1, epoch := c.mEpoch
      position := (pairEntry c.kset x s0 s1 x0 x1).2 } ∈ c.entries := by
  refine Capture.mem_entries_of hx ?_
  rcases hp with rfl | rfl <;> simp only [entryOf, settledAxis_of h0, settledAxis_of h1]

end Sys2Proof.Machine

namespace Sys2Proof.Proofs

open Sys2Proof.Machine Sys2Proof.Claims

/-- Settles O37: the timeout leaves every entry settled, so the capture completes with each entry as it then stands. -/
theorem captureTimesOut : Obligations.CaptureTimesOut := by
  intro s
  refine ⟨fun early => ?_, fun c c' hc due same phys => ?_⟩
  · rw [exec, execCaptureTimeoutExpiry, State.captureDue_eq, early]
    rfl
  · have timed (a : Axis) : c'.phys.get a = (c.phys.get a).map PhysEntry.timeOut := by
      rw [phys]
      congr 1
      funext y
      obtain ⟨epoch, _ | _⟩ := y <;> rfl
    have sources : c'.sources = c.sources := by rw [same]
    have expires : exec .captureTimeoutExpiry s = .next s.timeOutCapture := by
      rw [exec, execCaptureTimeoutExpiry, State.captureDue_eq, hc]
      exact congrArg _ (if_pos due)
    rw [State.timeOutCapture_eq hc same timed] at expires
    refine ⟨_, _, expires, State.completeCapture_completed rfl c', fun a x b ha hx hb => ?_, fun a x st x16 pos ha hx hs => ?_,
      fun x y0 y1 hp hm h0 h1 => ?_⟩
    · refine Capture.phys_mem_entries (x16 := 0) (sources ▸ ha) ?_
      rw [timed, hx, Option.map_some, PhysEntry.timeOut_waiting hb]
    · refine Capture.phys_mem_entries (x16 := x16) (sources ▸ ha) ?_
      rw [timed, hx, Option.map_some, PhysEntry.timeOut_settled hs, ← hs]
    · obtain ⟨p0, e0⟩ := y0.timeOut_eq
      obtain ⟨p1, e1⟩ := y1.timeOut_eq
      have h0 := (timed .q0).trans (by rw [h0, Option.map_some, e0])
      have h1 := (timed .q1).trans (by rw [h1, Option.map_some, e1])
      have entry := Capture.pair_mem_entries hp (sources ▸ hm) h0 h1
      rw [same] at entry
      rw [same]
      exact entry

end Sys2Proof.Proofs

namespace Sys2Proof.Machine

open Sys2Proof.Claims

/-! ## Reports and samples at the capture in flight (R128 to R130) -/

/-- An axis has a waiting entry in the capture in flight. -/
def State.awaits (s : State) (a : Axis) : Prop :=
  ∃ c x b, s.lcu.capture = some c ∧ c.phys.get a = some x ∧ x.progress = .waiting b

/-- Nothing reaches an axis without a waiting entry. -/
theorem State.progressEntry_of_not_awaits {s : State} {a : Axis} (h : ¬ s.awaits a)
    (f : Capture → PhysEntry → Option HistEntry → EntryProgress) : s.progressEntry a f = s := by
  rcases s.progressEntry_cases a f with e | ⟨c, x, b, hc, hx, hb, _⟩
  · exact e
  · exact absurd ⟨c, x, b, hc, hx, hb⟩ h

/-- The entry of an axis in a capture with new progress. -/
def Capture.progressed (c : Capture) (a : Axis) (x : PhysEntry) (p : EntryProgress) : Capture :=
  { c with phys := c.phys.set a (some { x with progress := p }) }

/-- A state with another capture in flight. -/
def State.inFlight (s : State) (c : Capture) : State := { s with lcu := { s.lcu with capture := some c } }

section

variable {s : State} {c : Capture} {a : Axis} {x : PhysEntry} {b : Option HistEntry}

theorem Capture.progressed_settled {p : EntryProgress} (hp : ∀ b, p ≠ .waiting b)
    (others : ∀ a' x' b', a' ≠ a → c.phys.get a' = some x' → x'.progress ≠ .waiting b') :
    (c.progressed a x p).isSettled = true := by
  refine (Capture.isSettled_iff _).mpr fun a' x' b' hx' => ?_
  rw [Capture.progressed, Four.get_set] at hx'
  split at hx'
  · cases hx'
    exact hp b'
  · rename_i ha
    exact others a' x' b' ha hx'

theorem Capture.progressed_waits {p : EntryProgress}
    (h : (∃ b, p = .waiting b) ∨ ∃ a' x' b', a' ≠ a ∧ c.phys.get a' = some x' ∧ x'.progress = .waiting b') :
    (c.progressed a x p).isSettled = false := by
  refine Bool.eq_false_iff.mpr fun settled => ?_
  have none := (Capture.isSettled_iff _).mp settled
  rcases h with ⟨b, hb⟩ | ⟨a', x', b', ha, hx', hb⟩
  · exact none a { x with progress := p } b (Four.get_set_self _ _ _) hb
  · exact none a' x' b' (by rw [Capture.progressed, Four.get_set_ne _ _ ha, hx']) hb

theorem State.progressEntry_waiting (hc : s.lcu.capture = some c) (hx : c.phys.get a = some x) (hb : x.progress = .waiting b)
    (f : Capture → PhysEntry → Option HistEntry → EntryProgress) :
    s.progressEntry a f = (s.inFlight (c.progressed a x (f c x b))).completeIfSettled := by
  simp only [State.progressEntry, hc, hx, hb]
  rfl

/-- A waiting entry takes what a report settles it with (R130). -/
theorem State.reportToCapture_waiting (hc : s.lcu.capture = some c) (hx : c.phys.get a = some x) (hb : x.progress = .waiting b)
    (r : AxisReport) : s.reportToCapture a r =
      (s.inFlight (c.progressed a x (.settled (if r = .epochChange then .datum else .lost) 0 0))).completeIfSettled := by
  rw [State.reportToCapture, State.progressEntry_waiting hc hx hb]
  cases r <;> rfl

/-- A sample up to the trigger instant becomes the before entry of a waiting entry (R128). -/
theorem State.offerToCapture_before (hc : s.lcu.capture = some c) (hx : c.phys.get a = some x) (hb : x.progress = .waiting b)
    {h : HistEntry} (le : (h.instant - c.tTrig).toInt ≤ 0) :
    s.offerToCapture a h = s.inFlight (c.progressed a x (.waiting (some h))) := by
  rw [State.offerToCapture, State.progressEntry_waiting hc hx hb, if_neg (by simpa [later_iff] using le)]
  exact State.completeIfSettled_waits rfl (Capture.progressed_waits (.inl ⟨_, rfl⟩))

/-- A later sample settles it, by interpolation from its before entry (R128, R129). -/
theorem State.offerToCapture_after (hc : s.lcu.capture = some c) (hx : c.phys.get a = some x) {before : HistEntry}
    (hb : x.progress = .waiting (some before)) {h : HistEntry} (lt : 0 < (h.instant - c.tTrig).toInt) : s.offerToCapture a h =
      (s.inFlight (c.progressed a x (settleEntry c a (s.phu.get a).state x.epoch before h))).completeIfSettled := by
  rw [State.offerToCapture, State.progressEntry_waiting hc hx hb, if_pos ((later_iff _ _).mpr lt)]

/-- It is TOO_OLD where there is no before entry (R128). -/
theorem State.offerToCapture_tooOld (hc : s.lcu.capture = some c) (hx : c.phys.get a = some x)
    (hb : x.progress = .waiting none) {h : HistEntry} (lt : 0 < (h.instant - c.tTrig).toInt) :
    s.offerToCapture a h = (s.inFlight (c.progressed a x (.settled .tooOld 0 0))).completeIfSettled := by
  rw [State.offerToCapture, State.progressEntry_waiting hc hx hb, if_pos ((later_iff _ _).mpr lt)]
  rfl

end

end Sys2Proof.Machine

namespace Sys2Proof.Proofs

open Sys2Proof.Machine Sys2Proof.Claims

/-- Settles O39: a report or a sample gives the waiting entry of its axis new progress, and the capture completes once nothing
in it waits. -/
theorem reportsAndSamplesSettleEntries : Obligations.ReportsAndSamplesSettleEntries := by
  refine ⟨fun s a idle => ?_, fun s c hc => ⟨fun ⟨a, x, b, hx, hb⟩ => ?_, fun settled => ?_⟩, fun s a c x b hc hx hb => ?_⟩
  · have nothing : ¬ s.awaits a := by
      rintro ⟨c, x, b, hc, hx, hb⟩
      rcases idle with hn | ⟨d, hd, hn | ⟨y, st, x16, pos, hy, hs⟩⟩
      · simp [hn] at hc
      · simp [Option.some.inj (hd.symm.trans hc), hx] at hn
      · obtain rfl := Option.some.inj (hd.symm.trans hc)
        obtain rfl := Option.some.inj (hy.symm.trans hx)
        rw [hb] at hs
        cases hs
    exact ⟨fun _ => State.progressEntry_of_not_awaits nothing _, fun _ => State.progressEntry_of_not_awaits nothing _⟩
  · exact State.completeIfSettled_waits hc (Bool.eq_false_iff.mpr fun h => c.isSettled_iff.mp h a x b hx hb)
  · rw [State.completeIfSettled_settled hc (c.isSettled_iff.mpr settled)]
    exact ⟨_, State.completeCapture_completed rfl c⟩
  · refine ⟨fun report progress hp => ⟨fun others => ?_, fun others => ?_⟩, fun h before => ?_,
      fun h before progress after hbefore hp => ?_, fun h after hbefore => ?_⟩
    · rw [State.reportToCapture_waiting hc hx hb, ← hp]
      exact State.completeIfSettled_waits rfl (Capture.progressed_waits (.inr others))
    · rw [State.reportToCapture_waiting hc hx hb, ← hp,
        State.completeIfSettled_settled rfl (Capture.progressed_settled (fun b => by rw [hp]; nofun) others)]
      refine ⟨_, State.completeCapture_completed rfl _, fun ha => ?_⟩
      have settled : (c.progressed a x progress).phys.get a = some { x with progress := progress } := Four.get_set_self _ _ _
      exact Capture.phys_mem_entries (c := c.progressed a x progress) (x16 := 0) ha (settled.trans (by rw [hp]))
    · exact State.offerToCapture_before hc hx hb before
    · rw [hp]
      exact State.offerToCapture_after hc hx (hbefore ▸ hb) after
    · exact State.offerToCapture_tooOld hc hx (hbefore ▸ hb) after

end Sys2Proof.Proofs

namespace Sys2Proof.Machine

open Sys2Proof.Claims

/-! ## The Alert Controller in the vocabulary of the statements (R126, R153 to R158) -/

theorem State.levelCondition_iff (s : State) : s.levelCondition = true ↔ levelTrue s := by
  have some_mem (p : Quad → Bool) : (Quad.all.filter p).isEmpty = false ↔ ∃ i, p i = true := by
    rw [List.isEmpty_eq_false_iff_exists_mem]
    simp only [List.mem_filter, Quad.mem_all, true_and]
  rw [State.levelCondition, Bool.or_eq_true, Bool.not_eq_true', Bool.not_eq_true', State.guardedFaults, State.trippedAlerts,
    some_mem, some_mem]
  simp only [Bool.and_eq_true, beq_iff_eq, QuadSet.has, levelTrue]

theorem State.missRequest_eq (s : State) : s.missRequest = if s.alc.pulseOnMiss = true then pulsed s else s := by
  rw [← State.pulseRequest_eq_pulsed]
  rfl

theorem Alert.drive_iff (x : Alert) : x.drive = true ↔ (∃ start, x.state = .pulse start) ∨ ∃ m, x.state = .level m := by
  unfold Alert.drive
  cases x.state <;> simp

/-- LEVEL is entered with its minimum to come, and the line goes low where it was not (R156). -/
theorem State.enterLevel_eq (s : State) : ∃ ended,
    s.enterLevel = { s with alc := { s.alc with
      state := .level ended, wentLow := if s.alc.drive = true then s.alc.wentLow else s.tick } } ∧
    ((∃ was, s.alc.state = .level was) → s.alc.state = .level ended) ∧
    ((¬ ∃ was, s.alc.state = .level was) → ended = false) := by
  cases hs : s.alc.state with
  | level was =>
    have same : s.enterLevel = s := by simp only [State.enterLevel, State.modAlc, hs]
    refine ⟨was, ?_, fun _ => rfl, fun h => absurd ⟨was, rfl⟩ h⟩
    rw [same, if_pos (by rw [Alert.drive, hs]), ← hs]
  | released => exact ⟨false, by simp [State.enterLevel, State.modAlc, Alert.drive, hs], nofun, fun _ => rfl⟩
  | pulse start => exact ⟨false, by simp [State.enterLevel, State.modAlc, Alert.drive, hs], nofun, fun _ => rfl⟩
  | gap start => exact ⟨false, by simp [State.enterLevel, State.modAlc, Alert.drive, hs], nofun, fun _ => rfl⟩

end Sys2Proof.Machine

namespace Sys2Proof.Proofs

open Sys2Proof.Machine Sys2Proof.Claims

/-- Settles O47: the judgement by its three cases, the requests by their conditions. -/
theorem alertJudgements : Obligations.AlertJudgements := by
  intro s
  refine ⟨s.levelCondition_iff, fun level => ?_, fun level ended => ?_, fun level ended => ?_, s.alc.drive_iff,
    s.bridgeRequest_eq, s.missRequest_eq⟩ <;> rw [← s.levelCondition_iff] at level
  · rw [State.judgeLevel_of_levelCondition level]
    exact s.enterLevel_eq
  · rcases s.judgeLevel_cases with ⟨holds, _⟩ | ⟨_, _, e⟩ | ⟨_, other, _⟩
    · exact absurd holds level
    · exact e
    · exact absurd ended other
  · rcases s.judgeLevel_cases with ⟨holds, _⟩ | ⟨_, same, _⟩ | ⟨_, _, e⟩
    · exact absurd holds level
    · exact absurd same ended
    · exact e

end Sys2Proof.Proofs

namespace Sys2Proof.Machine

open Sys2Proof.Claims

/-! ## Trigger edges in the vocabulary of the statements (R119, R124 to R127) -/

theorem inDeadTime_iff (s : State) (i : TrigInput) :
    (s.lcu.triggers.get i).insideDeadTime s.tick = true ↔ inDeadTime s i := by
  unfold Trigger.insideDeadTime inDeadTime
  cases (s.lcu.triggers.get i).deadFrom <;> simp [elapsed]

theorem isMatch_iff (c : Context) (i : TrigInput) (e : EdgeDir) : c.isMatch i e = true ↔ matchesEdge c i e := by
  unfold Context.isMatch matchesEdge
  cases c.edge <;> cases e <;> simp [EdgeSelect.accepts]

theorem follows_iff (m : SourceSet) (a : Axis) :
    follows m a = true ↔ ∃ x : Source, m.getLsbD x.toNat = true ∧ x.dependsOn a = true := by
  rw [follows, List.any_eq_true]
  simp only [Bool.and_eq_true]
  exact ⟨fun ⟨x, _, h⟩ => ⟨x, h⟩, fun ⟨x, h⟩ => ⟨x, mem_six x, h⟩⟩

theorem nextIndex_eq (c : Context) :
    c.nextIndex = if c.remaining = 0 then c.count else c.count - c.remaining + 1 := by
  unfold Context.nextIndex
  split <;> split <;> omega

theorem queueAfterOpening_eq (head : Context) (rest : List Context) : queueAfterOpening head rest =
    if 1 < head.remaining then { head with remaining := head.remaining - 1 } :: rest
    else if head.standing = true ∧ rest = [] then [{ head with remaining := 0 }]
    else rest := by
  unfold queueAfterOpening
  simp only [Nat.sub_pos_iff_lt, Bool.and_eq_true, List.isEmpty_iff]
  split
  · rfl
  · rename_i last
    rw [Nat.sub_eq_zero_of_le (Nat.le_of_not_lt last)]

/-! ## The entries of a capture as its opening judges them (R127) -/

section

variable {c : Capture} {a : Axis} {p : PhaseUnit}

/-- The oldest entry is not before the trigger instant (R127). -/
theorem judgeOpening_tooOld (hr : p.state = .referenced) {oldest : HistEntry} {rest : List HistEntry}
    (hh : p.history = oldest :: rest) (early : (c.tTrig - oldest.instant).toInt ≤ 0) :
    judgeOpening c a p = .settled .tooOld 0 0 := by
  have hn : p.history.getLast? = some ((oldest :: rest).getLast (by simp)) := by
    rw [hh]
    exact List.getLast?_eq_some_getLast _
  have ho : p.history.head? = some oldest := by rw [hh, List.head?_cons]
  rw [judgeOpening, if_neg (not_not.mpr hr)]
  simp only [ho, hn, if_pos ((later_eq_false_iff _ _).mpr early), settledBad]

/-- No entry of the history is later than the trigger instant: the newest is the before entry. -/
theorem judgeOpening_waits (hr : p.state = .referenced) {oldest newest : HistEntry} (ho : p.history.head? = some oldest)
    (hn : p.history.getLast? = some newest) (late : 0 < (c.tTrig - oldest.instant).toInt)
    (before : ∀ h ∈ p.history, (h.instant - c.tTrig).toInt ≤ 0) : judgeOpening c a p = .waiting (some newest) := by
  have none_later : p.history.find? (fun h => later h.instant c.tTrig) = none :=
    List.find?_eq_none.mpr fun h hh => by simpa [later_iff] using before h hh
  rw [judgeOpening, if_neg (not_not.mpr hr)]
  simp only [ho, hn, (later_iff _ _).mpr late, none_later, Bool.true_eq_false, if_false]

/-- The history passes the trigger instant between two of its entries, which settle the entry (R129). -/
theorem judgeOpening_settles (hr : p.state = .referenced) {oldest before after : HistEntry} {pre post : List HistEntry}
    (ho : p.history.head? = some oldest) (late : 0 < (c.tTrig - oldest.instant).toInt)
    (hh : p.history = pre ++ before :: after :: post) (le : ∀ h ∈ pre ++ [before], (h.instant - c.tTrig).toInt ≤ 0)
    (gt : ∀ h ∈ after :: post, 0 < (h.instant - c.tTrig).toInt) :
    judgeOpening c a p = settleEntry c a .referenced p.epoch before after := by
  have parts : p.history = (pre ++ [before]) ++ after :: post := by simp [hh]
  have early : ∀ h ∈ pre ++ [before], later h.instant c.tTrig = false := fun h k => (later_eq_false_iff _ _).mpr (le h k)
  have first_later : p.history.find? (fun h => later h.instant c.tTrig) = some after := by
    rw [parts, List.find?_append, List.find?_eq_none.mpr (fun h k => by simp [early h k]), Option.none_or]
    exact List.find?_cons_of_pos ((later_iff _ _).mpr (gt after List.mem_cons_self))
  have last_before : (p.history.filter (fun h => !later h.instant c.tTrig)).getLast? = some before := by
    rw [parts, List.filter_append, List.filter_eq_self.mpr (fun h k => by simp [early h k]),
      List.filter_eq_nil_iff.mpr (fun h k => by simpa [later_iff] using gt h k)]
    simp
  obtain ⟨newest, hn⟩ : ∃ newest, p.history.getLast? = some newest := ⟨_, List.getLast?_eq_some_getLast (by simp [hh])⟩
  rw [judgeOpening, if_neg (not_not.mpr hr)]
  simp only [ho, hn, (later_iff _ _).mpr late, first_later, last_before, Bool.true_eq_false, if_false, hr]

theorem judgeOpening_judged (c : Capture) (a : Axis) (p : PhaseUnit) : JudgedAtOpening c a p (judgeOpening c a p) where
  notReferenced h := by rw [judgeOpening, if_pos h, settledBad]
  empty hr hh := by
    rw [judgeOpening, if_neg (not_not.mpr hr), hh]
    rfl
  tooOld _ _ hr hh early := judgeOpening_tooOld hr hh early
  waits _ _ hr ho hn late before := judgeOpening_waits hr ho hn late before
  settles _ _ _ _ _ hr ho late hh le gt := judgeOpening_settles hr ho late hh le gt

end

/-- The judgement of an opening reads no entry of the capture. -/
theorem judgedAtOpening_judgedCapture {s : State} {c : Capture} {a : Axis} {p : PhaseUnit} {progress : EntryProgress}
    (h : JudgedAtOpening c a p progress) : JudgedAtOpening (s.judgedCapture c) a p progress where
  notReferenced := h.notReferenced
  empty := h.empty
  tooOld := h.tooOld
  waits := h.waits
  settles := h.settles

theorem State.judgedCapture_get (s : State) (c : Capture) (a : Axis) : (s.judgedCapture c).phys.get a =
    if follows c.sources a then some { epoch := (s.phu.get a).epoch, progress := judgeOpening c a (s.phu.get a) }
    else none := by
  rw [State.judgedCapture, Four.get_mapIdx]

/-- The command by its row: outside the dead time the edge starts one and is judged. -/
theorem exec_triggerEdge_outside {s : State} {i : TrigInput} (h : ¬ inDeadTime s i) (e : EdgeDir) :
    exec (.triggerEdge i e) s = .next ((deadStarted s i).judgeEdge i e) := by
  rw [← inDeadTime_iff] at h
  rw [exec, execTriggerEdge, if_neg h]
  rfl

theorem State.judgeEdge_opens {s : State} {head : Context} {rest : List Context} (hq : s.lcu.contexts = head :: rest)
    {i : TrigInput} {e : EdgeDir} (hm : matchesEdge head i e) (hc : s.lcu.capture = none) :
    s.judgeEdge i e = s.openCapture head rest i e := by
  simp only [State.judgeEdge, hq, if_pos ((isMatch_iff _ _ _).mpr hm), hc]

theorem State.judgeEdge_misses {s : State} {head : Context} {rest : List Context} (hq : s.lcu.contexts = head :: rest)
    {i : TrigInput} {e : EdgeDir} (hm : matchesEdge head i e) {c : Capture} (hc : s.lcu.capture = some c) :
    s.judgeEdge i e = s.missEdge := by
  simp only [State.judgeEdge, hq, if_pos ((isMatch_iff _ _ _).mpr hm), hc]

theorem State.judgeEdge_noMatch {s : State} {i : TrigInput} {e : EdgeDir}
    (h : ∀ head rest, s.lcu.contexts = head :: rest → ¬ matchesEdge head i e) : s.judgeEdge i e = s := by
  unfold State.judgeEdge
  split
  · rfl
  · rename_i head rest hq
    exact if_neg (mt (isMatch_iff _ _ _).mp (h head rest hq))

end Sys2Proof.Machine

namespace Sys2Proof.Proofs

open Sys2Proof.Machine Sys2Proof.Claims

/-- Settles O36: an edge outside the dead time is judged against the head context, and the capture it opens is the model's
judged capture. -/
theorem triggerEdges : Obligations.TriggerEdges := by
  intro s i e
  refine ⟨fun dead => ?_, fun out none => ?_, fun head rest c u out hq hm hc hu => ?_, fun head rest out hq hm hc => ?_⟩
  · rw [exec, execTriggerEdge, if_pos ((inDeadTime_iff s i).mpr dead)]
  · rw [exec_triggerEdge_outside out, State.judgeEdge_noMatch (s := deadStarted s i) none]
  · have counted : (deadStarted s i).modLcu (fun x => { x with missed := satAdd 255 x.missed 1 }) = u := hu.symm
    rw [exec_triggerEdge_outside out, State.judgeEdge_misses (s := deadStarted s i) hq hm hc, State.missEdge,
      State.missRequest_eq, counted, hu]
    rfl
  · refine ⟨(deadStarted s i).judgedCapture ((deadStarted s i).captureFrom head i e), ?_, fun a unread => ?_,
      fun a read => ?_, ?_⟩
    · simp [State.judgedCapture, State.captureFrom, nextIndex_eq, deadStarted, ticksBefore]
    · rw [State.judgedCapture_get]
      exact if_neg (mt (follows_iff _ _).mp unread)
    · refine ⟨_, ?_, judgedAtOpening_judgedCapture (judgeOpening_judged _ a (s.phu.get a))⟩
      rw [State.judgedCapture_get]
      exact if_pos ((follows_iff _ _).mpr read)
    · rw [exec_triggerEdge_outside out, State.judgeEdge_opens (s := deadStarted s i) hq hm hc, State.openCapture, State.modLcu,
        queueAfterOpening_eq]

end Sys2Proof.Proofs

namespace Sys2Proof.Machine

open Sys2Proof.Claims

/-! ## Reading the record queue (R135, R137) -/

theorem State.judgeReady_eq (s : State) : s.judgeReady = readyJudged s := by
  unfold State.judgeReady readyJudged
  dsimp only
  split
  · rfl
  · exact congrArg s.withFlags (BitVec.or_zero (x := s.hpt.flags &&& ~~~1)).symm

theorem Record.bytes_eq (r : Record) : r.bytes = recordData r := by
  have code : r.originByte =
      one ((if r.origin = .host then 0 else 1) + (if r.input = .t0 then 0 else 2) + (if r.edge = .rise then 0 else 4)) := by
    unfold Record.originByte
    cases r.origin <;> cases r.input <;> cases r.edge <;> rfl
  rw [Record.bytes, code]
  rfl

theorem Record.bytes_length (r : Record) : r.bytes.length = r.size := by
  have entries : (r.entries.flatMap RecordEntry.bytes).length = r.entries.length * 8 :=
    by simp [List.length_flatMap, RecordEntry.bytes]
  rw [Record.bytes, List.length_append, entries]
  simp [Record.size, Nat.mul_comm]

theorem recordsThatFit_le (n room : Nat) (rs : List Record) :
    recordsThatFit n room rs ≤ n ∧ recordsThatFit n room rs ≤ rs.length := by
  induction n generalizing room rs with
  | zero => exact ⟨Nat.le_refl 0, Nat.zero_le _⟩
  | succ n ih =>
    cases rs with
    | nil => exact ⟨Nat.zero_le _, Nat.le_refl 0⟩
    | cons r rest =>
      rw [recordsThatFit, List.length_cons]
      split
      · have := ih (room - r.size) rest
        omega
      · omega

/-- The records that fit take no more than the room there is (R137). -/
theorem recordsThatFit_fits (n room : Nat) (rs : List Record) :
    ((rs.take (recordsThatFit n room rs)).flatMap Record.bytes).length ≤ room := by
  induction n generalizing room rs with
  | zero => exact Nat.zero_le _
  | succ n ih =>
    cases rs with
    | nil => exact Nat.zero_le _
    | cons r rest =>
      rw [recordsThatFit]
      split
      · have := ih (room - r.size) rest
        rw [List.take_succ_cons, List.flatMap_cons, List.length_append, r.bytes_length]
        omega
      · exact Nat.zero_le _

/-- One record more, where one more is asked for and there is one, would not fit (R137). -/
theorem recordsThatFit_most (n room : Nat) (rs : List Record) (hn : recordsThatFit n room rs < n)
    (hr : recordsThatFit n room rs < rs.length) :
    room < ((rs.take (recordsThatFit n room rs + 1)).flatMap Record.bytes).length := by
  induction n generalizing room rs with
  | zero => exact absurd hn (Nat.not_lt_zero _)
  | succ n ih =>
    cases rs with
    | nil => exact absurd hr (Nat.not_lt_zero _)
    | cons r rest =>
      rw [recordsThatFit] at hn hr ⊢
      rw [List.length_cons] at hr
      split at hn
      · rename_i fits
        rw [if_pos fits] at hr
        rw [if_pos fits, List.take_succ_cons, List.flatMap_cons, List.length_append, r.bytes_length]
        have := ih (room - r.size) rest (by omega) (by omega)
        omega
      · rename_i beyond
        rw [if_neg beyond, List.take_succ_cons, List.flatMap_cons, List.length_append, r.bytes_length]
        omega

/-- READ_CAPTURES by its checks: the records that fit, left in the queue or taken out of it (R137). -/
theorem readCapturesBlock_eq (s : State) (m o : Byte) {k : Nat} (hk : k = recordsThatFit m.toNat 1020 s.lcu.records) :
    readCapturesBlock s [m, o] =
      if 1 ≤ m.toNat ∧ m.toNat ≤ 32 ∧ o.toNat ≤ 1 then
        (.ok ((s.lcu.records.take k).flatMap recordData),
          if o = 1 then s else readyJudged { s with lcu := { s.lcu with records := s.lcu.records.drop k } })
      else s.refuse .badValue := by
  simp only [readCapturesBlock, natIn, bytesToNat_singleton, boolOf_eq]
  split
  · rename_i hm ho
    simp only [Option.ite_none_right_eq_some, Option.some.injEq] at hm ho
    obtain ⟨hm, rfl⟩ := hm
    obtain ⟨ho, rfl⟩ := ho
    have ok : 1 ≤ m.toNat ∧ m.toNat ≤ 32 ∧ o.toNat ≤ 1 := ⟨hm.1, hm.2, ho⟩
    rw [if_pos ok, ← funext Record.bytes_eq, hk, State.judgeReady_eq]
    simp only [beq_iff_eq]
    rfl
  · rename_i h
    rw [if_neg]
    rintro ⟨h1, h2, ho⟩
    exact h _ _ (if_pos ⟨h1, h2⟩) (if_pos ho)

end Sys2Proof.Machine

namespace Sys2Proof.Proofs

open Sys2Proof.Machine Sys2Proof.Claims

/-- Settles O42: the number of records answered is the greatest whose bytes fit, by recursion along the queue. -/
theorem readCaptures : Obligations.ReadCaptures := by
  intro s m o extra
  have data : recordData = Record.bytes := funext fun r => r.bytes_eq.symm
  obtain ⟨most, all⟩ := recordsThatFit_le m.toNat 1020 s.lcu.records
  refine ⟨recordsThatFit m.toNat 1020 s.lcu.records, most, all, data ▸ recordsThatFit_fits _ _ _,
    data ▸ recordsThatFit_most _ _ _, congrArg Host.Outcome.next ?_⟩
  rw [State.hostCommand_frame (n := 2) s 0x26 [m, o] extra _ rfl (by decide), readCapturesBlock_eq s m o rfl]
  split
  · refine congrArg (taken s) (State.answer_ok ?_ _ _)
    split <;> rfl
  · exact congrArg (taken s) (State.answer_refused _ _ _)

end Sys2Proof.Proofs

namespace Sys2Proof.Machine

open Sys2Proof.Claims

/-! ## SET_TRIGGER and SET_CAPTURE (R119, R120, R131, R135, R136) -/

theorem inputOf_eq (i : Byte) : inputOf i = if i.toNat ≤ 1 then some (if i = 1 then .t1 else .t0) else none := by
  rw [inputOf, boolOf_eq]
  split
  · simp only [Option.map_some, beq_iff_eq]
  · rfl

theorem policyOf_eq (p : Byte) :
    policyOf p = if p.toNat ≤ 1 then some (if p = 1 then .keepNewest else .keepOldest) else none := by
  rw [policyOf, boolOf_eq]
  split
  · simp only [Option.map_some, beq_iff_eq]
  · rfl

theorem Two.set_set {α : Type} (f : Two α) (i : TrigInput) (x y : α) : (f.set i x).set i y = f.set i y := by cases i <;> rfl

theorem bytesToNat_word_le (b1 b0 : Byte) : bytesToNat [b1, b0] ≤ 65535 := (natIn_bounds (natIn_word b1 b0)).2

/-- A trigger input written, with its dead time ended where it has run out (R119, R120). -/
theorem setTriggerBlock_eq (s : State) (i d1 d0 e1 e0 : Byte) {input : TrigInput} (hi : input = if i = 1 then .t1 else .t0) :
    setTriggerBlock s [i, d1, d0, e1, e0] =
      if i.toNat ≤ 1 ∧ bytesToNat [d1, d0] ≤ 1023 then
        State.accept { s with lcu := { s.lcu with triggers := (s.lcu.triggers.set input
          { delay := bytesToNat [d1, d0], dead := bytesToNat [e1, e0]
            deadFrom := if ranOut s.tick (s.lcu.triggers.get input).deadFrom (bytesToNat [e1, e0]) = true then none
              else (s.lcu.triggers.get input).deadFrom }) } }
      else s.refuse .badValue := by
  simp only [setTriggerBlock, inputOf_eq, natIn, Nat.zero_le, true_and, ← hi]
  split
  · rename_i hi hd
    simp only [Option.ite_none_right_eq_some, Option.some.injEq] at hi hd
    obtain ⟨hi, rfl⟩ := hi
    obtain ⟨hd, rfl⟩ := hd
    have ok : i.toNat ≤ 1 ∧ bytesToNat [d1, d0] ≤ 1023 := ⟨hi, hd⟩
    rw [if_pos ok]
    simp only [State.deadTimeDue_eq, State.endDeadTime, State.modLcu, Two.get_set_self, Two.set_set]
    split <;> rfl
  · rename_i h
    rw [if_neg]
    rintro ⟨hi, hd⟩
    exact h _ _ (if_pos hi) (if_pos hd)

theorem setCaptureBlock_eq (s : State) (p r t1 t0 : Byte) {u : State} (hu : u = readyJudged { s with lcu := { s.lcu with
      policy := if p = 1 then .keepNewest else .keepOldest, readyLevel := r.toNat, timeout := bytesToNat [t1, t0] } }) :
    setCaptureBlock s [p, r, t1, t0] =
      if p.toNat ≤ 1 ∧ 1 ≤ r.toNat ∧ r.toNat ≤ 32 ∧ 1 ≤ bytesToNat [t1, t0] then
        (if ranOut s.tick (s.lcu.capture.map (fun c => c.edgeTick)) (bytesToNat [t1, t0] * 100) = true then u.timeOutCapture
          else u).accept
      else s.refuse .badValue := by
  have word := bytesToNat_word_le t1 t0
  simp only [setCaptureBlock, policyOf_eq, natIn, bytesToNat_singleton, State.judgeReady_eq, State.captureDue_eq, State.modLcu]
  split
  · rename_i hp hr ht
    simp only [Option.ite_none_right_eq_some, Option.some.injEq] at hp hr ht
    obtain ⟨hp, rfl⟩ := hp
    obtain ⟨hr, rfl⟩ := hr
    obtain ⟨ht, rfl⟩ := ht
    have ok : p.toNat ≤ 1 ∧ 1 ≤ r.toNat ∧ r.toNat ≤ 32 ∧ 1 ≤ bytesToNat [t1, t0] := ⟨hp, hr.1, hr.2, ht.1⟩
    rw [if_pos ok, hu]
    rfl
  · rename_i h
    rw [if_neg]
    rintro ⟨hp, hr1, hr2, ht⟩
    exact h _ _ _ (if_pos hp) (if_pos ⟨hr1, hr2⟩) (if_pos ⟨ht, word⟩)

theorem State.timeOutCapture_tick (s : State) : s.timeOutCapture.tick = s.tick := by
  unfold State.timeOutCapture
  split <;> simp

end Sys2Proof.Machine

namespace Sys2Proof.Proofs

open Sys2Proof.Machine Sys2Proof.Claims

/-- Settles O40: the checks of both commands, the settings they write, and the timers these overtake. -/
theorem captureSettings : Obligations.CaptureSettings := by
  refine ⟨fun s i d1 d0 e1 e0 extra => ?_, fun s p r t1 t0 extra u hu => ?_⟩
  all_goals refine congrArg Host.Outcome.next ?_
  · exact State.hostCommand_checked rfl (by decide) (setTriggerBlock_eq s i d1 d0 e1 e0 rfl) rfl
  · refine State.hostCommand_checked rfl (by decide) (setCaptureBlock_eq s p r t1 t0 hu) ?_
    split
    · rw [State.timeOutCapture_tick, hu]
      rfl
    · rw [hu]
      rfl

end Sys2Proof.Proofs

namespace Sys2Proof.Machine

open Sys2Proof.Claims

/-! ## Contexts as their bytes spell them (R121 to R123) -/

theorem edgeOf_eq (e : Byte) : edgeOf e =
    if e.toNat ≤ 2 then some (if e = 0 then .rise else if e = 1 then .fall else .both) else none := by
  unfold edgeOf
  split
  case h_1 h => obtain rfl : e = 0 := BitVec.eq_of_toNat_eq h; rfl
  case h_2 h => obtain rfl : e = 1 := BitVec.eq_of_toNat_eq h; rfl
  case h_3 h => obtain rfl : e = 2 := BitVec.eq_of_toNat_eq h; rfl
  case h_4 h0 h1 h2 =>
    have : e.toNat ≠ 0 ∧ e.toNat ≠ 1 ∧ e.toNat ≠ 2 := ⟨h0, h1, h2⟩
    rw [if_neg (by omega)]

section

variable {origin : Origin} {src input edge t1 t0 count standing echo : Byte}

theorem contextOf_inRange (h : contextInRange src input edge count standing echo) :
    contextOf origin [src, input, edge, t1, t0, count, standing, echo] =
      some (contextSpelled origin src input edge t1 t0 count standing echo) := by
  obtain ⟨hsrc1, hsrc2, hi, he, hc, hs, ho⟩ := h
  have counted : 1 ≤ count.toNat ∧ count.toNat ≤ 255 := ⟨hc, Nat.lt_succ_iff.mp count.isLt⟩
  have sources : 1 ≤ src.toNat ∧ src.toNat ≤ 63 := ⟨hsrc1, hsrc2⟩
  simp only [contextOf, nonEmptySources_eq, inputOf_eq, edgeOf_eq, natIn, bytesToNat_singleton, boolOf_eq, if_pos sources,
    if_pos hi, if_pos he, if_pos counted, if_pos hs, if_pos ho]
  rfl

theorem contextOf_outOfRange (h : ¬ contextInRange src input edge count standing echo) :
    contextOf origin [src, input, edge, t1, t0, count, standing, echo] = none := by
  simp only [contextOf, nonEmptySources_eq, inputOf_eq, edgeOf_eq, natIn, bytesToNat_singleton, boolOf_eq]
  split
  · rename_i hsrc hi he hc hs ho
    simp only [Option.ite_none_right_eq_some] at hsrc hi he hc hs ho
    exact absurd ⟨hsrc.1.1, hsrc.1.2, hi.1, he.1, hc.1.1, hs.1, ho.1⟩ h
  · rfl

end

/-- A context has 8 bytes (R121). -/
theorem contextOf_length {origin : Origin} {ps : List Byte} (h : ps.length ≠ 8) : contextOf origin ps = none := by
  unfold contextOf
  split
  · exact absurd rfl h
  · rfl

theorem loneExhausted_iff (q : List Context) : loneExhausted q = true ↔ standsAlone q := by
  unfold loneExhausted standsAlone
  split
  · simp
  · rename_i h
    simp only [Bool.false_eq_true, false_iff]
    rintro ⟨c, rfl, _⟩
    exact h c rfl

section

variable {q : List Context} (c : Context)

theorem insertContext_alone (h : standsAlone q) : insertContext q c = some [c] := if_pos ((loneExhausted_iff q).mpr h)

theorem insertContext_room (h : ¬ standsAlone q) (room : q.length < 4) : insertContext q c = some (q ++ [c]) := by
  rw [insertContext, if_neg (mt (loneExhausted_iff q).mp h)]
  exact if_neg (Nat.not_le.mpr room)

theorem insertContext_full (full : 4 ≤ q.length) : insertContext q c = none := by
  have crowd : ¬ standsAlone q := by
    rintro ⟨c, rfl, _⟩
    exact absurd full (show ¬ 4 ≤ 1 by decide)
  rw [insertContext, if_neg (mt (loneExhausted_iff q).mp crowd)]
  exact if_pos full

end

theorem flushOf_eq (w : Byte) : flushOf w =
    if w.toNat ≤ 2 then some (if w = 0 then none else if w = 1 then some .host else some .microscope) else none := by
  unfold flushOf
  split
  case h_1 h => obtain rfl : w = 0 := BitVec.eq_of_toNat_eq h; rfl
  case h_2 h => obtain rfl : w = 1 := BitVec.eq_of_toNat_eq h; rfl
  case h_3 h => obtain rfl : w = 2 := BitVec.eq_of_toNat_eq h; rfl
  case h_4 h0 h1 h2 =>
    have : w.toNat ≠ 0 ∧ w.toNat ≠ 1 ∧ w.toNat ≠ 2 := ⟨h0, h1, h2⟩
    rw [if_neg (by omega)]

/-- A flush of one origin leaves the contexts of the other (R123). -/
theorem flushed_host (q : List Context) : flushed q (some .host) = q.filter (fun c => c.origin == .microscope) :=
  List.filter_congr fun c _ => by cases c.origin <;> rfl

theorem flushed_microscope (q : List Context) : flushed q (some .microscope) = q.filter (fun c => c.origin == .host) :=
  List.filter_congr fun c _ => by cases c.origin <;> rfl

/-- The block of QUEUE_CONTEXT, for a context in range, by what its insertion makes (R121, R122). -/
theorem queueContextBlock_inserts {s : State} {ps : List Byte} {c : Context} (hc : contextOf .host ps = some c)
    {q : List Context} (hq : insertContext s.lcu.contexts c = some q) :
    queueContextBlock s ps = ({ s with lcu := { s.lcu with contexts := q } } : State).report [byteOf q.length] := by
  simp only [queueContextBlock, hc, hq]
  rfl

theorem queueContextBlock_full {s : State} {ps : List Byte} {c : Context} (hc : contextOf .host ps = some c)
    (hq : insertContext s.lcu.contexts c = none) : queueContextBlock s ps = (raised s 2).refuse .queueFull := by
  simp only [queueContextBlock, hc, hq]
  rfl

theorem queueContextBlock_refuses {s : State} {ps : List Byte} (hc : contextOf .host ps = none) :
    queueContextBlock s ps = s.refuse .badValue := by
  simp only [queueContextBlock, hc]

theorem flushContextsBlock_eq (s : State) (w : Byte) {q : List Context}
    (hq : q = if w = 0 then [] else if w = 1 then s.lcu.contexts.filter (fun c => c.origin == .microscope)
      else s.lcu.contexts.filter (fun c => c.origin == .host)) :
    flushContextsBlock s [w] =
      if w.toNat ≤ 2 then ({ s with lcu := { s.lcu with contexts := q } } : State).report [byteOf q.length]
      else s.refuse .badValue := by
  have left : flushed s.lcu.contexts (if w = 0 then none else if w = 1 then some .host else some .microscope) = q := by
    rw [hq]
    split
    · rfl
    · split
      · exact flushed_host _
      · exact flushed_microscope _
  unfold flushContextsBlock
  by_cases hw : w.toNat ≤ 2
  · simp only [flushOf_eq, if_pos hw, left]
    rfl
  · simp only [flushOf_eq, if_neg hw]

end Sys2Proof.Machine

namespace Sys2Proof.Proofs

open Sys2Proof.Machine Sys2Proof.Claims

/-- Settles O41: the bytes of a context by their ranges, the queue by what waits in it. -/
theorem contextRequests : Obligations.ContextRequests := by
  have row {s : State} {src input edge t1 t0 count standing echo : Byte} (extra : List Byte) {r : Reply × State}
      (h : queueContextBlock s [src, input, edge, t1, t0, count, standing, echo] = r) :
      exec (.queueContext (frame [src, input, edge, t1, t0, count, standing, echo] extra)) s =
        .next (taken s (r.2.answer 0x23 r.1)) :=
    congrArg Host.Outcome.next (h ▸ State.hostCommand_frame (n := 8) s 0x23 _ extra _ rfl (by decide))
  refine ⟨fun s src input edge t1 t0 count standing echo extra ctx hctx => ⟨fun out => ?_, fun inRange alone => ?_,
    fun inRange others room => ?_, fun inRange full => ?_⟩, fun s w extra q hq => congrArg Host.Outcome.next ?_⟩
  · rw [row extra (queueContextBlock_refuses (contextOf_outOfRange out)), State.answer_refuse]
  · rw [row extra (queueContextBlock_inserts (contextOf_inRange inRange) (insertContext_alone _ alone)), ← hctx]
    exact congrArg (fun t => Host.Outcome.next (taken s t)) (State.answer_ok rfl _ _)
  · rw [row extra (queueContextBlock_inserts (contextOf_inRange inRange) (insertContext_room _ others room)), ← hctx,
      List.length_append]
    exact congrArg (fun t => Host.Outcome.next (taken s t)) (State.answer_ok rfl _ _)
  · rw [row extra (queueContextBlock_full (contextOf_inRange inRange) (insertContext_full _ full)), State.answer_refuse]
  · rw [State.hostCommand_frame (n := 1) s 0x24 [w] extra _ rfl (by decide), flushContextsBlock_eq s w hq, State.answer_ite]
    refine congrArg (taken s) (if_congr Iff.rfl ?_ (State.answer_refuse s _ _))
    exact State.answer_ok rfl _ _

end Sys2Proof.Proofs

namespace Sys2Proof.Machine

open Sys2Proof.Claims

/-! ## Complete messages of the microscope link (R121 to R123, R143 to R145) -/

theorem MicroLink.isIdle_iff (x : MicroLink) : x.isIdle = true ↔ x.rx = .idle := beq_iff_eq

theorem MicroLink.isWaiting_iff (x : MicroLink) : x.isWaiting = true ↔ ∃ was, x.rx = .waiting was := by
  unfold MicroLink.isWaiting
  cases x.rx <;> simp

theorem State.takeMessage_busy {s : State} (h : s.msl.rx ≠ .idle) (act : State → List Byte × State) : s.takeMessage act = s :=
  if_neg (mt s.msl.isIdle_iff.mp h)

/-- A message met by an idle receiver is counted, acts, and is answered with what its act says. -/
theorem State.takeMessage_idle {s u : State} (h : s.msl.rx = .idle)
    (hu : u = { s with msl := { s.msl with messages := s.msl.messages + 1 } }) {act : State → List Byte × State} {m : List Byte}
    {t : State} (ha : act u = (m, t)) : s.takeMessage act = offered t m := by
  have taken : s.takeMessage act = (act u).2.offerMessage (act u).1 := by
    rw [hu]
    exact if_pos (s.msl.isIdle_iff.mpr h)
  rw [taken, ha, State.offerMessage_eq]

theorem microQueueAct_refuses {u : State} {params : List Byte} (hc : contextOf .microscope params = none) :
    microQueueAct params u = ([0x02, 0xA2, 0x02], u) := by
  simp only [microQueueAct, hc]
  rfl

theorem microQueueAct_inserts {u : State} {params : List Byte} {c : Context} (hc : contextOf .microscope params = some c)
    {q : List Context} (hq : insertContext u.lcu.contexts c = some q) :
    microQueueAct params u = ([0x02, 0xA1, BitVec.ofNat 8 q.length], { u with lcu := { u.lcu with contexts := q } }) := by
  simp only [microQueueAct, hc, hq]
  rfl

theorem microQueueAct_full {u : State} {params : List Byte} {c : Context} (hc : contextOf .microscope params = some c)
    (hq : insertContext u.lcu.contexts c = none) : microQueueAct params u = ([0x02, 0xA2, 0x01], u) := by
  simp only [microQueueAct, hc, hq]
  rfl

theorem stateMessage_idle {x : LineCapture} (h : x.capture = none) : x.stateMessage =
    0x09 :: 0xA4 :: BitVec.ofNat 8 x.contexts.length ::
      BitVec.ofNat 8 (x.contexts.filter (fun c => c.origin == .microscope)).length :: ([0, 0, 0, 0] ++
      [BitVec.ofNat 8 x.missed, BitVec.ofNat 8 x.records.length]) := by
  rw [LineCapture.stateMessage, h]
  rfl

theorem stateMessage_inFlight {x : LineCapture} {c : Capture} (h : x.capture = some c) : x.stateMessage =
    0x09 :: 0xA4 :: BitVec.ofNat 8 x.contexts.length ::
      BitVec.ofNat 8 (x.contexts.filter (fun c => c.origin == .microscope)).length ::
      (1 :: natBytes 2 c.tag.toNat ++ [BitVec.ofNat 8 c.index] ++
      [BitVec.ofNat 8 x.missed, BitVec.ofNat 8 x.records.length]) := by
  rw [LineCapture.stateMessage, h]
  rfl

end Sys2Proof.Machine

namespace Sys2Proof.Proofs

open Sys2Proof.Machine Sys2Proof.Claims

/-- Settles O43: a busy receiver meets no complete message, and an idle one answers each as its act says. -/
theorem microMessages : Obligations.MicroMessages := by
  refine ⟨fun s c params code busy row => ?_, fun s u idle hu => ?_⟩
  · rcases row with rfl | rfl | rfl | rfl
    · exact congrArg Host.Outcome.next (State.takeMessage_busy busy _)
    · exact congrArg Host.Outcome.next (State.takeMessage_busy busy _)
    · exact congrArg Host.Outcome.next (State.takeMessage_busy busy _)
    · refine congrArg Host.Outcome.next ?_
      rw [State.takeMessage_busy busy, ite_self]
  have message {act : State → List Byte × State} {m : List Byte} {t : State} (ha : act u = (m, t)) :
      (.next (s.takeMessage act) : Result) = .next (offered t m) :=
    congrArg Host.Outcome.next (State.takeMessage_idle idle hu ha)
  have unit : u.lcu = s.lcu := by rw [hu]
  refine ⟨fun src input edge t1 t0 count standing echo ctx hctx => ⟨fun out => ?_, fun inRange alone => ?_,
    fun inRange others room => ?_, fun inRange full => ?_⟩, fun params len => ?_, fun q hq => ?_, ?_, fun params ne => ⟨?_, ?_⟩,
    fun code params h1 h2 h3 => ?_⟩
  · exact message (microQueueAct_refuses (contextOf_outOfRange out))
  · have answer := message (microQueueAct_inserts (hctx ▸ contextOf_inRange (t1 := t1) (t0 := t0) inRange)
      (unit ▸ insertContext_alone ctx alone))
    rwa [unit] at answer
  · have answer := message (microQueueAct_inserts (hctx ▸ contextOf_inRange (t1 := t1) (t0 := t0) inRange)
      (unit ▸ insertContext_room ctx others room))
    rwa [unit, List.length_append] at answer
  · exact message (microQueueAct_full (contextOf_inRange inRange) (unit ▸ insertContext_full _ full))
  · exact message (microQueueAct_refuses (contextOf_length len))
  · refine message ?_
    rw [hq, ← flushed_microscope, ← unit]
    rfl
  · refine message ?_
    rw [queryAct, if_pos List.isEmpty_nil, unit]
    cases hc : s.lcu.capture with
    | none => exact congrArg (·, u) (stateMessage_idle hc)
    | some c => exact congrArg (·, u) (stateMessage_inFlight hc)
  · refine message ?_
    rw [flushOwnAct, if_neg (by simpa using ne)]
    rfl
  · refine message ?_
    rw [queryAct, if_neg (by simpa using ne)]
    rfl
  · have unknown : isMicroCode code = false := by simpa [isMicroCode] using ⟨⟨h1, h2⟩, h3⟩
    have answer := message (act := fun s => (refusedMessage .unknown, s)) rfl
    rw [exec, execMicroUnknownCode, unknown]
    exact answer

end Sys2Proof.Proofs

namespace Sys2Proof.Machine

open Sys2Proof.Claims

/-! ## Line events of the microscope link (R141 to R145) -/

theorem State.lineErrorAt_eq (s : State) (began : Tick) : s.lineErrorAt began = offered (raised
    { s with msl := { s.msl with lineErrors := min 65535 (s.msl.lineErrors + 1), rx := .waiting began } } 26)
    [0x02, 0xA2, 0x03] := by
  rw [State.lineErrorAt, State.offerMessage_eq]
  rfl

theorem State.ignoredCharacter_eq (s : State) (bad : Bool) (began : Tick) : s.ignoredCharacter bad began =
    { s with msl := { s.msl with
      rx := .waiting began
      lineErrors := if bad = true then min 65535 (s.msl.lineErrors + 1) else s.msl.lineErrors } } := by
  cases bad <;> rfl

/-- The receiver meets every fault of a character, and a bad LEN while it is idle (R142). -/
theorem MicroLink.meets_iff (x : MicroLink) (fault : LineFault) : x.meets fault = true ↔
    ∀ len, fault = .badLen len → x.rx = .idle ∧ (len.toNat = 0 ∨ 23 < len.toNat) := by
  cases fault with
  | parity => simp [MicroLink.meets]
  | stopBit => simp [MicroLink.meets]
  | badLen len =>
    have outside : isMessageLength len = false ↔ len.toNat = 0 ∨ 23 < len.toNat := by
      rw [← Bool.not_eq_true, isMessageLength_iff]
      omega
    simp [MicroLink.meets, x.isIdle_iff, outside]

theorem ofCharacter_iff (fault : LineFault) : LineFault.ofCharacter fault = true ↔ fault = .parity ∨ fault = .stopBit := by
  cases fault <;> simp [LineFault.ofCharacter]

section

variable {s : State}

theorem exec_lineError_waiting {was : Tick} (h : s.msl.rx = .waiting was) (fault : LineFault) (began : Tick) :
    exec (.lineError fault began) s = .next (s.ignoredCharacter (LineFault.ofCharacter fault) began) :=
  congrArg _ (if_pos (s.msl.isWaiting_iff.mpr ⟨was, h⟩))

theorem exec_lineError_met (h : ∀ was, s.msl.rx ≠ .waiting was) {fault : LineFault} (hm : s.msl.meets fault = true)
    (began : Tick) : exec (.lineError fault began) s = .next (s.lineErrorAt began) := by
  have notWaiting : ¬ s.msl.isWaiting = true := fun k => (s.msl.isWaiting_iff.mp k).elim h
  exact congrArg _ ((if_neg notWaiting).trans (if_pos hm))

theorem exec_lineError_unmet (h : ∀ was, s.msl.rx ≠ .waiting was) {fault : LineFault} (hm : ¬ s.msl.meets fault = true)
    (began : Tick) : exec (.lineError fault began) s = .next s := by
  have notWaiting : ¬ s.msl.isWaiting = true := fun k => (s.msl.isWaiting_iff.mp k).elim h
  exact congrArg _ ((if_neg notWaiting).trans (if_neg hm))

theorem exec_ignored_waiting {was : Tick} (h : s.msl.rx = .waiting was) (bad : Bool) (began : Tick) :
    exec (.characterWhileWaitingForSilence bad began) s = .next (s.ignoredCharacter bad began) :=
  congrArg _ (if_pos (s.msl.isWaiting_iff.mpr ⟨was, h⟩))

theorem exec_ignored_notWaiting (h : ∀ was, s.msl.rx ≠ .waiting was) (bad : Bool) (began : Tick) :
    exec (.characterWhileWaitingForSilence bad began) s = .next s :=
  congrArg _ (if_neg (fun k => (s.msl.isWaiting_iff.mp k).elim h))

/-- The head message leaves the queue, and the next is sent from now on (R145). -/
theorem MicroLink.sent_cons {x : MicroLink} {m : List Byte} {rest : List (List Byte)} (h : x.out = m :: rest) (tick : Tick) :
    x.sent tick = { x with out := rest, tx := if rest = [] then .quiet else .sending tick } := by
  simp only [MicroLink.sent, h, List.drop_succ_cons, List.drop_zero, List.isEmpty_iff]

end

end Sys2Proof.Machine

namespace Sys2Proof.Proofs

open Sys2Proof.Machine Sys2Proof.Claims

/-- Settles O44: each row by what the receiver is doing, and a message sent by how much of it there is to send. -/
theorem microLineEvents : Obligations.MicroLineEvents := by
  refine ⟨fun s fault began h => ⟨fun met => ?_, fun len hf unmet => ?_⟩, fun s bad fault began was h hb => ⟨?_, ?_⟩,
    fun s bad began h => exec_ignored_notWaiting h bad began, fun s chars began h silent => ?_, fun s h => ?_,
    fun s began h silent => ?_, fun s h => ?_, fun s m rest start ho ht => ?_, fun s m rest finish ho ht ended => ?_⟩
  · rw [exec_lineError_met h ((s.msl.meets_iff fault).mpr met), State.lineErrorAt_eq]
  · refine exec_lineError_unmet h (fun k => ?_) began
    have := (s.msl.meets_iff fault).mp k len hf
    rcases unmet with busy | ⟨low, high⟩
    · exact busy this.1
    · omega
  · rw [exec_ignored_waiting h, State.ignoredCharacter_eq]
  · have same : LineFault.ofCharacter fault = bad := Bool.eq_iff_iff.mpr ((ofCharacter_iff fault).trans hb.symm)
    rw [exec_lineError_waiting h, exec_ignored_waiting h, same]
  · exact congrArg _ (if_pos (s.gapDiscardDue_iff.mpr ⟨chars, began, h, silent⟩))
  · refine congrArg _ (if_neg (fun k => ?_))
    obtain ⟨chars, began, hrx, silent⟩ := s.gapDiscardDue_iff.mp k
    exact h chars began hrx silent
  · exact congrArg _ (if_pos (s.silenceWaitDue_iff.mpr ⟨began, h, silent⟩))
  · refine congrArg _ (if_neg (fun k => ?_))
    obtain ⟨began, hrx, silent⟩ := s.silenceWaitDue_iff.mp k
    exact h began hrx silent
  · have due : s.messageDue = true ↔
        ((m.length * 11 * 100000000 : Nat) : Int) ≤ (s.tick - start).toInt * s.msl.rate := by
      rw [State.messageDue, ht, ho]
      exact decide_eq_true_iff
    rw [exec, execMessageSent, State.modMsl, MicroLink.sent_cons ho]
    exact congrArg _ (if_congr due rfl rfl)
  · have due : s.messageDue = true := by
      rw [State.messageDue, ht, ho]
      exact decide_eq_true ended
    rw [exec, execMessageSent, if_pos due, State.modMsl, MicroLink.sent_cons ho]

end Sys2Proof.Proofs

namespace Sys2Proof.Machine

open Sys2Proof.Claims

/-! ## Characters of the microscope link (R142 to R144) -/

/-- A line event that completes no row leaves the state it makes. -/
theorem lineStep_none {s t : State} {e : LineEvent} (h : s.takeLine e = (t, none)) : lineStep e s = .next t := by
  rw [lineStep, h]

/-- One that completes a row leaves what the row makes of it. -/
theorem lineStep_some {s t : State} {e : LineEvent} {i : Instr} (h : s.takeLine e = (t, some i)) : lineStep e s = exec i t := by
  rw [lineStep, h]

section

variable {s u : State} {began : Tick} (hb : s.msl.underWay = some began)
  (hu : u = { s with msl := { s.msl with underWay := none } }) (byte : Byte)
include hb hu

/-- A good character is taken once its last bit is in. -/
theorem takeLine_microEnds_good : s.takeLine (.microEnds byte true true) = u.takeCharacter byte began := by
  rw [hu, State.takeLine, State.endCharacter, hb]
  rfl

theorem takeLine_microEnds_bad {parityOk stopOk : Bool} (h : ¬ (parityOk = true ∧ stopOk = true)) :
    s.takeLine (.microEnds byte parityOk stopOk) =
      (u, some (if s.msl.isWaiting = true then .characterWhileWaitingForSilence true began
        else .lineError (if parityOk = true then .stopBit else .parity) began)) := by
  rw [hu, State.takeLine, State.endCharacter, hb]
  dsimp only
  rw [if_neg (by simpa [Bool.and_eq_true] using h)]
  split <;> rfl

end

theorem takeCharacter_waiting {s : State} {was : Tick} (h : s.msl.rx = .waiting was) (byte : Byte) (began : Tick) :
    s.takeCharacter byte began = (s, some (.characterWhileWaitingForSilence false began)) := by
  rw [State.takeCharacter, h]

theorem takeCharacter_idle {s : State} (h : s.msl.rx = .idle) (byte : Byte) (began : Tick) :
    s.takeCharacter byte began =
      if 1 ≤ byte.toNat ∧ byte.toNat ≤ 23 then ({ s with msl := { s.msl with rx := .assembling [byte] began } }, none)
      else (s, some (.lineError (.badLen byte) began)) := by
  rw [State.takeCharacter, h]
  exact if_congr (isMessageLength_iff byte) rfl rfl

theorem messageComplete_iff (len : Byte) (rest : List Byte) (byte : Byte) :
    messageComplete (len :: rest ++ [byte]) = true ↔ len.toNat ≤ rest.length + 1 := by
  simp [messageComplete]

theorem takeCharacter_joins {s : State} {len : Byte} {rest : List Byte} {was : Tick}
    (h : s.msl.rx = .assembling (len :: rest) was) (more : rest.length + 1 < len.toNat) (byte : Byte) (began : Tick) :
    s.takeCharacter byte began = ({ s with msl := { s.msl with rx := .assembling (len :: rest ++ [byte]) began } }, none) := by
  rw [State.takeCharacter, h]
  exact if_neg (mt (messageComplete_iff len rest byte).mp (by omega))

/-- The last character of a message makes the row of its CODE, met by an idle receiver (R142, R144). -/
theorem takeCharacter_completes {s : State} {len : Byte} {rest : List Byte} {was : Tick}
    (h : s.msl.rx = .assembling (len :: rest) was) (last : rest.length + 1 = len.toNat) {byte code : Byte} {params : List Byte}
    (hc : rest ++ [byte] = code :: params) (began : Tick) :
    s.takeCharacter byte began = ({ s with msl := { s.msl with rx := .idle } }, some (microRow code params)) := by
  have row : messageRow (len :: rest ++ [byte]) = some (microRow code params) := by
    rw [List.cons_append, hc]
    rfl
  rw [State.takeCharacter, h]
  dsimp only
  rw [if_pos ((messageComplete_iff len rest byte).mpr (by omega)), row]
  rfl

end Sys2Proof.Machine

namespace Sys2Proof.Proofs

open Sys2Proof.Machine Sys2Proof.Claims

/-- Settles O45: the end of a character by its quality, and a good one by what the receiver is doing. -/
theorem microCharactersMakeMessages : Obligations.MicroCharactersMakeMessages := by
  refine ⟨fun s => rfl, fun s byte parityOk stopOk h => lineStep_none (by rw [State.takeLine, State.endCharacter, h]),
    fun s u byte began hb hu => ?_⟩
  have receiver : u.msl.rx = s.msl.rx := by rw [hu]
  have good : s.takeLine (.microEnds byte true true) = u.takeCharacter byte began := takeLine_microEnds_good hb hu byte
  refine ⟨fun parityOk stopOk bad => ⟨fun was h => ?_, fun h => ?_⟩, fun was h => ?_, fun h low high => ?_, fun h out => ?_,
    fun len rest was h more => ?_, fun len rest was code params h last hc => ?_⟩
  · have ended := takeLine_microEnds_bad hb hu byte bad
    rw [if_pos (s.msl.isWaiting_iff.mpr ⟨was, h⟩)] at ended
    exact lineStep_some ended
  · have ended := takeLine_microEnds_bad hb hu byte bad
    rw [if_neg (fun k => (s.msl.isWaiting_iff.mp k).elim h)] at ended
    exact lineStep_some ended
  · exact lineStep_some (good.trans (takeCharacter_waiting (receiver.trans h) byte began))
  · exact lineStep_none (good.trans ((takeCharacter_idle (receiver.trans h) byte began).trans (if_pos ⟨low, high⟩)))
  · exact lineStep_some (good.trans ((takeCharacter_idle (receiver.trans h) byte began).trans (if_neg (by omega))))
  · exact lineStep_none (good.trans (takeCharacter_joins (receiver.trans h) more byte began))
  · exact lineStep_some (good.trans (takeCharacter_completes (receiver.trans h) last hc began))

end Sys2Proof.Proofs

namespace Sys2Proof.Machine

open Sys2Proof.Claims

/-! ## SET_MONITOR and CLEAR_MONITOR (R147, R151) -/

theorem monitorModeOf_eq (m : Byte) : monitorModeOf m =
    if m.toNat ≤ 1 then some (if m = 1 then .tripInside else .tripOutside) else none := by
  rw [monitorModeOf, boolOf_eq]
  split
  · simp only [Option.map_some, beq_iff_eq]
  · rfl

theorem monitorActionOf_eq (m : Byte) : monitorActionOf m =
    if m.toNat ≤ 1 then some (if m = 1 then .alert else .event) else none := by
  rw [monitorActionOf, boolOf_eq]
  split
  · simp only [Option.map_some, beq_iff_eq]
  · rfl

/-- A source byte in range names the source of its number. -/
theorem sourceOf_min {src : Byte} {source : Source} (h : source.toNat = min 5 src.toNat) :
    sourceOf src = if src.toNat ≤ 5 then some source else none := by
  split
  · exact (sourceOf_iff _ _).mpr (by omega)
  · refine Option.eq_none_iff_forall_ne_some.mpr fun x hx => ?_
    have named := (sourceOf_iff _ _).mp hx
    have : x.toNat ≤ 5 := by rcases x with (_ | _ | _ | _) | _ | _ <;> decide
    omega

theorem setMonitorBlock_eq (s : State) (m src l5 l4 l3 l2 l1 l0 h5 h4 h3 h2 h1 h0 mode act en : Byte) {source : Source}
    (hs : source.toNat = min 5 src.toNat) {low high : Int} (hl : low = count6 l5 l4 l3 l2 l1 l0)
    (hh : high = count6 h5 h4 h3 h2 h1 h0) :
    setMonitorBlock s [m, src, l5, l4, l3, l2, l1, l0, h5, h4, h3, h2, h1, h0, mode, act, en] =
      if m.toNat ≤ 3 ∧ src.toNat ≤ 5 ∧ -1099511627775 ≤ low ∧ low ≤ high ∧ high ≤ 1099511627775 ∧
        mode.toNat ≤ 1 ∧ act.toNat ≤ 1 ∧ en.toNat ≤ 1 then
        State.accept (({ s with mnu := (s.mnu.set (quadAt m)
          { source := source, low := low, high := high
            mode := if mode = 1 then .tripInside else .tripOutside, action := if act = 1 then .alert else .event
            enabled := isSet en, tripped := false }) } : State).judgeLevel)
      else s.refuse .badValue := by
  have low6 : bytesToInt [l5, l4, l3, l2, l1, l0] = low := hl.symm
  have high6 : bytesToInt [h5, h4, h3, h2, h1, h0] = high := hh.symm
  simp only [setMonitorBlock, quadOf_eq, sourceOf_min hs, intIn_eq, low6, high6, boundMax, monitorModeOf_eq, monitorActionOf_eq,
    boolOf_eq]
  split
  · rename_i hm hsrc hlow hhigh hmode hact hen
    simp only [Option.ite_none_right_eq_some, Option.some.injEq] at hm hsrc hlow hhigh hmode hact hen
    obtain ⟨hm, rfl⟩ := hm
    obtain ⟨hsrc, rfl⟩ := hsrc
    obtain ⟨⟨hlow, _⟩, rfl⟩ := hlow
    obtain ⟨⟨_, hhigh⟩, rfl⟩ := hhigh
    obtain ⟨hmode, rfl⟩ := hmode
    obtain ⟨hact, rfl⟩ := hact
    obtain ⟨hen, rfl⟩ := hen
    by_cases order : low ≤ high
    · exact (if_neg (Int.not_lt.mpr order)).trans (if_pos ⟨hm, hsrc, hlow, order, hhigh, hmode, hact, hen⟩).symm
    · rw [if_pos (Int.not_le.mp order), if_neg]
      exact fun ok => order ok.2.2.2.1
  · rename_i h
    rw [if_neg]
    rintro ⟨hm, hsrc, hlow, order, hhigh, hmode, hact, hen⟩
    exact h _ _ _ _ _ _ _ (if_pos hm) (if_pos hsrc) (if_pos ⟨hlow, order.trans hhigh⟩) (if_pos ⟨hlow.trans order, hhigh⟩)
      (if_pos hmode) (if_pos hact) (if_pos hen)

theorem clearMonitorBlock_eq (s : State) (m : Byte) : clearMonitorBlock s [m] =
    if 1 ≤ m.toNat ∧ m.toNat ≤ 15 then ((s.clearMarks (BitVec.ofNat 4 m.toNat)).judgeLevel).accept
    else s.refuse .badValue := by
  simp only [clearMonitorBlock, nonEmptyQuads_eq]
  by_cases h : 1 ≤ m.toNat ∧ m.toNat ≤ 15
  · simp only [if_pos h]
  · simp only [if_neg h]

theorem State.clearMarks_get (s : State) (m : Byte) (i : MonitorId) : (s.clearMarks (BitVec.ofNat 4 m.toNat)).mnu.get i =
    if picks m i = true then { s.mnu.get i with tripped := false } else s.mnu.get i := by
  simp only [State.clearMarks, Four.get_mapIdx, quadSetOf_has]

/-! ## SET_ALERT (R152, R154, R157) -/

/-- A judgement of the level condition leaves the settings of ALERT as they were. -/
theorem State.judgeLevel_pulseTime (s : State) : s.judgeLevel.alc.pulseTime = s.alc.pulseTime := by
  rcases s.judgeLevel_cases with ⟨_, e⟩ | ⟨_, _, e⟩ | ⟨_, _, e⟩ <;> rw [e]
  · obtain ⟨ended, e, _⟩ := s.enterLevel_eq
    rw [e]
  · rfl

/-- A pulse or a gap whose period has passed ends (R154). -/
def State.endPeriod (s : State) : State := if s.pulseDue then s.endPulse else if s.gapDue then s.endGap else s

section

variable {v : State} {start now : Tick} {p : Nat} (ht : v.tick = now) (hp : v.alc.pulseTime = p)
include ht hp

theorem State.endPeriod_pulse (hs : v.alc.state = .pulse start) : v.endPeriod =
    if hasPassed now start (p * 100) then { v with alc := { v.alc with state := .gap now } } else v := by
  have due : v.pulseDue = true ↔ hasPassed now start (p * 100) := by
    rw [State.pulseDue, hs, ← ht, ← hp]
    exact passed_iff _ _ _
  have noGap : ¬ v.gapDue = true := by simp [State.gapDue, hs]
  subst ht
  rw [State.endPeriod, if_neg noGap]
  exact if_congr due rfl rfl

theorem State.endPeriod_gap (hs : v.alc.state = .gap start) : v.endPeriod =
    if hasPassed now start (p * 100) then { v with alc := { v.alc with state := .released } } else v := by
  have due : v.gapDue = true ↔ hasPassed now start (p * 100) := by
    rw [State.gapDue, hs, ← ht, ← hp]
    exact passed_iff _ _ _
  have noPulse : ¬ v.pulseDue = true := by simp [State.pulseDue, hs]
  rw [State.endPeriod, if_neg noPulse]
  exact if_congr due rfl rfl

end

theorem State.endPeriod_other {v : State} (hs : v.alc.state = .released ∨ ∃ m, v.alc.state = .level m) : v.endPeriod = v := by
  rcases hs with hs | ⟨m, hs⟩ <;> simp [State.endPeriod, State.pulseDue, State.gapDue, hs]

theorem State.endPeriod_tick (v : State) : v.endPeriod.tick = v.tick := by
  unfold State.endPeriod
  (repeat' split) <;> rfl

theorem State.applyAlert_eq (s : State) (guard : QuadSet) (onBridge onMiss : Bool) (pulse level : Nat) {u v : State}
    (hu : u = { s with alc := { s.alc with
      guard := guard, pulseOnBridge := onBridge, pulseOnMiss := onMiss, pulseTime := pulse, levelMin := level } })
    (hv : v = (if s.alc.state = .level false ∧ hasPassed s.tick s.alc.wentLow (level * 100) then
      { u with alc := { u.alc with state := .level true } } else u).judgeLevel) :
    s.applyAlert guard onBridge onMiss pulse level = v.endPeriod := by
  have due : u.minimumDue = true ↔ s.alc.state = .level false ∧ hasPassed s.tick s.alc.wentLow (level * 100) := by
    rw [State.minimumDue_iff, hu]
    exact Iff.rfl
  have judged : (if u.minimumDue = true then u.modAlc (fun x => { x with state := .level true }) else u).judgeLevel = v := by
    rw [hv]
    exact congrArg State.judgeLevel (if_congr due rfl rfl)
  rw [← judged, hu]
  rfl

theorem setAlertBlock_eq (s : State) (g b m p l : Byte) : setAlertBlock s [g, b, m, p, l] =
    if g.toNat ≤ 15 ∧ b.toNat ≤ 1 ∧ m.toNat ≤ 1 ∧ 1 ≤ p.toNat ∧ p.toNat ≤ 10 ∧ 4 * p.toNat ≤ l.toNat then
      (s.applyAlert (BitVec.ofNat 4 g.toNat) (isSet b) (isSet m) p.toNat l.toNat).accept
    else s.refuse .badValue := by
  have byte := l.isLt
  simp only [setAlertBlock, quadSetOf, boolOf_eq, natIn, bytesToNat_singleton]
  split
  · rename_i hg hb hm hp hl
    simp only [Option.ite_none_right_eq_some, Option.some.injEq] at hg hb hm hp hl
    obtain ⟨hg, rfl⟩ := hg
    obtain ⟨hb, rfl⟩ := hb
    obtain ⟨hm, rfl⟩ := hm
    obtain ⟨hp, rfl⟩ := hp
    obtain ⟨hl, rfl⟩ := hl
    by_cases order : 4 * p.toNat ≤ l.toNat
    · exact (if_neg (Nat.not_lt.mpr order)).trans (if_pos ⟨Nat.lt_succ_iff.mp hg, hb, hm, hp.1, hp.2, order⟩).symm
    · rw [if_pos (Nat.not_le.mp order), if_neg]
      exact fun ok => order ok.2.2.2.2.2
  · rename_i h
    rw [if_neg]
    rintro ⟨hg, hb, hm, hp1, hp2, order⟩
    exact h _ _ _ _ _ (if_pos (Nat.lt_succ_iff.mpr hg)) (if_pos hb) (if_pos hm) (if_pos ⟨hp1, hp2⟩) (if_pos (by omega))

/-! ## SET_MICRO_LINK (R141, R143) -/

theorem setMicroLinkBlock_eq (s : State) (r2 r1 r0 : Byte) : setMicroLinkBlock s [r2, r1, r0] =
    if 115200 ≤ bytesToNat [r2, r1, r0] ∧ bytesToNat [r2, r1, r0] ≤ 2000000 then
      (if bytesToNat [r2, r1, r0] = s.msl.rate then s else s.changeRate (bytesToNat [r2, r1, r0])).accept
    else s.refuse .badValue := by
  simp only [setMicroLinkBlock, natIn]
  by_cases h : 115200 ≤ bytesToNat [r2, r1, r0] ∧ bytesToNat [r2, r1, r0] ≤ 2000000
  · simp only [if_pos h]
    split <;> rfl
  · simp only [if_neg h]

/-- A message being assembled is a line error (R141, R143). -/
theorem State.dropAssembly_assembling {s : State} {chars : List Byte} {began : Tick} (h : s.msl.rx = .assembling chars began) :
    s.dropAssembly = offered (raised
      { s with msl := { s.msl with lineErrors := min 65535 (s.msl.lineErrors + 1), rx := .waiting began } } 26)
      [0x02, 0xA2, 0x03] := by
  rw [← State.lineErrorAt_eq, State.dropAssembly, h]

theorem State.dropAssembly_other {s : State} (h : ∀ chars began, s.msl.rx ≠ .assembling chars began) : s.dropAssembly = s := by
  unfold State.dropAssembly
  split
  · rfl
  · rename_i hrx
    exact absurd hrx (h _ _)
  · rfl

theorem MicroLink.cut_rx (x : MicroLink) (tick : Tick) : (x.cut tick).rx = x.rx := by
  unfold MicroLink.cut
  split <;> rfl

theorem State.changeRate_tick (s : State) (rate : Nat) : (s.changeRate rate).tick = s.tick := by
  unfold State.changeRate State.dropAssembly
  split <;> simp [State.lineErrorAt]

end Sys2Proof.Machine

namespace Sys2Proof.Proofs

open Sys2Proof.Machine Sys2Proof.Claims

/-- Settles O48: the checks and settings of the four commands, and what each judges or cuts at once. -/
theorem monitorAlertLinkSettings : Obligations.MonitorAlertLinkSettings := by
  refine ⟨fun s m src l5 l4 l3 l2 l1 l0 h5 h4 h3 h2 h1 h0 mode act en extra source hs => ?_, fun s m extra => ?_,
    fun s g b m p l extra u v hu hv => ?_, fun s r2 r1 r0 extra u hu => ?_⟩
  · have written := setMonitorBlock_eq s m src l5 l4 l3 l2 l1 l0 h5 h4 h3 h2 h1 h0 mode act en hs rfl rfl
    exact congrArg Host.Outcome.next (State.hostCommand_checked rfl (by decide) written (by simp))
  · refine ⟨_, s.clearMarks_get m, congrArg Host.Outcome.next ?_⟩
    exact State.hostCommand_checked rfl (by decide) (clearMonitorBlock_eq s m) (by simp [State.clearMarks])
  · have tick : v.tick = s.tick := by
      rw [hv, hu]
      split <;> simp
    have period : v.alc.pulseTime = p.toNat := by
      rw [hv, State.judgeLevel_pulseTime, hu]
      split <;> rfl
    have row : exec (.setAlert (frame [g, b, m, p, l] extra)) s = .next (checked s 0x2B
        (g.toNat ≤ 15 ∧ b.toNat ≤ 1 ∧ m.toNat ≤ 1 ∧ 1 ≤ p.toNat ∧ p.toNat ≤ 10 ∧ 4 * p.toNat ≤ l.toNat) v.endPeriod) := by
      rw [← s.applyAlert_eq _ _ _ _ _ hu hv]
      refine congrArg Host.Outcome.next (State.hostCommand_checked rfl (by decide) (setAlertBlock_eq s g b m p l) ?_)
      rw [s.applyAlert_eq _ _ _ _ _ hu hv, State.endPeriod_tick, tick]
    rw [row]
    refine congrArg (fun t => Host.Outcome.next (checked s 0x2B _ t)) ?_
    cases hs : v.alc.state with
    | pulse start => exact State.endPeriod_pulse tick period hs
    | gap start => exact State.endPeriod_gap tick period hs
    | released => exact State.endPeriod_other (.inl hs)
    | level ended => exact State.endPeriod_other (.inr ⟨ended, hs⟩)
  · have cut : s.modMsl (fun x => x.cut s.tick) = u := by
      rw [hu]
      rfl
    have receiver : u.msl.rx = s.msl.rx := by
      rw [← cut]
      exact s.msl.cut_rx s.tick
    refine congrArg Host.Outcome.next
      ((State.hostCommand_checked (n := 3) rfl (by decide) (setMicroLinkBlock_eq s r2 r1 r0) ?_).trans
        (congrArg (checked s 0x28 _) (if_congr Iff.rfl rfl ?_)))
    · split
      · rfl
      · exact s.changeRate_tick _
    · rw [State.changeRate, cut]
      cases hrx : s.msl.rx with
      | idle =>
        rw [State.dropAssembly_other (by simp [receiver, hrx])]
        rfl
      | waiting was =>
        rw [State.dropAssembly_other (by simp [receiver, hrx])]
        rfl
      | assembling chars began =>
        rw [State.dropAssembly_assembling (receiver.trans hrx)]
        rfl

end Sys2Proof.Proofs

namespace Sys2Proof.Machine

open Sys2Proof.Claims

/-! ## What the law of ALERT reads (R147, R152, R155 to R157) -/

/-- The same axes are FAULTED. -/
def State.SameFaults (s t : State) : Prop := ∀ a, (t.phu.get a).state = .faulted ↔ (s.phu.get a).state = .faulted

theorem State.SameFaults.of_phu {s t : State} (e : t.phu = s.phu) : s.SameFaults t := fun a => by rw [e]

theorem State.SameFaults.trans {s t u : State} (h : s.SameFaults t) (k : t.SameFaults u) : s.SameFaults u :=
  fun a => (k a).trans (h a)

/-- A change that reaches one phase unit keeps the faults where that one stays FAULTED or not FAULTED. -/
theorem State.SameFaults.set {s t : State} {a : Axis} {q : PhaseUnit} (e : t.phu = s.phu.set a q)
    (hq : q.state = .faulted ↔ (s.phu.get a).state = .faulted) : s.SameFaults t := by
  intro b
  rw [e, Four.get_set]
  split
  · rename_i hb
    rwa [hb]
  · exact Iff.rfl

/-- The Alert Controller and the monitors stand as they were. -/
def State.SameController (s t : State) : Prop := t.alc = s.alc ∧ t.mnu = s.mnu

theorem State.SameController.answer {s u : State} (h : s.SameController u) (code : Byte) (r : Reply) :
    s.SameController (u.answer code r) := by
  simpa [State.SameController] using h

/-- The level condition reads the guard mask, the monitors and the faults alone (R155). -/
theorem State.levelCondition_same {s t : State} (e : s.SameController t) (k : s.SameFaults t) :
    t.levelCondition = s.levelCondition := by
  rw [Bool.eq_iff_iff, t.levelCondition_iff, s.levelCondition_iff, levelTrue, levelTrue, e.1, e.2]
  simp only [k _]

theorem State.AlertOk.congr {s t : State} (h : s.AlertOk) (e : s.SameController t) (k : s.SameFaults t) : t.AlertOk where
  level ht := by
    rw [e.1]
    exact h.level (by rwa [← State.levelCondition_same e k])
  ended ht := by
    rw [State.levelCondition_same e k]
    exact h.ended (by rwa [← e.1])
  times := by rw [e.1]; exact h.times
  coalesced := by rw [e.1]; exact h.coalesced
  monitors := by rw [e.2]; exact h.monitors

/-- A change outside the Alert Controller, the monitors and the phase units. -/
theorem State.AlertOk.frame {s t : State} (h : s.AlertOk) (e : t.alc = s.alc ∧ t.mnu = s.mnu ∧ t.phu = s.phu) : t.AlertOk :=
  h.congr ⟨e.1, e.2.1⟩ (.of_phu e.2.2)

/-! ## Judgements and requests keep the law of ALERT (R154 to R158) -/

/-- The part of the law of ALERT that stands while the level condition is still to be judged: the settings and the coalesced
count lie in their ranges. -/
structure State.AlertInRange (s : State) : Prop where
  times : 1 ≤ s.alc.pulseTime ∧ s.alc.pulseTime ≤ 10 ∧ 4 * s.alc.pulseTime ≤ s.alc.levelMin ∧ s.alc.levelMin ≤ 255
  coalesced : s.alc.coalesced ≤ 65535
  monitors : ∀ m, (s.mnu.get m).low ≤ (s.mnu.get m).high ∧ -boundMax ≤ (s.mnu.get m).low ∧ (s.mnu.get m).high ≤ boundMax

theorem State.AlertOk.inRange {s : State} (h : s.AlertOk) : s.AlertInRange := ⟨h.times, h.coalesced, h.monitors⟩

theorem State.AlertInRange.congr {s t : State} (h : s.AlertInRange) (e : s.SameController t) : t.AlertInRange where
  times := by rw [e.1]; exact h.times
  coalesced := by rw [e.1]; exact h.coalesced
  monitors := by rw [e.2]; exact h.monitors

/-- A judgement of the level condition brings the state of ALERT in line with it, whatever went before (R155 to R157). -/
theorem State.AlertInRange.judgeLevel {s : State} (h : s.AlertInRange) : s.judgeLevel.AlertOk := by
  obtain ⟨times, coalesced, monitors⟩ := h
  rcases s.judgeLevel_cases with ⟨holds, e⟩ | ⟨fails, _, e⟩ | ⟨fails, notEnded, e⟩ <;> rw [e]
  · obtain ⟨minimum, entered, _⟩ := s.enterLevel_eq
    rw [entered]
    exact ⟨fun _ => ⟨minimum, rfl⟩, fun _ => holds, times, coalesced, monitors⟩
  · exact ⟨fun level => absurd (fails.symm.trans level) nofun, nofun, times, coalesced, monitors⟩
  · exact ⟨fun level => absurd (fails.symm.trans level) nofun, fun ended => absurd ended notEnded, times, coalesced, monitors⟩

/-- Outside LEVEL the level condition is false, and the controller may go from one of its other states to another. -/
theorem State.AlertOk.outsideLevel {s : State} (h : s.AlertOk) (hs : ∀ m, s.alc.state ≠ .level m) {next : AlertState}
    (hn : ∀ m, next ≠ .level m) (low : Tick) :
    ({ s with alc := { s.alc with state := next, wentLow := low } } : State).AlertOk where
  level level := by
    obtain ⟨m, hm⟩ := h.level level
    exact absurd hm (hs m)
  ended hend := absurd hend (hn true)
  times := h.times
  coalesced := h.coalesced
  monitors := h.monitors

/-- The law reads the coalesced count for its range alone. -/
theorem State.AlertOk.withCoalesced {s : State} (h : s.AlertOk) {n : Nat} (hn : n ≤ 65535) :
    ({ s with alc := { s.alc with coalesced := n } } : State).AlertOk :=
  ⟨h.level, h.ended, h.times, hn, h.monitors⟩

theorem State.AlertOk.pulseRequest {s : State} (h : s.AlertOk) : s.pulseRequest.AlertOk := by
  rw [State.pulseRequest_eq_pulsed, pulsed]
  split
  · rename_i released
    exact h.outsideLevel (next := .pulse s.tick) (by simp [released]) (fun _ => nofun) s.tick
  · exact h.withCoalesced (Nat.min_le_left _ _)

theorem State.AlertOk.bridgeRequest {s : State} (h : s.AlertOk) (a : Axis) : (s.bridgeRequest a).AlertOk := by
  unfold State.bridgeRequest
  split
  · exact h.pulseRequest
  · exact h

theorem State.AlertOk.missRequest {s : State} (h : s.AlertOk) : s.missRequest.AlertOk := by
  unfold State.missRequest
  split
  · exact h.pulseRequest
  · exact h

/-! ## Monitors keep the law of ALERT (R150) -/

/-- A change of the monitors that leaves their windows keeps every range. -/
theorem State.AlertInRange.sameWindows {s t : State} (h : s.AlertInRange) (ha : t.alc = s.alc)
    (hm : ∀ m, (t.mnu.get m).low = (s.mnu.get m).low ∧ (t.mnu.get m).high = (s.mnu.get m).high) : t.AlertInRange where
  times := by rw [ha]; exact h.times
  coalesced := by rw [ha]; exact h.coalesced
  monitors m := by rw [(hm m).1, (hm m).2]; exact h.monitors m

/-- A mark on a monitor whose action is EVENT does not bear on the level condition (R155). -/
theorem State.levelCondition_trip_event {s t : State} {i : MonitorId} (ha : t.alc = s.alc) (hp : t.phu = s.phu)
    (hm : t.mnu = s.mnu.set i (s.mnu.get i).trip) (event : (s.mnu.get i).action ≠ .alert) :
    t.levelCondition = s.levelCondition := by
  have alert (m : MonitorId) : (t.mnu.get m).tripped = true ∧ (t.mnu.get m).action = .alert ↔
      (s.mnu.get m).tripped = true ∧ (s.mnu.get m).action = .alert := by
    rw [hm, Four.get_set]
    split
    · rename_i hi
      subst hi
      exact ⟨fun k => absurd k.2 event, fun k => absurd k.2 event⟩
    · exact Iff.rfl
  rw [Bool.eq_iff_iff, t.levelCondition_iff, s.levelCondition_iff, levelTrue, levelTrue, ha, hp]
  simp only [alert]

theorem State.AlertOk.tripMonitor {s : State} (h : s.AlertOk) (i : MonitorId) : (s.tripMonitor i).AlertOk := by
  have windows (m : MonitorId) : ((s.mnu.set i (s.mnu.get i).trip).get m).low = (s.mnu.get m).low ∧
      ((s.mnu.set i (s.mnu.get i).trip).get m).high = (s.mnu.get m).high := by
    rw [Four.get_set]
    split
    · rename_i hi
      exact hi ▸ ⟨rfl, rfl⟩
    · exact ⟨rfl, rfl⟩
  have marked := h.inRange.sameWindows (t := (s.modMonitor i Monitor.trip).raise (.monitorTrip i)) (by simp) (by simpa using windows)
  unfold State.tripMonitor
  dsimp only
  split
  · exact marked.judgeLevel
  · rename_i event
    have level := State.levelCondition_trip_event (s := s) (t := (s.modMonitor i Monitor.trip).raise (.monitorTrip i)) (i := i)
      (by simp) (by simp) (by simp) (by simpa using event)
    exact ⟨fun k => h.level (level ▸ k), fun k => level ▸ h.ended k, marked.times, marked.coalesced, marked.monitors⟩

theorem State.AlertOk.evaluateMonitors {s : State} (h : s.AlertOk) (a : Axis) : (s.evaluateMonitors a).AlertOk := by
  have one {s : State} (h : s.AlertOk) (i : MonitorId) : (s.evaluateMonitor a i).AlertOk := by
    unfold State.evaluateMonitor
    split
    · exact h.tripMonitor i
    · exact h
  exact one (one (one (one h .q0) .q1) .q2) .q3

/-! ## The sample path keeps the law of ALERT -/

theorem State.AlertOk.modPhu {s : State} (h : s.AlertOk) {a : Axis} {f : PhaseUnit → PhaseUnit}
    (hf : (f (s.phu.get a)).state = .faulted ↔ (s.phu.get a).state = .faulted) : (s.modPhu a f).AlertOk :=
  h.congr ⟨rfl, rfl⟩ (.set rfl hf)

/-- A change of the counting record leaves the axis state. -/
theorem State.AlertOk.track {s : State} (h : s.AlertOk) {a : Axis} {f : PhaseUnit → PhaseUnit}
    (hf : (f (s.phu.get a)).state = (s.phu.get a).state) : (s.modPhu a f).AlertOk :=
  h.modPhu (by rw [hf])

theorem State.AlertOk.modSlr {s : State} (h : s.AlertOk) (a : Axis) (f : Receiver → Receiver) : (s.modSlr a f).AlertOk :=
  h.frame ⟨rfl, rfl, rfl⟩

theorem State.AlertOk.integrityLoss {s : State} (h : s.AlertOk) (a : Axis) (c : Cause) (t : Tick) (hold : Int) :
    (s.integrityLoss a c t hold).AlertOk := by
  rcases s.integrityLoss_cases a c t hold with ⟨_, e⟩ | ⟨hs, e⟩ | ⟨_, e⟩ | ⟨_, e⟩ <;> rw [e]
  · exact h
  · have unarmed : (s.modPhu a (fun p => { p with state := .unreferenced, armed := none })).AlertOk := h.modPhu (by simp [hs])
    exact unarmed.frame (by simp)
  · refine State.AlertInRange.judgeLevel (h.inRange.congr ?_)
    simp [State.SameController]
  · exact h.track rfl

theorem State.AlertOk.rangeLoss {s : State} (h : s.AlertOk) (a : Axis) (change : Int) (t : Tick) :
    (s.rangeLoss a change t).AlertOk := by
  unfold State.rangeLoss
  split
  · exact h.integrityLoss a _ _ _
  · exact h

theorem State.AlertOk.offerUpdate {s : State} (h : s.AlertOk) (a : Axis) (e : HistEntry) : (s.offerUpdate a e).AlertOk :=
  State.AlertOk.evaluateMonitors (h.frame (by simp)) a

theorem State.AlertOk.enterSample {s : State} (h : s.AlertOk) (a : Axis) (t : Tick) (k : SampleKind) :
    (s.enterSample a t k).AlertOk :=
  State.AlertOk.offerUpdate (h.track rfl) a _

/-- A datum is loaded into an axis that is not FAULTED (R51, R55). -/
theorem State.SameFaults.loadDatum {s : State} {a : Axis} (hf : (s.phu.get a).state ≠ .faulted) (v : Int) :
    s.SameFaults (s.loadDatum a v) :=
  .set (s.loadDatum_phu a v) ⟨nofun, fun k => absurd k hf⟩

theorem State.AlertOk.countSample {s : State} (h : s.AlertOk) (a : Axis) (mark : Bool) (p : BitVec 9) (d : Int) (t : Tick) :
    (s.countSample a mark p d t).AlertOk := by
  have counted : ((s.rangeLoss a ((s.phu.get a).dir.sign * d) t).modPhu a (fun u => u.counted p d t)).AlertOk :=
    (h.rangeLoss a _ t).track rfl
  unfold State.countSample
  dsimp only
  split
  · rename_i v _ hv
    have loaded := counted.congr ⟨by simp, by simp⟩
      (State.SameFaults.loadDatum (a := a) (by rw [PhaseUnit.markDatum_armed hv]; decide) v)
    have entered := loaded.track (a := a) (f := fun q => { q with history := enterHistory q.history (q.entryAt t .real) }) rfl
    exact State.AlertOk.offerUpdate (entered.frame (by simp [State.pushHistory])) a _
  · exact counted.enterSample a t .real

theorem State.AlertOk.takePhase {s : State} (h : s.AlertOk) (a : Axis) (mark : Bool) (p : BitVec 9) (t : Tick) :
    (s.takePhase a mark p t).AlertOk := by
  unfold State.takePhase
  split
  · exact State.AlertOk.enterSample (h.track rfl) a t .real
  · dsimp only
    split
    · exact h.countSample a mark p _ t
    · exact State.AlertOk.enterSample ((h.integrityLoss a _ _ _).track rfl) a t .real

theorem State.AlertOk.bridgeSamples (a : Axis) (tn : Tick) (ts : List Tick) :
    ∀ {s : State}, s.AlertOk → (s.bridgeSamples a tn ts).AlertOk := by
  induction ts with
  | nil => exact fun h => h
  | cons t ts ih => exact fun h => ih (State.AlertOk.enterSample ((h.rangeLoss a _ tn).track rfl) a t .bridged)

theorem State.AlertOk.takeNotice {s : State} (h : s.AlertOk) (a : Axis) (reason : MissingReason) (g : Nat) (tn : Tick) :
    (s.takeNotice a reason g tn).AlertOk := by
  unfold State.takeNotice
  split
  · rename_i instants _
    exact State.AlertOk.bridgeRequest ((State.AlertOk.bridgeSamples a tn instants h).track rfl) a
  · exact State.AlertOk.integrityLoss (h.track rfl) a _ _ _

/-! ## The sample links keep the law of ALERT -/

theorem State.AlertOk.handNotice {s : State} (h : s.AlertOk) (a : Axis) (reason : MissingReason) (g : Nat) (tn : Tick) :
    (s.handNotice a reason g tn).AlertOk := by
  unfold State.handNotice
  split
  · exact h
  · exact h.takeNotice a reason g tn

theorem State.AlertOk.handSample {s : State} (h : s.AlertOk) (a : Axis) (f : SampleFields) (t : Tick) :
    (s.handSample a f t).AlertOk := by
  unfold State.handSample State.takeSample
  split
  · exact h
  · dsimp only
    split
    · exact h.takeNotice a .low 1 t
    · exact State.AlertOk.takePhase (h.track rfl) a f.mark _ t

theorem State.AlertOk.lockGained {s : State} (h : s.AlertOk) (a : Axis) : (s.lockGained a).AlertOk := by
  unfold State.lockGained
  split
  · exact h
  · exact h.track rfl

theorem State.AlertOk.contribute {s : State} (h : s.AlertOk) (a : Axis) (n : Nat) : (s.contribute a n).AlertOk :=
  h.frame (by simp)

theorem State.AlertOk.loseLock {s : State} (h : s.AlertOk) (a : Axis) (t : Tick) : (s.loseLock a t).AlertOk := by
  have down := h.modSlr a (fun r => { r.toDown with lockLosses := satAdd 255 r.lockLosses 1 })
  unfold State.loseLock State.lockLost
  split
  · exact down
  · exact (down.integrityLoss a .link t _).track rfl

theorem State.AlertOk.dropLink {s : State} (h : s.AlertOk) (a : Axis) (t : Tick) : (s.dropLink a t).AlertOk := by
  unfold State.dropLink
  split
  · exact h
  · exact h.modSlr a _
  · exact h.loseLock a t

theorem State.AlertOk.acceptSample {s : State} (h : s.AlertOk) (a : Axis) (f : SampleFields) : (s.acceptSample a f).AlertOk :=
  ((h.modSlr a _).contribute a 1).handSample a f _

theorem State.AlertOk.badInLocked {s : State} (h : s.AlertOk) (a : Axis) (duplicate : Bool) :
    (s.badInLocked a duplicate).AlertOk := by
  unfold State.badInLocked State.occupyPosition
  split
  · exact h.loseLock a _
  · split
    · exact h.modSlr a _
    · exact (h.modSlr a _).handNotice a _ _ _

theorem State.AlertOk.goodInAcquiring {s : State} (h : s.AlertOk) (a : Axis) (f : SampleFields) :
    (s.goodInAcquiring a f).AlertOk := by
  unfold State.goodInAcquiring State.enterLocked
  dsimp only
  split
  · split
    · exact (((h.modSlr a _).lockGained a).contribute a 1).handSample a f _
    · exact h.modSlr a _
  · exact h.modSlr a _

theorem State.AlertOk.goodInLocked {s : State} (h : s.AlertOk) (a : Axis) (f : SampleFields) : (s.goodInLocked a f).AlertOk := by
  unfold State.goodInLocked
  dsimp only
  split
  · exact h.acceptSample a f
  · split
    · exact (((h.modSlr a _).contribute a _).handNotice a _ _ _).acceptSample a f
    · exact (h.modSlr a _).badInLocked a _

/-- A frame on a sample link keeps the law of ALERT (R2 to R14). -/
theorem State.AlertOk.takeFrame {s : State} (h : s.AlertOk) (a : Axis) (bits : List Bool) : (s.takeFrame a bits).AlertOk := by
  unfold State.takeFrame State.goodFrame State.badFrame
  dsimp only
  split
  · split
    · exact (h.modSlr a _).modSlr a _
    · exact (h.modSlr a _).goodInAcquiring a _
    · exact (h.modSlr a _).goodInLocked a _
  · split
    · exact h.modSlr a _
    · exact (h.modSlr a _).modSlr a _
    · exact (h.modSlr a _).badInLocked a _

theorem State.AlertOk.setLinkBlock {s : State} (h : s.AlertOk) (ps : List Byte) : (setLinkBlock s ps).2.AlertOk := by
  have written (a : Axis) (l t d : Nat) : (s.writeLink a l t d).AlertOk := by
    unfold State.writeLink
    dsimp only
    split
    · exact (h.modSlr a _).dropLink a _
    · exact h.modSlr a _
  unfold Machine.setLinkBlock
  split
  · split
    · exact written _ _ _ _
    · exact h
  · exact h

end Sys2Proof.Machine

namespace Sys2Proof.Machine

open Sys2Proof.Claims

/-! ## Commands that reach neither ALERT nor the monitors -/

/-- The blocks whose settings and data lie outside the Alert Controller and the monitors. -/
def blocksBesideAlert : List (State → List Byte → Reply × State) :=
  [setOpticsBlock, setConditionsBlock, setExpansionBlock, setPlausibilityBlock, setProbeBlock, setFrameBlock,
    setSampleCheckBlock, setNotifyBlock, setLayoutBlock, holdOutputBlock, setTriggerBlock, queueContextBlock,
    flushContextsBlock, setCaptureBlock, readCapturesBlock, setMicroLinkBlock, readPositionBlock, clearEventsBlock,
    readLinkCountersBlock, setCorrectionBlock, setAmplitudeBlock, setDirectionBlock, setBridgeBlock, datumNowBlock]

theorem datumNowAt_sameController (s : State) (a : Axis) (v : Int) : s.SameController (datumNowAt s a v).2 := by
  unfold datumNowAt
  (repeat' split) <;> simp [State.SameController, State.accept, State.refuse]

theorem blocksBesideAlert_sameController (s : State) (ps : List Byte) :
    ∀ block ∈ blocksBesideAlert, s.SameController (block s ps).2 := by
  have datum (a : Axis) (v : Int) := datumNowAt_sameController s a v
  simp only [blocksBesideAlert, List.forall_mem_cons, List.not_mem_nil, false_implies, implies_true, and_true,
    setOpticsBlock, setConditionsBlock, setExpansionBlock, setPlausibilityBlock, setProbeBlock, setFrameBlock,
    setSampleCheckBlock, setNotifyBlock, setLayoutBlock, holdOutputBlock, setTriggerBlock, queueContextBlock,
    flushContextsBlock, setCaptureBlock, readCapturesBlock, setMicroLinkBlock, readPositionBlock, clearEventsBlock,
    readLinkCountersBlock, setCorrectionBlock, setAmplitudeBlock, setDirectionBlock, setBridgeBlock, datumNowBlock,
    State.SameController, State.accept, State.report, State.refuse] at datum ⊢
  and_intros
  all_goals (repeat' split) <;> simp [datum]

/-- A message of the microscope link reaches contexts, counters and the outgoing queue alone. -/
theorem State.takeMessage_sameController {s : State} {act : State → List Byte × State}
    (h : ∀ u : State, u.SameController (act u).2) : s.SameController (s.takeMessage act) := by
  unfold State.takeMessage
  split
  · have acted := h (s.modMsl (fun x => { x with messages := x.messages + 1 }))
    simpa [State.SameController] using acted
  · exact ⟨rfl, rfl⟩

/-- The commands that can reach the Alert Controller, or the monitors and faults that it judges. -/
def reachesAlert : Instr → Bool
  | .sampleFrame _ _ | .silenceTimerExpiry _ | .setLink _ | .triggerEdge _ _ => true
  | .disableAxis _ | .ackFault _ | .axisRestart _ => true
  | .pulseTimerExpiry | .gapTimerExpiry | .minimumLevelExpiry => true
  | .setMonitor _ | .clearMonitor _ | .setAlert _ | .readAlertState _ _ => true
  | .resetUnit _ _ | .powerOnReset _ => true
  | _ => false

/-- Every other command leaves the Alert Controller and the monitors as they were. -/
theorem exec_sameController {i : Instr} {s t : State} (hi : reachesAlert i = false) (h : exec i s = .next t) :
    s.SameController t := by
  have host : ∀ {code n body block}, (∀ ps, s.SameController (block s ps).2) →
      s.SameController (s.hostCommand code n body block) :=
    State.hostCommand_keeps (fun _ _ _ k => k.answer _ _) ⟨rfl, rfl⟩
  have listed : ∀ {code n body block}, block ∈ blocksBesideAlert → s.SameController (s.hostCommand code n body block) :=
    fun hb => host (fun ps => blocksBesideAlert_sameController s ps _ hb)
  have axis : ∀ {code body act}, (∀ a, s.SameController (act s a).2) →
      s.SameController (s.hostCommand code 1 body (axisCommand act)) :=
    fun ha => host (axisCommand_keeps ⟨rfl, rfl⟩ ha)
  have datum : ∀ {code body act}, (∀ a d, s.SameController (act s a d).2) →
      s.SameController (s.hostCommand code 8 body (datumCommand act)) :=
    fun ha => host (datumCommand_keeps ⟨rfl, rfl⟩ ha)
  cases i <;> cases hi <;> obtain rfl := Host.Outcome.next.inj h
  case microQueueContext params =>
    refine State.takeMessage_sameController (fun u => ?_)
    unfold microQueueAct
    (repeat' split) <;> exact ⟨rfl, rfl⟩
  case flushOwn params =>
    refine State.takeMessage_sameController (fun u => ?_)
    unfold flushOwnAct
    split <;> exact ⟨rfl, rfl⟩
  case query => exact State.takeMessage_sameController (fun _ => ⟨rfl, rfl⟩)
  case microUnknownCode =>
    split
    · exact ⟨rfl, rfl⟩
    · exact State.takeMessage_sameController (fun _ => ⟨rfl, rfl⟩)
  case setEventMask | readStatus | readFrameState | readServoState => exact host (fun _ => ⟨rfl, rfl⟩)
  case readTracking => exact axis (fun _ => ⟨rfl, rfl⟩)
  case enableAxis =>
    refine axis (fun a => ?_)
    unfold enableAxisBlock
    split <;> exact ⟨rfl, rfl⟩
  case releaseAxis =>
    refine axis (fun a => ?_)
    unfold releaseAxisBlock
    split <;> exact ⟨rfl, rfl⟩
  case setDatumPreset => exact datum (fun _ _ => ⟨rfl, rfl⟩)
  case datumAtMark =>
    refine datum (fun a d => ?_)
    unfold datumAtMarkAt
    split <;> exact ⟨rfl, rfl⟩
  case readConditions | readCaptureState =>
    refine host (clearCommand_keeps ⟨rfl, rfl⟩ (fun c => ?_))
    cases c <;> exact ⟨rfl, rfl⟩
  case setLayout body =>
    split
    · split
      · exact ⟨rfl, rfl⟩
      · split
        · exact State.SameController.answer ⟨rfl, rfl⟩ _ _
        · exact listed (by simp [blocksBesideAlert])
    · exact listed (by simp [blocksBesideAlert])
  case setOptics | setConditions | setExpansion | setPlausibility | setProbe | setFrame | setSampleCheck | setNotify |
      holdOutput | holdOutputRelease | setTrigger | queueContext | flushContexts | setCapture | readCaptures | setMicroLink |
      readPosition | clearEvents | readLinkCounters | setCorrection | setAmplitude | setDirection | setBridge | datumNow =>
    exact listed (by simp [blocksBesideAlert])
  all_goals (repeat' split) <;> simp [State.SameController]

end Sys2Proof.Machine

namespace Sys2Proof.Machine

open Sys2Proof.Claims

/-! ## Commands that make no fault and clear none -/

theorem State.SameFaults.refl (s : State) : s.SameFaults s := .of_phu rfl

/-- A change of one phase unit that leaves its axis state. -/
theorem State.SameFaults.track {s : State} {a : Axis} {f : PhaseUnit → PhaseUnit}
    (hf : (f (s.phu.get a)).state = (s.phu.get a).state) : s.SameFaults (s.modPhu a f) :=
  .set rfl (by rw [hf])

/-- A frame event clears marks of phase units and leaves their states (R107). -/
theorem State.frameEvent_sameFaults (s : State) (kind : FrameKind) : s.SameFaults (s.frameEvent kind) := by
  intro a
  rw [State.frameEvent_phu, State.activateAndSnapshot_phu]
  split <;> exact Iff.rfl

theorem State.SameFaults.frameEvent {s u : State} (h : s.SameFaults u) (kind : FrameKind) : s.SameFaults (u.frameEvent kind) :=
  h.trans (u.frameEvent_sameFaults kind)

theorem State.syncRise_sameFaults (s : State) : s.SameFaults s.syncRise := by
  unfold State.syncRise
  split
  · exact .refl s
  · exact State.SameFaults.frameEvent (.of_phu (by simp)) _
  · exact State.SameFaults.frameEvent (.of_phu (by simp)) _

theorem State.timerEvent_sameFaults (s : State) : s.SameFaults s.timerEvent :=
  State.SameFaults.frameEvent (.of_phu (by simp)) _

theorem setFrameBlock_sameFaults (s : State) (ps : List Byte) : s.SameFaults (setFrameBlock s ps).2 := by
  have judged (f : FrameUnit → FrameUnit) (b : Bool) : s.SameFaults ((s.modFru f).judgeFrameTimers b) := by
    unfold State.judgeFrameTimers
    split
    · exact .of_phu (by simp)
    · split
      · exact State.SameFaults.trans (.of_phu (by simp)) (State.timerEvent_sameFaults _)
      · exact .of_phu (by simp)
  unfold setFrameBlock
  split
  · split
    · unfold State.applyFrame
      dsimp only [State.accept]
      split
      · exact .refl s
      · exact judged _ _
      · exact judged _ _
    · exact .refl s
  · exact .refl s

/-- A command word arms or disarms (R54). -/
theorem State.completeRead_sameFaults (s : State) (word : BitVec 8) : s.SameFaults (s.completeRead word) := by
  rcases s.completeRead_cases word with ⟨_, _, _, e⟩ | e <;> rw [e]
  · intro a
    rw [State.takeWord_get]
    split
    · rename_i arms
      obtain ⟨_, _, unreferenced⟩ := arms
      exact ⟨nofun, fun k => absurd (unreferenced.symm.trans k) nofun⟩
    · split
      · rename_i disarms
        obtain ⟨_, _, armed⟩ := disarms
        exact ⟨nofun, fun k => absurd (armed.symm.trans k) nofun⟩
      · exact Iff.rfl
  · exact .refl s

theorem enableAxisBlock_sameFaults (s : State) (a : Axis) : s.SameFaults (enableAxisBlock s a).2 := by
  unfold enableAxisBlock State.isOff
  split
  · rename_i off
    exact .set rfl ⟨nofun, fun k => by simp [k] at off⟩
  · exact .refl s

theorem releaseAxisBlock_sameFaults (s : State) (a : Axis) : s.SameFaults (releaseAxisBlock s a).2 := by
  unfold releaseAxisBlock
  split
  case h_1 hs | h_2 hs => exact .set rfl ⟨nofun, fun k => absurd (hs.symm.trans k) nofun⟩
  all_goals exact .refl s

theorem datumAtMarkAt_sameFaults (s : State) (a : Axis) (d : Datum) : s.SameFaults (datumAtMarkAt s a d).2 := by
  rw [datumAtMarkAt_eq]
  split
  · rename_i hs
    exact .set rfl ⟨nofun, fun k => absurd (hs.symm.trans k) nofun⟩
  · exact .refl s

theorem datumNowAt_sameFaults (s : State) (a : Axis) (v : Int) : s.SameFaults (datumNowAt s a v).2 := by
  rw [datumNowAt_eq]
  split
  · exact .refl s
  · rename_i on
    split
    · exact .refl s
    · have loaded : s.SameFaults { withPhu s a { s.phu.get a with
          acc := v, state := .referenced, armed := none, epoch := (s.phu.get a).epoch + 1 } with mEpoch := mEpochAfter s a } :=
        .set rfl ⟨nofun, fun k => absurd (.inr k) on⟩
      exact loaded.trans (.of_phu (by simp [State.accept]))

theorem datumNowBlock_sameFaults (s : State) (ps : List Byte) : s.SameFaults (datumNowBlock s ps).2 := by
  unfold datumNowBlock
  (repeat' split) <;> first | exact datumNowAt_sameFaults s _ _ | exact .refl s

/-- The blocks that write the settings of one phase unit, or clear counters of the receivers. -/
def blocksOfTracking : List (State → List Byte → Reply × State) :=
  [readLinkCountersBlock, setCorrectionBlock, setAmplitudeBlock, setDirectionBlock, setBridgeBlock]

theorem blocksOfTracking_sameFaults (s : State) (ps : List Byte) :
    ∀ block ∈ blocksOfTracking, s.SameFaults (block s ps).2 := by
  have bridge (p : PhaseUnit) (n : Nat) : (p.setBridge n).state = p.state := by
    unfold PhaseUnit.setBridge
    split <;> rfl
  simp only [blocksOfTracking, List.forall_mem_cons, List.not_mem_nil, false_implies, implies_true, and_true,
    readLinkCountersBlock, setCorrectionBlock, setAmplitudeBlock, setDirectionBlock, setBridgeBlock, State.accept, State.refuse]
  refine ⟨?_, ?_, ?_, ?_, ?_⟩
  case refine_5 => (repeat' split) <;> first | exact .track (bridge _ _) | exact .refl s
  all_goals (repeat' split) <;> first | exact .track rfl | exact .refl s

theorem exec_sameFaults {i : Instr} {s t : State} (hi : reachesAlert i = false) (h : exec i s = .next t) : s.SameFaults t := by
  by_cases ha : reachesAxes i = false
  · exact .of_phu (exec_sameAxes ha h).2
  have host : ∀ {code n body block}, (∀ ps, s.SameFaults (block s ps).2) → s.SameFaults (s.hostCommand code n body block) :=
    State.hostCommand_keeps (fun _ _ _ k => k.trans (.of_phu (by simp))) (.refl s)
  have listed : ∀ {code n body block}, block ∈ blocksOfTracking → s.SameFaults (s.hostCommand code n body block) :=
    fun hb => host (fun ps => blocksOfTracking_sameFaults s ps _ hb)
  cases i <;> first | exact absurd rfl ha | obtain rfl := Host.Outcome.next.inj h
  case syncEdge => exact s.syncRise_sameFaults
  case frameTimerExpiry =>
    split
    · exact s.timerEvent_sameFaults
    · exact .refl s
  case setFrame => exact host (setFrameBlock_sameFaults s)
  case servoReadComplete word | servoArm word | servoDisarm word => exact s.completeRead_sameFaults word
  case readLinkCounters | setCorrection | setAmplitude | setDirection | setBridge =>
    exact listed (by simp [blocksOfTracking])
  case enableAxis => exact host (axisCommand_keeps (.refl s) (enableAxisBlock_sameFaults s))
  case releaseAxis => exact host (axisCommand_keeps (.refl s) (releaseAxisBlock_sameFaults s))
  case datumNow => exact host (datumNowBlock_sameFaults s)
  case setDatumPreset => exact host (datumCommand_keeps (.refl s) (fun _ _ => .track rfl))
  case datumAtMark => exact host (datumCommand_keeps (.refl s) (datumAtMarkAt_sameFaults s))
  all_goals cases hi

/-! ## The commands of ALERT and the monitors keep the law of ALERT (R147, R151, R152, R154, R157) -/

theorem State.AlertOk.endPulse {s : State} (h : s.AlertOk) (due : s.pulseDue = true) : s.endPulse.AlertOk := by
  unfold State.pulseDue at due
  split at due
  · rename_i hs
    exact h.outsideLevel (by simp [hs]) (next := .gap s.tick) (fun _ => nofun) s.alc.wentLow
  all_goals cases due

theorem State.AlertOk.endGap {s : State} (h : s.AlertOk) (due : s.gapDue = true) : s.endGap.AlertOk := by
  unfold State.gapDue at due
  split at due
  · rename_i hs
    exact h.outsideLevel (by simp [hs]) (next := .released) (fun _ => nofun) s.alc.wentLow
  all_goals cases due

theorem State.AlertOk.endPeriod {s : State} (h : s.AlertOk) : s.endPeriod.AlertOk := by
  unfold State.endPeriod
  split
  · rename_i due
    exact h.endPulse due
  · split
    · rename_i due
      exact h.endGap due
    · exact h

/-- The ranges read none of the state of the machine. -/
theorem State.AlertInRange.withState {s : State} (h : s.AlertInRange) (st : AlertState) :
    (s.modAlc (fun x => { x with state := st })).AlertInRange :=
  ⟨h.times, h.coalesced, h.monitors⟩

/-- New settings in their ranges are judged at once (R152). -/
theorem State.AlertOk.applyAlert {s : State} (h : s.AlertOk) (guard : QuadSet) (onBridge onMiss : Bool) {pulse level : Nat}
    (ranges : 1 ≤ pulse ∧ pulse ≤ 10 ∧ 4 * pulse ≤ level ∧ level ≤ 255) :
    (s.applyAlert guard onBridge onMiss pulse level).AlertOk := by
  have written : (s.modAlc (fun x => { x with
      guard := guard, pulseOnBridge := onBridge, pulseOnMiss := onMiss, pulseTime := pulse, levelMin := level })).AlertInRange :=
    ⟨ranges, h.coalesced, h.monitors⟩
  unfold State.applyAlert
  dsimp only
  split
  · exact (written.withState (.level true)).judgeLevel.endPeriod
  · exact written.judgeLevel.endPeriod

theorem State.AlertOk.setAlertBlock {s : State} (h : s.AlertOk) (ps : List Byte) : (setAlertBlock s ps).2.AlertOk := by
  unfold Machine.setAlertBlock
  split
  · split
    · rename_i hpulse hlevel
      have pulse := natIn_bounds hpulse
      have level := natIn_bounds hlevel
      split
      · exact h
      · exact h.applyAlert _ _ _ ⟨pulse.1, pulse.2, by omega, level.2⟩
    · exact h
  · exact h

theorem State.AlertOk.setMonitorBlock {s : State} (h : s.AlertOk) (ps : List Byte) : (setMonitorBlock s ps).2.AlertOk := by
  unfold Machine.setMonitorBlock
  split
  · split
    · rename_i hlow hhigh _ _ _
      have low := (intIn_bounds hlow).1
      have high := (intIn_bounds hhigh).2
      split
      · exact h
      · rename_i order
        refine State.AlertInRange.judgeLevel ⟨h.times, h.coalesced, fun m => ?_⟩
        rw [State.modMonitor_mnu, Four.get_set]
        split
        · exact ⟨Int.not_lt.mp order, low, high⟩
        · exact h.monitors m
    · exact h
  · exact h

theorem State.AlertOk.clearMonitorBlock {s : State} (h : s.AlertOk) (ps : List Byte) : (clearMonitorBlock s ps).2.AlertOk := by
  have cleared (mask : QuadSet) : (s.clearMarks mask).judgeLevel.AlertOk := by
    refine State.AlertInRange.judgeLevel (h.inRange.sameWindows (by simp) (fun m => ?_))
    rw [State.clearMarks, Four.get_mapIdx]
    split <;> exact ⟨rfl, rfl⟩
  unfold Machine.clearMonitorBlock
  split
  · split
    · exact cleared _
    · exact h
  · exact h

/-! ## The commands of an axis that end a fault keep the law of ALERT (R47, R50, R57) -/

theorem State.AlertOk.disableAxis {s : State} (h : s.AlertOk) (a : Axis) : (disableAxisBlock s a).2.AlertOk := by
  unfold disableAxisBlock
  split
  · exact h
  · exact State.AlertInRange.judgeLevel (h.inRange.congr (by simp [State.SameController]))

theorem State.AlertOk.axisRestart {s : State} (h : s.AlertOk) (a : Axis) : (axisRestartBlock s a).2.AlertOk := by
  unfold axisRestartBlock
  split
  · exact h
  · exact State.AlertInRange.judgeLevel (h.inRange.congr (by simp [State.SameController]))

theorem State.AlertOk.ackFault {s : State} (h : s.AlertOk) (a : Axis) : (ackFaultBlock s a).2.AlertOk := by
  unfold ackFaultBlock
  split
  · exact State.AlertInRange.judgeLevel (h.inRange.congr ⟨rfl, rfl⟩)
  all_goals exact h

/-! ## The law of ALERT in every step -/

/-- A trigger edge that finds a capture in flight may request a pulse (R126). -/
theorem State.AlertOk.judgeEdge {s : State} (h : s.AlertOk) (input : TrigInput) (edge : EdgeDir) :
    (s.judgeEdge input edge).AlertOk := by
  unfold State.judgeEdge
  split
  · exact h
  · split
    · split
      · exact h.frame (by simp)
      · exact State.AlertOk.missRequest (h.frame ⟨rfl, rfl, rfl⟩)
    · exact h

/-- Every command keeps the law of ALERT. -/
theorem State.AlertOk.exec {s t : State} (h : s.AlertOk) {i : Instr} (e : exec i s = .next t) : t.AlertOk := by
  by_cases hi : reachesAlert i = false
  · exact h.congr (exec_sameController hi e) (exec_sameFaults hi e)
  have host : ∀ {code n body block}, (∀ ps, (block s ps).2.AlertOk) → (s.hostCommand code n body block).AlertOk :=
    State.hostCommand_keeps (fun _ _ _ k => k.frame (by simp)) h
  have axis : ∀ {code body act}, (∀ a, (act s a).2.AlertOk) → (s.hostCommand code 1 body (axisCommand act)).AlertOk :=
    fun ha => host (axisCommand_keeps h ha)
  cases i <;> first | exact absurd rfl hi | obtain rfl := Host.Outcome.next.inj e
  case sampleFrame a bits => exact h.takeFrame a bits
  case silenceTimerExpiry a =>
    split
    · exact h.dropLink a _
    · exact h
  case setLink => exact host h.setLinkBlock
  case triggerEdge input edge =>
    split
    · exact h
    · exact State.AlertOk.judgeEdge (h.frame (by simp)) input edge
  case disableAxis => exact axis h.disableAxis
  case ackFault => exact axis h.ackFault
  case axisRestart => exact axis h.axisRestart
  case pulseTimerExpiry =>
    split
    · rename_i due
      exact h.endPulse due
    · exact h
  case gapTimerExpiry =>
    split
    · rename_i due
      exact h.endGap due
    · exact h
  case minimumLevelExpiry =>
    split
    · exact (h.inRange.withState (.level true)).judgeLevel
    · exact h
  case setMonitor => exact host h.setMonitorBlock
  case clearMonitor => exact host h.clearMonitorBlock
  case setAlert => exact host h.setAlertBlock
  case readAlertState =>
    refine host (clearCommand_keeps h (fun c => ?_))
    cases c
    · exact h
    · exact h.withCoalesced (Nat.zero_le _)
  case powerOnReset => exact State.reset_alertOk.frame ⟨rfl, rfl, rfl⟩
  case resetUnit =>
    split
    · exact h
    · split
      · exact h.frame (by simp)
      · exact State.reset_alertOk.frame ⟨rfl, rfl, rfl⟩

end Sys2Proof.Machine

namespace Sys2Proof.Proofs

open Sys2Proof.Machine Sys2Proof.Claims

/-- Settles O14: every command, line event and tick keeps the law of ALERT, by which a true level condition has the part in
LEVEL, where it drives the line low. -/
theorem stepKeepsAlert : Obligations.StepKeepsAlert := by
  intro s t h hs
  have kept : t.AlertOk := step_induction h hs (fun _ _ k => k.frame ⟨rfl, rfl, rfl⟩) (fun _ _ k => k.frame ⟨rfl, rfl, rfl⟩)
    (fun _ _ _ k e => k.exec e) (fun _ _ k => k.frame (by simp)) (fun _ k => k.frame ⟨rfl, rfl, rfl⟩)
  exact ⟨kept, fun level => t.alc.drive_iff.mpr (.inr (kept.level (t.levelCondition_iff.mpr level)))⟩

end Sys2Proof.Proofs

namespace Sys2Proof.Machine

open Sys2Proof.Claims

/-! ## The five conditions of a trip (R60, R63, R148, R149) -/

@[simp] theorem inRange_iff (lo hi x : Int) : inRange lo hi x = true ↔ lo ≤ x ∧ x ≤ hi := by simp [inRange]

/-- A source is VALID when every axis it is formed from is referenced on a locked link. -/
theorem State.validOf_iff (s : State) (x : Source) :
    s.validOf x = true ↔ onAll s x (fun p => p.state = .referenced ∧ p.lockView = true) := by
  cases x with
  | phys a => simp only [validOf, sourceValid, onAll_phys, PhaseUnit.valid_iff]
  | m => simp only [validOf, sourceValid, onAll_pair s _ (.inl rfl), Bool.and_eq_true, PhaseUnit.valid_iff]
  | w => simp only [validOf, sourceValid, onAll_pair s _ (.inr rfl), Bool.and_eq_true, PhaseUnit.valid_iff]

/-- The window of each kind of source; that of M is on the exact sum (R149). -/
theorem Monitor.inWindow_iff (m : Monitor) (acc : Axis → Int) :
    m.inWindow acc = true ↔
      (∀ b, m.source = .phys b → m.low ≤ acc b ∧ acc b ≤ m.high) ∧
      (m.source = .m → 2 * m.low ≤ acc .q0 + acc .q1 ∧ acc .q0 + acc .q1 ≤ 2 * m.high) ∧
      (m.source = .w → m.low ≤ acc .q0 - acc .q1 ∧ acc .q0 - acc .q1 ≤ m.high) := by
  cases hx : m.source <;> simp [inWindow, hx]

/-- A window is guarded from inside or from outside: the mode says on which side of it the count trips the monitor. -/
theorem Monitor.callsForTrip_iff (m : Monitor) (acc : Axis → Int) :
    m.callsForTrip acc = true ↔ (m.mode = .tripInside ↔ m.inWindow acc = true) := by
  cases hm : m.mode <;> simp [callsForTrip, hm]

theorem State.monitorTrips_iff_conditions (s : State) (a : Axis) (i : MonitorId) :
    s.monitorTrips a i = true ↔
      (s.mnu.get i).enabled = true ∧ (s.mnu.get i).tripped = false ∧ (s.mnu.get i).source.dependsOn a = true ∧
      s.validOf (s.mnu.get i).source = true ∧ (s.mnu.get i).callsForTrip (fun b => (s.phu.get b).acc) = true := by
  simp only [monitorTrips, Bool.and_eq_true, Bool.not_eq_true']
  tauto

/-- An update sets the mark of a monitor that trips, and leaves the rest of the monitor as it was. -/
theorem State.evaluateMonitors_get_tripped (s : State) (a : Axis) (m : MonitorId) :
    (s.evaluateMonitors a).mnu.get m =
      { s.mnu.get m with tripped := (s.mnu.get m).tripped || s.monitorTrips a m } := by
  rw [s.evaluateMonitors_get]
  cases s.monitorTrips a m <;> simp [Monitor.trip]

end Sys2Proof.Machine

namespace Sys2Proof.Proofs

open Sys2Proof.Machine Sys2Proof.Claims

/-- Settles O26: the mark and the flag are those of the fold over the four monitors, and the trip's five conditions are taken
apart one by one. -/
theorem monitorsTripAtUpdates : Obligations.MonitorsTripAtUpdates := by
  intro s a m
  refine ⟨s.evaluateMonitors_get_tripped a m, fun trips => (s.evaluateMonitors_flags a _).mpr (.inr ⟨m, rfl, trips⟩), ?_,
    by simp, by simp, by simp⟩
  rw [s.monitorTrips_iff_conditions, s.validOf_iff, Monitor.callsForTrip_iff, Monitor.inWindow_iff]
  rfl

end Sys2Proof.Proofs

namespace Sys2Proof.Machine

open Sys2Proof.Claims

/-! ## The host port keeps its law (R162, R165, R169, R172) -/

theorem attnOf_iff (flags mask : BitVec 27) :
    attnOf flags mask = true ↔ ∃ i : Nat, flags.getLsbD i = true ∧ mask.getLsbD i = true := by
  have none_common : flags &&& mask = 0 ↔ ∀ i : Nat, ¬ (flags.getLsbD i = true ∧ mask.getLsbD i = true) := by
    refine ⟨fun h i hi => ?_, fun h => BitVec.eq_of_getLsbD_eq fun i _ => ?_⟩
    · have := congrArg (·.getLsbD i) h
      simp [hi] at this
    · simpa using h i
  rw [attnOf, bne_iff_ne, ne_eq, none_common]
  simp only [not_forall, not_not]

/-- New flags or a new mask, ATTN judged anew. -/
theorem HostPort.Ok.judged {x : HostPort} (h : x.Ok) (flags mask : BitVec 27) :
    { x with flags := flags, mask := mask, attn := attnOf flags mask }.Ok :=
  { h with attn := attnOf_iff flags mask }

theorem HostPort.Ok.idles {x : HostPort} (h : x.Ok) : { x with frame := .idle }.Ok :=
  { h with waiting := fun _ => rfl, receiving := nofun }

/-- The law reads neither the pending response, nor the lost mark, nor what HDO carried. -/
theorem HostPort.Ok.withResponse {x : HostPort} (h : x.Ok) (p : PendingResponse) (lost : Bool) (hdo : List Byte) :
    { x with response := p, lost := lost, hdo := hdo }.Ok :=
  { h with }

theorem HostPort.Ok.endFetch {x : HostPort} (h : x.Ok) (f : Fetched) (clocked : Nat) : (x.endFetch f clocked).Ok :=
  h.idles.withResponse _ _ _

theorem wholeBytes_of_short {bits : List Bool} (h : bits.length < 8) : wholeBytes bits = [] := by
  match bits with
  | [] | [_] | [_, _] | [_, _, _] | [_, _, _, _] | [_, _, _, _, _] | [_, _, _, _, _, _] | [_, _, _, _, _, _, _] => rfl
  | _ :: _ :: _ :: _ :: _ :: _ :: _ :: _ :: _ => simp only [List.length_cons] at h; omega

/-- The first byte is fixed once its eight bits have been taken. -/
theorem wholeBytes_head?_append {bits more : List Bool} (h : 8 ≤ bits.length) :
    (wholeBytes (bits ++ more)).head? = (wholeBytes bits).head? := by
  match bits with
  | [] | [_] | [_, _] | [_, _, _] | [_, _, _, _] | [_, _, _, _, _] | [_, _, _, _, _, _] | [_, _, _, _, _, _, _] => simp at h
  | _ :: _ :: _ :: _ :: _ :: _ :: _ :: _ :: _ => rfl

theorem wholeBytes_of_eight {bits : List Bool} (h : bits.length = 8) :
    wholeBytes bits = [BitVec.ofNat 8 (bitsToNat bits)] := by
  match bits with
  | [_, _, _, _, _, _, _, _] => rfl

/-- A bit more is taken: the eighth makes the CODE byte, and that of FETCH ends the reception (R165). -/
theorem HostPort.Ok.clock {x : HostPort} (h : x.Ok) (hdi : Bool) : (x.clock hdi).Ok := by
  unfold HostPort.clock
  split
  · exact h
  · rename_i awake
    have waiting (f : HostFrame) : x.waitHsel = true → f = .idle := fun w => absurd w awake
    split
    · refine ⟨h.attn, waiting _, ?_⟩
      rintro _ ⟨⟩
      exact ⟨nofun, by simp [wholeBytes_of_short]⟩
    · rename_i bits hf
      refine ⟨h.attn, waiting _, fun bits' e => ?_⟩
      dsimp only at e
      split at e
      · cases e
      · rename_i command
        obtain rfl := HostFrame.receiving.inj e
        refine ⟨by simp, ?_⟩
        rcases Nat.lt_trichotomy bits.length 7 with short | seven | long
        · rw [wholeBytes_of_short (by rw [List.length_append, List.length_singleton]; omega)]
          exact nofun
        · rw [not_and] at command
          have eight : (bits ++ [hdi]).length = 8 := by simp [seven]
          have code := command eight
          rw [wholeBytes_of_eight eight] at code ⊢
          simpa using code
        · rw [wholeBytes_head?_append long]
          exact (h.receiving bits hf).2
    · exact ⟨h.attn, waiting _, nofun⟩

/-! ## The law of the host port in the shared operations -/

/-- The host port of the state keeps its law. -/
def State.PortOk (s : State) : Prop := s.hpt.Ok

section

variable {s t : State}

/-- A change outside the host port. -/
theorem State.PortOk.frame (h : s.PortOk) (e : t.hpt = s.hpt) : t.PortOk := by
  rw [State.PortOk, e]
  exact h

theorem State.PortOk.withFlags (h : s.PortOk) (flags : BitVec 27) : (s.withFlags flags).PortOk := h.judged flags s.hpt.mask

theorem State.PortOk.withMask (h : s.PortOk) (mask : BitVec 27) : (s.withMask mask).PortOk := h.judged s.hpt.flags mask

theorem State.PortOk.raise (h : s.PortOk) (f : Flag) : (s.raise f).PortOk := h.withFlags _

theorem State.PortOk.raiseIf (h : s.PortOk) (b : Bool) (f : Flag) : (s.raiseIf b f).PortOk := by
  cases b
  · exact h
  · exact h.raise f

theorem State.PortOk.judgeReady (h : s.PortOk) : s.judgeReady.PortOk := h.withFlags _

theorem State.PortOk.answer (h : s.PortOk) (code : Byte) (r : Reply) : (s.answer code r).PortOk := by
  obtain ⟨p, e⟩ := s.answer_hpt code r
  rw [State.PortOk, e]
  exact h.withResponse _ _ _

/-- An operation that raises flags, ATTN following. -/
theorem State.PortOk.raises {p : Nat → Prop} (h : s.PortOk) (r : s.Raises t p) : t.PortOk := by
  have judged : s.hpt.attn = attnOf s.hpt.flags s.hpt.mask := Bool.eq_iff_iff.mpr (h.attn.trans (attnOf_iff _ _).symm)
  rw [State.PortOk, r.host, r.attn judged]
  exact h.judged t.hpt.flags s.hpt.mask

theorem State.PortOk.offerMessage (h : s.PortOk) (m : List Byte) : (s.offerMessage m).PortOk := h.frame (by simp)

theorem State.PortOk.completeCapture (h : s.PortOk) (c : Capture) : (s.completeCapture c).PortOk := by
  have queued (f : LineCapture → LineCapture) (b : Bool) : ((s.modLcu f).raiseIf b .captureOverflow).judgeReady.PortOk :=
    ((h.frame (s.modLcu_hpt f)).raiseIf b _).judgeReady
  unfold State.completeCapture
  dsimp only
  split
  · exact (queued _ _).offerMessage _
  · exact queued _ _

theorem State.PortOk.completeIfSettled (h : s.PortOk) : s.completeIfSettled.PortOk := by
  rcases s.completeIfSettled_cases with ⟨c, _, _, e⟩ | ⟨_, e⟩ <;> rw [e]
  · exact h.completeCapture c
  · exact h

theorem State.PortOk.progressEntry (h : s.PortOk) (a : Axis) (f : Capture → PhysEntry → Option HistEntry → EntryProgress) :
    (s.progressEntry a f).PortOk := by
  rcases s.progressEntry_cases a f with e | ⟨_, _, _, _, _, _, e⟩ <;> rw [e]
  · exact h
  · exact State.PortOk.completeIfSettled (h.frame (by simp))

theorem State.PortOk.reportToCapture (h : s.PortOk) (a : Axis) (r : AxisReport) : (s.reportToCapture a r).PortOk :=
  h.progressEntry a _

theorem State.PortOk.judgeLevel (h : s.PortOk) : s.judgeLevel.PortOk := h.frame (by simp)

theorem State.PortOk.modPhu (h : s.PortOk) (a : Axis) (f : PhaseUnit → PhaseUnit) : (s.modPhu a f).PortOk := h

theorem State.PortOk.modSlr (h : s.PortOk) (a : Axis) (f : Receiver → Receiver) : (s.modSlr a f).PortOk := h

/-! ## The law of the host port along the sample path -/

theorem State.PortOk.integrityLoss (h : s.PortOk) (a : Axis) (c : Cause) (t : Tick) (hold : Int) :
    (s.integrityLoss a c t hold).PortOk := by
  rcases s.integrityLoss_cases a c t hold with ⟨_, e⟩ | ⟨_, e⟩ | ⟨_, e⟩ | ⟨_, e⟩ <;> rw [e]
  · exact h
  · exact (h.modPhu a _).raise _
  · exact (((h.modPhu a _).raise _).reportToCapture a _).judgeLevel
  · exact h.modPhu a _

theorem State.PortOk.tripMonitor (h : s.PortOk) (i : MonitorId) : (s.tripMonitor i).PortOk := by
  have marked : ((s.modMonitor i Monitor.trip).raise (.monitorTrip i)).PortOk := (h.frame (by simp)).raise _
  unfold State.tripMonitor
  dsimp only
  split
  · exact marked.judgeLevel
  · exact marked

theorem State.PortOk.evaluateMonitors (h : s.PortOk) (a : Axis) : (s.evaluateMonitors a).PortOk := by
  have one {u : State} (k : u.PortOk) (i : MonitorId) : (u.evaluateMonitor a i).PortOk := by
    unfold State.evaluateMonitor
    split
    · exact k.tripMonitor i
    · exact k
  exact one (one (one (one h .q0) .q1) .q2) .q3

theorem State.PortOk.enterSample (h : s.PortOk) (a : Axis) (t : Tick) (k : SampleKind) : (s.enterSample a t k).PortOk :=
  ((h.modPhu a _).progressEntry a _).evaluateMonitors a

theorem State.PortOk.rangeLoss (h : s.PortOk) (a : Axis) (change : Int) (t : Tick) : (s.rangeLoss a change t).PortOk := by
  unfold State.rangeLoss
  split
  · exact h.integrityLoss a _ _ _
  · exact h

theorem State.PortOk.loadDatum (h : s.PortOk) (a : Axis) (v : Int) : (s.loadDatum a v).PortOk := h.frame (by simp)

theorem State.PortOk.countSample (h : s.PortOk) (a : Axis) (mark : Bool) (p : BitVec 9) (d : Int) (t : Tick) :
    (s.countSample a mark p d t).PortOk := by
  have counted := (h.rangeLoss a ((s.phu.get a).dir.sign * d) t).modPhu a (fun u => u.counted p d t)
  unfold State.countSample
  dsimp only
  split
  · exact ((((counted.loadDatum a _).modPhu a _).reportToCapture a .epochChange).progressEntry a _).evaluateMonitors a
  · exact counted.enterSample a t .real

theorem State.PortOk.takePhase (h : s.PortOk) (a : Axis) (mark : Bool) (p : BitVec 9) (t : Tick) :
    (s.takePhase a mark p t).PortOk := by
  unfold State.takePhase
  split
  · exact (h.modPhu a _).enterSample a t .real
  · dsimp only
    split
    · exact h.countSample a mark p _ t
    · exact ((h.integrityLoss a _ _ _).modPhu a _).enterSample a t .real

theorem State.PortOk.bridgeSamples (a : Axis) (tn : Tick) (ts : List Tick) :
    ∀ {s : State}, s.PortOk → (s.bridgeSamples a tn ts).PortOk := by
  induction ts with
  | nil => exact fun h => h
  | cons t ts ih => exact fun h => ih (((h.rangeLoss a _ tn).modPhu a _).enterSample a t .bridged)

theorem State.PortOk.takeNotice (h : s.PortOk) (a : Axis) (reason : MissingReason) (g : Nat) (tn : Tick) :
    (s.takeNotice a reason g tn).PortOk := by
  unfold State.takeNotice
  split
  · rename_i instants _
    exact (State.PortOk.bridgeSamples a tn instants h).frame (by simp)
  · exact (h.modPhu a _).integrityLoss a _ _ _

theorem State.PortOk.handNotice (h : s.PortOk) (a : Axis) (reason : MissingReason) (g : Nat) (tn : Tick) :
    (s.handNotice a reason g tn).PortOk := by
  unfold State.handNotice
  split
  · exact h
  · exact h.takeNotice a reason g tn

theorem State.PortOk.handSample (h : s.PortOk) (a : Axis) (f : SampleFields) (t : Tick) : (s.handSample a f t).PortOk := by
  unfold State.handSample State.takeSample
  split
  · exact h
  · dsimp only
    split
    · exact h.takeNotice a .low 1 t
    · exact (h.modPhu a _).takePhase a f.mark _ t

/-! ## The law of the host port in the sample links -/

theorem State.PortOk.contribute (h : s.PortOk) (a : Axis) (n : Nat) : (s.contribute a n).PortOk := h.frame (by simp)

theorem State.PortOk.loseLock (h : s.PortOk) (a : Axis) (t : Tick) : (s.loseLock a t).PortOk := by
  have down := h.modSlr a (fun r => { r.toDown with lockLosses := satAdd 255 r.lockLosses 1 })
  unfold State.loseLock State.lockLost
  split
  · exact down
  · exact (down.integrityLoss a .link t _).modPhu a _

theorem State.PortOk.dropLink (h : s.PortOk) (a : Axis) (t : Tick) : (s.dropLink a t).PortOk := by
  unfold State.dropLink
  split
  · exact h
  · exact h.modSlr a _
  · exact h.loseLock a t

theorem State.PortOk.acceptSample (h : s.PortOk) (a : Axis) (f : SampleFields) : (s.acceptSample a f).PortOk :=
  ((h.modSlr a _).contribute a 1).handSample a f _

theorem State.PortOk.badInLocked (h : s.PortOk) (a : Axis) (duplicate : Bool) : (s.badInLocked a duplicate).PortOk := by
  unfold State.badInLocked State.occupyPosition
  split
  · exact h.loseLock a _
  · split
    · exact h.modSlr a _
    · exact (h.modSlr a _).handNotice a _ _ _

theorem State.PortOk.goodInAcquiring (h : s.PortOk) (a : Axis) (f : SampleFields) : (s.goodInAcquiring a f).PortOk := by
  unfold State.goodInAcquiring State.enterLocked
  dsimp only
  split
  · split
    · exact State.PortOk.handSample (h.frame (by simp)) a f _
    · exact h.modSlr a _
  · exact h.modSlr a _

theorem State.PortOk.goodInLocked (h : s.PortOk) (a : Axis) (f : SampleFields) : (s.goodInLocked a f).PortOk := by
  unfold State.goodInLocked
  dsimp only
  split
  · exact h.acceptSample a f
  · split
    · exact (((h.modSlr a _).contribute a _).handNotice a _ _ _).acceptSample a f
    · exact (h.modSlr a _).badInLocked a _

/-- A frame on a sample link keeps the law (R3 to R14). -/
theorem State.PortOk.takeFrame (h : s.PortOk) (a : Axis) (bits : List Bool) : (s.takeFrame a bits).PortOk := by
  unfold State.takeFrame State.goodFrame State.badFrame
  dsimp only
  split
  · split
    · exact (h.modSlr a _).modSlr a _
    · exact (h.modSlr a _).goodInAcquiring a _
    · exact (h.modSlr a _).goodInLocked a _
  · split
    · exact h.modSlr a _
    · exact (h.modSlr a _).modSlr a _
    · exact (h.modSlr a _).badInLocked a _

theorem State.PortOk.setLinkBlock (h : s.PortOk) (ps : List Byte) : (setLinkBlock s ps).2.PortOk := by
  have written (a : Axis) (l t d : Nat) : (s.writeLink a l t d).PortOk := by
    unfold State.writeLink
    dsimp only
    split
    · exact (h.modSlr a _).dropLink a _
    · exact h.modSlr a _
  unfold Machine.setLinkBlock
  split
  · split
    · exact written _ _ _ _
    · exact h
  · exact h

/-! ## The law of the host port in the commands of the axes (R47, R51, R57) -/

theorem State.PortOk.disableAxis (h : s.PortOk) (a : Axis) : (disableAxisBlock s a).2.PortOk := by
  unfold disableAxisBlock
  split
  · exact h
  · exact State.PortOk.judgeLevel (State.PortOk.reportToCapture (h.frame (by simp)) a .disable)

theorem State.PortOk.axisRestart (h : s.PortOk) (a : Axis) : (axisRestartBlock s a).2.PortOk := by
  unfold axisRestartBlock
  split
  · exact h
  · exact State.PortOk.judgeLevel (State.PortOk.reportToCapture (h.frame (by simp)) a .restart)

theorem State.PortOk.datumNowBlock (h : s.PortOk) (ps : List Byte) : (datumNowBlock s ps).2.PortOk := by
  have loaded (a : Axis) (v : Int) : (datumNowAt s a v).2.PortOk := by
    unfold datumNowAt
    dsimp only
    (repeat' split) <;> first | exact (h.loadDatum a v).reportToCapture a .epochChange | exact h
  unfold Machine.datumNowBlock
  split
  · split
    · exact loaded _ _
    · exact h
  · exact h

/-! ## The law of the host port in the conditions and at frame events (R69, R71 to R73, R77, R78, R89 to R96) -/

theorem State.PortOk.kUpdateIf (h : s.PortOk) (b : Bool) : (s.kUpdateIf b).PortOk := h.frame (by simp)

theorem State.PortOk.modCmu (h : s.PortOk) (f : Compensation → Compensation) : (s.modCmu f).PortOk := h

theorem State.PortOk.raiseHeld (h : s.PortOk) (before : Compensation) : (s.raiseHeld before).PortOk := h.raiseIf _ _

theorem State.PortOk.takeConditions (h : s.PortOk) (chars : List CondChar) : (s.takeConditions chars).PortOk := by
  unfold State.takeConditions
  split
  · exact h
  · split
    · exact h
    · exact ((h.modCmu _).raiseHeld _).kUpdateIf _

theorem State.PortOk.goStale (h : s.PortOk) : s.goStale.PortOk := (h.modCmu _).raiseIf _ _

theorem State.PortOk.setConditionsBlock (h : s.PortOk) (ps : List Byte) : (setConditionsBlock s ps).2.PortOk := by
  unfold Machine.setConditionsBlock
  split
  · split
    · exact (((h.modCmu _).raiseHeld _).kUpdateIf _).kUpdateIf _
    · exact h
  · exact h

theorem State.PortOk.setPlausibilityBlock (h : s.PortOk) (ps : List Byte) : (setPlausibilityBlock s ps).2.PortOk := by
  have written (a b c d e : Nat) : (s.writePlausibility a b c d e).PortOk := by
    unfold State.writePlausibility
    dsimp only
    split
    · exact (h.modCmu _).goStale
    · exact h.modCmu _
  unfold Machine.setPlausibilityBlock
  (repeat' split) <;> first | exact written _ _ _ _ _ | exact h

theorem State.PortOk.modFru (h : s.PortOk) (f : FrameUnit → FrameUnit) : (s.modFru f).PortOk := h

theorem State.PortOk.frameEvent (h : s.PortOk) (kind : FrameKind) : (s.frameEvent kind).PortOk :=
  h.raises (s.frameEvent_raises kind)

theorem State.PortOk.loseSync (h : s.PortOk) : s.loseSync.PortOk := (h.modFru _).raise _

theorem State.PortOk.timerEvent (h : s.PortOk) : s.timerEvent.PortOk := (h.modFru _).frameEvent _

theorem State.PortOk.syncRise (h : s.PortOk) : s.syncRise.PortOk := by
  unfold State.syncRise
  split
  · exact h
  · exact (h.modFru _).frameEvent _
  · exact ((h.modFru _).raise _).frameEvent _

theorem State.PortOk.setFrameBlock (h : s.PortOk) (ps : List Byte) : (setFrameBlock s ps).2.PortOk := by
  have judged {u : State} (k : u.PortOk) (b : Bool) : (u.judgeFrameTimers b).PortOk := by
    unfold State.judgeFrameTimers
    split
    · exact k.loseSync
    · split
      · exact k.timerEvent
      · exact k
  unfold Machine.setFrameBlock
  split
  · split
    · unfold State.applyFrame
      dsimp only [State.accept]
      split
      · exact h.modFru _
      · exact judged (h.modFru _) _
      · exact judged (h.modFru _) _
    · exact h
  · exact h

/-! ## The law of the host port in the captures and the microscope link (R122, R124, R131, R135 to R137, R141, R143) -/

theorem State.PortOk.modLcu (h : s.PortOk) (f : LineCapture → LineCapture) : (s.modLcu f).PortOk := h

theorem State.PortOk.timeOutCapture (h : s.PortOk) : s.timeOutCapture.PortOk := by
  unfold State.timeOutCapture
  split
  · exact (h.modLcu _).completeIfSettled
  · exact h

theorem State.PortOk.judgeEdge (h : s.PortOk) (input : TrigInput) (edge : EdgeDir) : (s.judgeEdge input edge).PortOk := by
  unfold State.judgeEdge
  split
  · exact h
  · split
    · split
      · exact (h.modLcu _).completeIfSettled
      · exact h.frame (by simp)
    · exact h

theorem State.PortOk.queueContextBlock (h : s.PortOk) (ps : List Byte) : (queueContextBlock s ps).2.PortOk := by
  unfold Machine.queueContextBlock
  split
  · exact h
  · split
    · exact h.frame (by simp [State.report])
    · exact h.raise _

theorem State.PortOk.setCaptureBlock (h : s.PortOk) (ps : List Byte) : (setCaptureBlock s ps).2.PortOk := by
  unfold Machine.setCaptureBlock
  split
  · split
    · dsimp only [State.accept]
      split
      · exact (h.modLcu _).judgeReady.timeOutCapture
      · exact (h.modLcu _).judgeReady
    · exact h
  · exact h

theorem State.PortOk.readCapturesBlock (h : s.PortOk) (ps : List Byte) : (readCapturesBlock s ps).2.PortOk := by
  unfold Machine.readCapturesBlock
  split
  · split
    · dsimp only
      split
      · exact h
      · exact (h.modLcu _).judgeReady
    · exact h
  · exact h

theorem State.PortOk.modMsl (h : s.PortOk) (f : MicroLink → MicroLink) : (s.modMsl f).PortOk := h

theorem State.PortOk.lineErrorAt (h : s.PortOk) (began : Tick) : (s.lineErrorAt began).PortOk :=
  ((h.modMsl _).raise .microLineError).offerMessage _

theorem State.PortOk.setMicroLinkBlock (h : s.PortOk) (ps : List Byte) : (setMicroLinkBlock s ps).2.PortOk := by
  have changed (rate : Nat) : (s.changeRate rate).PortOk := by
    unfold State.changeRate State.dropAssembly
    split
    · exact h
    · exact (h.modMsl _).lineErrorAt _
    · exact h
  unfold Machine.setMicroLinkBlock
  split
  · split
    · exact h
    · exact changed _
  · exact h

end

/-! ## Commands that reach the host port by their answer alone -/

/-- The blocks whose settings and data lie outside the host port. -/
def blocksBesidePort : List (State → List Byte → Reply × State) :=
  [readLinkCountersBlock, setCorrectionBlock, setAmplitudeBlock, setDirectionBlock, setBridgeBlock, setSampleCheckBlock,
    setNotifyBlock, setLayoutBlock, holdOutputBlock, setMonitorBlock, clearMonitorBlock, setAlertBlock, readPositionBlock,
    setOpticsBlock, setExpansionBlock, setProbeBlock, setTriggerBlock, flushContextsBlock]

theorem blocksBesidePort_hpt (s : State) (ps : List Byte) : ∀ block ∈ blocksBesidePort, (block s ps).2.hpt = s.hpt := by
  simp only [blocksBesidePort, List.forall_mem_cons, List.not_mem_nil, false_implies, implies_true, and_true,
    readLinkCountersBlock, setCorrectionBlock, setAmplitudeBlock, setDirectionBlock, setBridgeBlock, setSampleCheckBlock,
    setNotifyBlock, setLayoutBlock, holdOutputBlock, setMonitorBlock, clearMonitorBlock, setAlertBlock, readPositionBlock,
    setOpticsBlock, setExpansionBlock, setProbeBlock, setTriggerBlock, flushContextsBlock, State.accept, State.report,
    State.refuse]
  and_intros
  all_goals (repeat' split) <;> simp

theorem silentAxisBlocks_hpt (s : State) (a : Axis) : ∀ act ∈ silentAxisBlocks, (act s a).2.hpt = s.hpt := by
  simp only [silentAxisBlocks, List.forall_mem_cons, List.not_mem_nil, false_implies, implies_true, and_true, enableAxisBlock,
    ackFaultBlock, releaseAxisBlock, State.accept, State.refuse]
  and_intros
  all_goals split <;> simp

/-- A message of the microscope link reaches contexts, counters and the outgoing queue alone. -/
theorem State.takeMessage_hpt {s : State} {act : State → List Byte × State} (h : ∀ u : State, (act u).2.hpt = u.hpt) :
    (s.takeMessage act).hpt = s.hpt := by
  unfold State.takeMessage
  split
  · simp [h]
  · rfl

/-! ## The law of the host port in every step -/

/-- A reset leaves the port idle with no flag set (R172, R173). -/
theorem HostPort.reset_ok_waiting (low : Bool) : { HostPort.reset with waitHsel := low }.Ok :=
  { HostPort.reset_ok with waiting := fun _ => rfl }

/-- Every command keeps the law of the host port. -/
theorem State.PortOk.exec {s t : State} (h : s.PortOk) {i : Instr} (e : exec i s = .next t) : t.PortOk := by
  have host : ∀ {code n body block}, (∀ ps, (block s ps).2.PortOk) → (s.hostCommand code n body block).PortOk :=
    State.hostCommand_keeps (fun _ _ _ k => k.answer _ _) h
  have listed : ∀ {code n body block}, block ∈ blocksBesidePort → (s.hostCommand code n body block).PortOk :=
    fun hb => host (fun ps => h.frame (blocksBesidePort_hpt s ps _ hb))
  have axis : ∀ {code body act}, (∀ a, (act s a).2.PortOk) → (s.hostCommand code 1 body (axisCommand act)).PortOk :=
    fun ha => host (axisCommand_keeps h ha)
  have silent : ∀ {code body act}, act ∈ silentAxisBlocks → (s.hostCommand code 1 body (axisCommand act)).PortOk :=
    fun hb => axis (fun a => h.frame (silentAxisBlocks_hpt s a _ hb))
  cases i <;> obtain rfl := Host.Outcome.next.inj e
  case sampleFrame a bits => exact h.takeFrame a bits
  case silenceTimerExpiry a =>
    split
    · exact h.dropLink a _
    · exact h
  case conditionsFrame chars =>
    split
    · exact (h.modCmu _).takeConditions chars
    · exact h
  case stalenessTimerExpiry =>
    split
    · exact h.goStale
    · exact h
  case syncEdge => exact h.syncRise
  case syncWatchExpiry =>
    split
    · exact h.loseSync
    · exact h
  case frameTimerExpiry =>
    split
    · exact h.timerEvent
    · exact h
  case triggerEdge input edge =>
    split
    · exact h
    · exact State.PortOk.judgeEdge (h.frame (by simp)) input edge
  case captureTimeoutExpiry =>
    split
    · exact h.timeOutCapture
    · exact h
  case microQueueContext params =>
    refine h.frame (State.takeMessage_hpt (fun u => ?_))
    unfold microQueueAct
    (repeat' split) <;> rfl
  case flushOwn params =>
    refine h.frame (State.takeMessage_hpt (fun u => ?_))
    unfold flushOwnAct
    split <;> rfl
  case query => exact h.frame (State.takeMessage_hpt (fun _ => rfl))
  case microUnknownCode =>
    split
    · exact h
    · exact h.frame (State.takeMessage_hpt (fun _ => rfl))
  case lineError fault began =>
    split
    · exact h
    · split
      · exact h.lineErrorAt began
      · exact h
  case gapDiscard =>
    split
    · exact (h.modMsl _).raise _
    · exact h
  case responseReady =>
    split
    · exact h.withResponse _ _ _
    · exact h
    · exact h
  case unknownCommand =>
    split
    · exact h
    · exact h.answer _ _
  case fetch =>
    split
    · exact h
    · exact h.endFetch _ _
  case resetUnit body low =>
    split
    · exact h
    · split
      · exact h.answer _ _
      · exact (HostPort.reset_ok_waiting low).withResponse _ _ _
  case powerOnReset low => exact HostPort.reset_ok_waiting low
  case hselSeenHigh => exact { h with waiting := nofun }
  case readStatus | readFrameState | readServoState => exact host (fun _ => h)
  case clearEvents => exact host (fun _ => h.withFlags _)
  case setEventMask => exact host (fun _ => h.withMask _)
  case setLink => exact host h.setLinkBlock
  case setConditions => exact host h.setConditionsBlock
  case setPlausibility => exact host h.setPlausibilityBlock
  case setFrame => exact host h.setFrameBlock
  case queueContext => exact host h.queueContextBlock
  case setCapture => exact host h.setCaptureBlock
  case readCaptures => exact host h.readCapturesBlock
  case setMicroLink => exact host h.setMicroLinkBlock
  case datumNow => exact host h.datumNowBlock
  case disableAxis => exact axis h.disableAxis
  case axisRestart => exact axis h.axisRestart
  case readTracking => exact axis (fun _ => h)
  case enableAxis | ackFault | releaseAxis => exact silent (by simp [silentAxisBlocks])
  case setDatumPreset => exact host (datumCommand_keeps h (fun _ _ => h))
  case datumAtMark =>
    refine host (datumCommand_keeps h (fun a d => h.frame ?_))
    unfold datumAtMarkAt
    split <;> rfl
  case readConditions | readCaptureState | readAlertState =>
    refine host (clearCommand_keeps h (fun c => ?_))
    cases c <;> exact h
  case setLayout body =>
    split
    · split
      · exact h
      · split
        · exact h.answer _ _
        · exact listed (by simp [blocksBesidePort])
    · exact listed (by simp [blocksBesidePort])
  case readPosition | holdOutput | holdOutputRelease | setSampleCheck | setNotify | setMonitor | clearMonitor | setAlert |
      readLinkCounters | setCorrection | setAmplitude | setDirection | setBridge | setOptics | setExpansion | setProbe |
      setTrigger | flushContexts =>
    exact listed (by simp [blocksBesidePort])
  all_goals (repeat' split) <;> exact h.frame (by simp)

/-- A line event reaches the host port by its own clocks and by HSEL alone. -/
theorem State.PortOk.takeLine {s : State} (h : s.PortOk) (e : LineEvent) : (s.takeLine e).1.PortOk := by
  cases e
  case hostClock hdi => exact HostPort.Ok.clock h hdi
  case hostDeselect low =>
    unfold State.takeLine State.deselectHost
    dsimp only
    split
    · exact h
    · split
      · exact h
      · exact HostPort.Ok.idles h
      · exact HostPort.Ok.endFetch h _ _
  all_goals
    refine h.frame ?_
    simp only [State.takeLine, State.endSampleFrame, State.takeConditionsCharacter, State.endCharacter, State.takeCharacter,
      State.takeServoClock]
    (repeat' split) <;> rfl

end Sys2Proof.Machine

namespace Sys2Proof.Proofs

open Sys2Proof.Machine Sys2Proof.Claims

/-- Settles O15: every operation that touches flags or mask judges ATTN, and a clock receives on only what is no FETCH frame. -/
theorem stepKeepsHostPort : Obligations.StepKeepsHostPort := fun _ _ h hs =>
  step_induction (P := State.PortOk) h hs (fun _ _ k => k) (fun _ _ k => k) (fun _ _ _ k e => k.exec e)
    (fun _ e k => k.takeLine e) (fun _ k => k)

end Sys2Proof.Proofs

namespace Sys2Proof.Machine

open Sys2Proof.Claims

/-! ## What a FETCH returns and takes (R164 to R166) -/

/-- A ready response by its STATUS byte, its CODE, the length of its data and the data. -/
theorem fetchBytes_ready {x : HostPort} {r : Response} (h : x.response = .ready r) : fetchBytes x = r.bytes x.lost := by
  have length : natBytes 2 r.data.length = [BitVec.ofNat 8 (r.data.length / 256), BitVec.ofNat 8 r.data.length] := by
    simp [natBytes]
  simp only [fetchBytes, h, Response.bytes, length]
  refine congrArg (· :: _) ?_
  unfold Response.status
  cases r.refusal with
  | none => cases x.lost <;> rfl
  | some c => cases c <;> cases x.lost <;> rfl

/-- What the CODE byte of FETCH decides, by the pending response. -/
theorem HostPort.decide_eq (x : HostPort) : x.decide = { bytes := fetchBytes x, ready := isReady x } := by
  cases hr : x.response with
  | none => simp only [HostPort.decide, fetchBytes, isReady, hr]; cases x.lost <;> rfl
  | preparing r since => simp only [HostPort.decide, fetchBytes, isReady, hr]; cases x.lost <;> rfl
  | ready r => simp only [HostPort.decide, fetchBytes_ready hr, isReady, hr]

/-- A response, then ones, as far as the clocks go. -/
theorem shiftedOut_eq (response : List Byte) (n : Nat) :
    shiftedOut response n = (response ++ List.replicate (n - response.length) 0xFF).take n := by
  rw [List.take_append, List.take_replicate, Nat.min_self, shiftedOut]

theorem HostPort.endFetch_eq (x : HostPort) (f : Fetched) (n : Nat) : x.endFetch f n = fetched x f.bytes f.ready n := by
  have whole : f.whole n = true ↔ f.ready = true ∧ f.bytes.length ≤ n := by simp [Fetched.whole]
  unfold HostPort.endFetch fetched
  rw [shiftedOut_eq]
  by_cases h : f.whole n = true
  · simp only [h, whole.mp h, if_true, and_self, Bool.not_true, Bool.and_false]
  · have fails : f.whole n = false := by simpa using h
    simp only [fails, mt whole.mpr h, if_false, Bool.false_eq_true, Bool.not_false, Bool.and_true]

/-! ## The length check of every command of fixed length (R162 to R164) -/

/-- A command frame that fails the length check is refused and does nothing else, and bytes beyond its parameters are
ignored. -/
structure ChecksLength (c : (List Byte → Instr) × Byte × Nat) : Prop where
  refuses : ∀ (s : State) (body : List Byte), ¬ lengthFits c.2.2 body →
    exec (c.1 body) s = .next (taken s (refused s c.2.1 .badLength))
  ignores : ∀ (s : State) (ps extra : List Byte), ps.length = c.2.2 →
    exec (c.1 (frame ps extra)) s = exec (c.1 (frame ps [])) s

theorem checksLength_of_block {row : List Byte → Instr} {code : Byte} {n : Nat} {block : State → List Byte → Reply × State}
    (hn : n ≤ 60) (h : ∀ s body, exec (row body) s = .next (s.hostCommand code n body block)) :
    ChecksLength (row, code, n) := by
  refine ⟨fun s body unfit => ?_, fun s ps extra hps => ?_⟩
  · rw [h, State.hostCommand_badLength s code unfit]
  · rw [h, h, State.hostCommand_frame s code ps extra block hps hn, State.hostCommand_frame s code ps [] block hps hn]

/-- RESET_UNIT has no block: it makes its response before the reset (R172). -/
theorem checksLength_resetUnit (low : Bool) : ChecksLength (fun b => .resetUnit b low, 0x01, 0) := by
  have row (s : State) (body : List Byte) : exec (.resetUnit body low) s = .next (if s.hpt.closed then s
      else (paramsOf 0 body).elim (s.answer 0x01 (.refused .badLength)) (fun _ => s.unitReset low)) := by
    cases h : paramsOf 0 body <;> simp [exec, execResetUnit, h]
  refine ⟨fun s body unfit => ?_, fun s ps extra hps => ?_⟩
  · simp only [row, paramsOf_none unfit, Option.elim_none, State.answer_refused, taken, HostPort.closed_iff]
  · obtain rfl := List.length_eq_zero_iff.mp hps
    have params (extra : List Byte) : paramsOf 0 (frame [] extra) = some [] := paramsOf_cons [] extra (Nat.zero_le _)
    rw [row, row, params, params]

theorem fixedCommands_checkLength (hsel low : Bool) : ∀ c ∈ fixedCommands hsel low, ChecksLength c := by
  simp only [fixedCommands, List.forall_mem_cons, List.not_mem_nil, false_implies, implies_true, and_true]
  refine ⟨checksLength_resetUnit hsel, ?_⟩
  and_intros
  all_goals exact checksLength_of_block (by decide) (fun _ _ => rfl)

theorem exec_unknownCommand {code : Byte} (h : 0x2C < code.toNat) (s : State) (body : List Byte) :
    exec (.unknownCommand code body) s = .next (taken s (refused s code .unknown)) := by
  have unknown : ¬ code.toNat ≤ Config.lastCommandCode := Nat.not_le.mpr h
  refine congrArg Host.Outcome.next ?_
  rw [State.answer_refused, taken]
  simp only [unknown, false_or, HostPort.closed_iff]

/-! ## Bits and bytes of the host port (R162) -/

/-- Whole bytes are read back from their bits, and an unfinished one is not. -/
theorem wholeBytes_bytesToBits (bytes : List Byte) {rest : List Bool} (h : rest.length < 8) :
    wholeBytes (bytesToBits bytes ++ rest) = bytes := by
  induction bytes with
  | nil => exact wholeBytes_of_short h
  | cons b bytes ih =>
    have first : wholeBytes (bytesToBits (b :: bytes) ++ rest) =
        BitVec.ofNat 8 (bitsToNat (natBits 8 b.toNat)) :: wholeBytes (bytesToBits bytes ++ rest) := rfl
    rw [first, ih, natBits_eq_field, wordOf_field]

/-- The CODE byte of FETCH is eight zeros (R165). -/
theorem wholeBytes_eq_fetch_iff {bits : List Bool} (h : bits.length = 8) :
    wholeBytes bits = [0x00] ↔ bits = List.replicate 8 false := by
  refine ⟨fun code => ?_, fun zeros => zeros ▸ rfl⟩
  rw [wholeBytes_of_eight h] at code
  rw [← natBits_wordOf h, List.head_eq_of_cons_eq code]
  rfl

/-! ## The clocks and the end of a selection (R162, R165, R172) -/

section

variable {s : State} (low : Bool)

theorem lineStep_hostClock (s : State) (b : Bool) : lineStep (.hostClock b) s = .next { s with hpt := s.hpt.clock b } := rfl

theorem HostPort.clock_waiting {x : HostPort} (h : x.waitHsel = true) (b : Bool) : x.clock b = x := by
  rw [HostPort.clock, if_pos h]

theorem HostPort.clock_receiving {x : HostPort} {bits : List Bool} (h : x.waitHsel = false) (hf : x.frame = .receiving bits)
    (b : Bool) : x.clock b = { x with
      frame :=
        if bits.length = 7 ∧ bits ++ [b] = List.replicate 8 false then
          .sending { bytes := fetchBytes x, ready := isReady x } 0
        else .receiving (bits ++ [b]) } := by
  have code : ((bits ++ [b]).length = 8 ∧ wholeBytes (bits ++ [b]) = [0x00]) ↔
      (bits.length = 7 ∧ bits ++ [b] = List.replicate 8 false) := by
    have count : (bits ++ [b]).length = 8 ↔ bits.length = 7 := by rw [List.length_append, List.length_singleton]; omega
    rw [and_congr_right wholeBytes_eq_fetch_iff, count]
  simp only [HostPort.clock, h, hf, Bool.false_eq_true, if_false, code, HostPort.decide_eq]

theorem lineStep_hostDeselect_waiting (h : s.hpt.waitHsel = true) :
    lineStep (.hostDeselect low) s = exec .hselSeenHigh s := by
  simp only [lineStep, State.takeLine, State.deselectHost, h, if_true]

theorem lineStep_hostDeselect_idle (h : s.hpt.waitHsel = false) (hf : s.hpt.frame = .idle) :
    lineStep (.hostDeselect low) s = .next s := by
  simp only [lineStep, State.takeLine, State.deselectHost, h, hf, Bool.false_eq_true, if_false]

theorem lineStep_hostDeselect_short {bits : List Bool} (h : s.hpt.waitHsel = false) (hf : s.hpt.frame = .receiving bits)
    (short : bits.length < 8) : lineStep (.hostDeselect low) s = .next { s with hpt := { s.hpt with frame := .idle } } := by
  simp only [lineStep, State.takeLine, State.deselectHost, h, hf, Bool.false_eq_true, if_false, wholeBytes_of_short short,
    State.modHpt]

/-- The row of the CODE takes a part whose selection is over. -/
theorem lineStep_hostDeselect_command {code : Byte} {body : List Byte} {rest : List Bool} (h : s.hpt.waitHsel = false)
    (hf : s.hpt.frame = .receiving (bytesToBits (code :: body) ++ rest)) (hr : rest.length < 8) :
    lineStep (.hostDeselect low) s = exec (hostRow code body low) { s with hpt := { s.hpt with frame := .idle } } := by
  simp only [lineStep, State.takeLine, State.deselectHost, h, hf, Bool.false_eq_true, if_false,
    wholeBytes_bytesToBits _ hr, State.modHpt]

theorem lineStep_hostDeselect_sending {f : Fetched} {clocks : Nat} (h : s.hpt.waitHsel = false)
    (hf : s.hpt.frame = .sending f clocks) :
    lineStep (.hostDeselect low) s = .next { s with hpt := fetched s.hpt f.bytes f.ready (clocks / 8) } := by
  simp only [lineStep, State.takeLine, State.deselectHost, h, hf, Bool.false_eq_true, if_false, State.modHpt,
    HostPort.endFetch_eq]

/-! ## The row of a CODE (R162, R175) -/

/-- The row a CODE makes does what every command of the table with that CODE does; HOLD_OUTPUT has two, alike in effect. -/
theorem exec_hostRow_fixed (s : State) (body : List Byte) : ∀ c ∈ fixedCommands false low,
    exec (hostRow c.2.1 body low) s = exec (c.1 body) s := by
  have hold : exec (hostRow 0x15 body low) s = exec (.holdOutput body) s := by
    have made : hostRow 0x15 body low = if isReleaseBody body then .holdOutputRelease body else .holdOutput body := rfl
    rw [made]
    split <;> rfl
  simp only [fixedCommands, List.forall_mem_cons, List.not_mem_nil, false_implies, implies_true, and_true]
  iterate 20 refine ⟨rfl, ?_⟩
  refine ⟨hold, hold, ?_⟩
  and_intros <;> rfl

theorem hostRow_unknown {code : Byte} (h : 0x2C < code.toNat) (body : List Byte) :
    hostRow code body low = .unknownCommand code body := by
  unfold hostRow
  split
  case h_45 => rfl
  all_goals omega

end

/-! ## CLEAR_EVENTS (R168) -/

/-- The flags that CLEAR_EVENTS leaves: those its mask does not select, and RECORDS_READY. -/
theorem getLsbD_clearedFlags (flags : BitVec 27) (ps : List Byte) (i : Nat) :
    (flags &&& ~~~ (flagMaskOf ps &&& ~~~ Flag.recordsReady.bit)).getLsbD i =
      (flags.getLsbD i && !((bytesToNat ps).testBit i && decide (i ≠ 0))) := by
  by_cases hi : i < 27
  · simp only [BitVec.getLsbD_and, BitVec.getLsbD_not, Flag.getLsbD_bit, flagMaskOf, BitVec.getLsbD_ofNat]
    by_cases ready : i = 0 <;> simp [hi, ready, Flag.index]
  · simp [BitVec.getLsbD_of_ge flags i (Nat.le_of_not_lt hi)]

end Sys2Proof.Machine

namespace Sys2Proof.Proofs

open Sys2Proof.Machine Sys2Proof.Claims

/-- Settles O49: every row of fixed length hands its frame to the one length check. -/
theorem hostChecks : Obligations.HostChecks :=
  ⟨fun hsel low c hc =>
    have checks := fixedCommands_checkLength hsel low c hc
    ⟨checks.refuses, checks.ignores⟩,
    fun s _ body h => exec_unknownCommand h s body⟩

/-- Settles O51: each line event by the state of the frame assembly that it finds. -/
theorem hostClocksMakeFrames : Obligations.HostClocksMakeFrames := by
  refine fun s low => ⟨fun hw => ⟨lineStep_hostDeselect_waiting low hw, fun b => ?_⟩, fun hw hf => ⟨?_,
    lineStep_hostDeselect_idle low hw hf, fun b => ?_⟩, fun bits hw hf => ⟨?_, fun b seven zeros => ?_, fun b other => ?_,
    lineStep_hostDeselect_short low hw hf, ?_⟩, fun f clocks hw hf => ⟨?_, fun b => ?_,
    lineStep_hostDeselect_sending low hw hf⟩⟩
  · rw [lineStep_hostClock, HostPort.clock_waiting hw]
  · rw [HostPort.clockOut, hf]
  · simp only [lineStep_hostClock, HostPort.clock, hw, hf, Bool.false_eq_true, if_false]
  · rw [HostPort.clockOut, hf]
  · rw [lineStep_hostClock, HostPort.clock_receiving hw hf, if_pos ⟨seven, zeros⟩]
  · rw [lineStep_hostClock, HostPort.clock_receiving hw hf, if_neg (not_and_or.mpr other)]
  · rintro code body rest u hr rfl rfl
    rw [lineStep_hostDeselect_command low hw hf hr]
    refine ⟨?_, ?_, fun h => by rw [hostRow_unknown low h]⟩
    · rintro c hc rfl
      exact exec_hostRow_fixed low _ body c hc
    · rintro rfl
      rfl
  · rw [HostPort.clockOut, hf]
  · simp only [lineStep_hostClock, HostPort.clock, hw, hf, Bool.false_eq_true, if_false]

/-- Settles O50: the row decides and ends the frame in one. -/
theorem fetchReturns : Obligations.FetchReturns := by
  intro s n
  refine congrArg Host.Outcome.next ?_
  simp only [HostPort.endFetch_eq, HostPort.decide_eq, HostPort.closed_iff, State.modHpt, taken]

/-- Settles O53: the block's mask, bit by bit, and its answer with the flags as they stood. -/
theorem clearEventsClearsSelectedFlags : Obligations.ClearEventsClearsSelectedFlags := by
  intro s b3 b2 b1 b0 extra
  refine ⟨_, getLsbD_clearedFlags s.hpt.flags [b3, b2, b1, b0], congrArg Host.Outcome.next ?_⟩
  rw [State.hostCommand_frame (n := 4) s 0x04 [b3, b2, b1, b0] extra _ rfl (by decide)]
  exact congrArg (taken s) (State.answer_ok rfl _ _)

/-- Settles O54: the block replaces the mask and judges ATTN with it. -/
theorem setEventMaskReplacesTheMask : Obligations.SetEventMaskReplacesTheMask := by
  rintro s b3 b2 b1 b0 extra _ rfl
  refine congrArg Host.Outcome.next ?_
  rw [State.hostCommand_frame (n := 4) s 0x05 [b3, b2, b1, b0] extra _ rfl (by decide)]
  exact congrArg (taken s) (State.answer_ok rfl _ _)

end Sys2Proof.Proofs

namespace Sys2Proof.Machine

/-! ## The queues outlast every command (log entries 1 and 19) -/

/-- The commands and the line events that wait stand as they were. -/
structure State.SameQueues (s t : State) : Prop where
  pending : t.pending = s.pending
  lines : t.lines = s.lines

theorem State.SameQueues.refl (s : State) : s.SameQueues s := ⟨rfl, rfl⟩

theorem State.SameQueues.trans {s t u : State} (h : s.SameQueues t) (k : t.SameQueues u) : s.SameQueues u :=
  ⟨k.pending.trans h.pending, k.lines.trans h.lines⟩

theorem State.SameQueues.ite {s t u : State} {c : Prop} [Decidable c] (h : s.SameQueues t) (k : s.SameQueues u) :
    s.SameQueues (if c then t else u) := by
  split
  · exact h
  · exact k

theorem State.answer_sameQueues (s : State) (code : Byte) (r : Reply) : s.SameQueues (s.answer code r) :=
  ⟨by simp, by simp⟩

/-- A command frame reaches the queues through its block alone. -/
theorem State.hostCommand_sameQueues {s : State} {code : Byte} {n : Nat} {body : List Byte}
    {block : State → List Byte → Reply × State} (h : ∀ ps, s.SameQueues (block s ps).2) :
    s.SameQueues (s.hostCommand code n body block) :=
  State.hostCommand_keeps (fun u code r k => k.trans (u.answer_sameQueues code r)) (.refl s) h

/-- The blocks of the settings, the holds, the capture queues and the reads that take parameters; those of the datums and the
axis states apart. -/
def blocksOfSettings : List (State → List Byte → Reply × State) :=
  [setLinkBlock, readLinkCountersBlock, setCorrectionBlock, setAmplitudeBlock, setDirectionBlock, setBridgeBlock,
    holdOutputBlock, setOpticsBlock, setConditionsBlock, setExpansionBlock, setPlausibilityBlock, setProbeBlock,
    setFrameBlock, setSampleCheckBlock, setNotifyBlock, setLayoutBlock, setTriggerBlock, queueContextBlock, flushContextsBlock,
    setCaptureBlock, readCapturesBlock, setMicroLinkBlock, setMonitorBlock, clearMonitorBlock, setAlertBlock,
    readPositionBlock, clearEventsBlock]

theorem datumNowAt_sameQueues (s : State) (a : Axis) (v : Int) : s.SameQueues (datumNowAt s a v).2 := by
  have load : s.SameQueues (((s.loadDatum a v).reportToCapture a .epochChange).accept).2 :=
    ⟨by simp [State.accept], by simp [State.accept]⟩
  unfold datumNowAt
  split
  case h_1 | h_2 => exact .refl s
  all_goals
    split
    · exact load
    · exact .refl s

theorem datumNowBlock_sameQueues (s : State) (ps : List Byte) : s.SameQueues (datumNowBlock s ps).2 := by
  unfold datumNowBlock
  split
  · split
    · exact datumNowAt_sameQueues s _ _
    · exact .refl s
  · exact .refl s

theorem blocksOfSettings_sameQueues (s : State) (ps : List Byte) :
    ∀ block ∈ blocksOfSettings, s.SameQueues (block s ps).2 := by
  simp only [blocksOfSettings, List.forall_mem_cons, List.not_mem_nil, false_implies, implies_true, and_true,
    setLinkBlock, readLinkCountersBlock, setCorrectionBlock, setAmplitudeBlock, setDirectionBlock, setBridgeBlock,
    holdOutputBlock, setOpticsBlock, setConditionsBlock, setExpansionBlock, setPlausibilityBlock, setProbeBlock,
    setFrameBlock, setSampleCheckBlock, setNotifyBlock, setLayoutBlock, setTriggerBlock, queueContextBlock, flushContextsBlock,
    setCaptureBlock, readCapturesBlock, setMicroLinkBlock, setMonitorBlock, clearMonitorBlock, setAlertBlock,
    readPositionBlock, clearEventsBlock, State.accept, State.report, State.refuse]
  and_intros
  all_goals (repeat' split) <;> exact ⟨by simp, by simp⟩

theorem axisBlocks_sameQueues (s : State) (a : Axis) : ∀ act ∈ axisBlocks, s.SameQueues (act s a).2 := by
  simp only [axisBlocks, List.forall_mem_cons, List.not_mem_nil, false_implies, implies_true, and_true, enableAxisBlock,
    disableAxisBlock, ackFaultBlock, releaseAxisBlock, axisRestartBlock, State.accept, State.refuse]
  and_intros
  all_goals split <;> exact ⟨by simp, by simp⟩

theorem datumAtMarkAt_sameQueues (s : State) (a : Axis) (d : Datum) : s.SameQueues (datumAtMarkAt s a d).2 := by
  unfold datumAtMarkAt
  split <;> exact ⟨rfl, rfl⟩

/-- A message of the microscope link reaches the queues through its act alone. -/
theorem State.takeMessage_sameQueues {s : State} {act : State → List Byte × State}
    (h : ∀ u : State, u.SameQueues (act u).2) : s.SameQueues (s.takeMessage act) := by
  unfold State.takeMessage
  exact .ite ⟨by simp [(h _).pending], by simp [(h _).lines]⟩ (.refl s)

theorem microQueueAct_sameQueues (params : List Byte) (s : State) : s.SameQueues (microQueueAct params s).2 := by
  unfold microQueueAct
  (repeat' split) <;> exact ⟨rfl, rfl⟩

theorem flushOwnAct_sameQueues (params : List Byte) (s : State) : s.SameQueues (flushOwnAct params s).2 := by
  unfold flushOwnAct
  split <;> exact ⟨rfl, rfl⟩

/-- No command, the two resets among them, touches the commands and line events that wait behind it. -/
theorem exec_sameQueues {i : Instr} {s t : State} (h : exec i s = .next t) : s.SameQueues t := by
  have listed : ∀ {code n body block}, block ∈ blocksOfSettings → s.SameQueues (s.hostCommand code n body block) :=
    fun hb => State.hostCommand_sameQueues (fun ps => blocksOfSettings_sameQueues s ps _ hb)
  have axis : ∀ {code body act}, (∀ a, s.SameQueues (act s a).2) →
      s.SameQueues (s.hostCommand code 1 body (axisCommand act)) :=
    fun ha => State.hostCommand_sameQueues (axisCommand_keeps (.refl s) ha)
  have datum : ∀ {code body act}, (∀ a d, s.SameQueues (act s a d).2) →
      s.SameQueues (s.hostCommand code 8 body (datumCommand act)) :=
    fun ha => State.hostCommand_sameQueues (datumCommand_keeps (.refl s) ha)
  cases i <;> obtain rfl := Host.Outcome.next.inj h
  case powerOnReset => exact ⟨rfl, rfl⟩
  case resetUnit =>
    refine .ite (.refl s) ?_
    split
    · exact s.answer_sameQueues _ _
    · exact ⟨rfl, rfl⟩
  case unknownCommand => exact .ite (.refl s) (s.answer_sameQueues _ _)
  case microQueueContext params => exact State.takeMessage_sameQueues (microQueueAct_sameQueues params)
  case flushOwn params => exact State.takeMessage_sameQueues (flushOwnAct_sameQueues params)
  case query => exact State.takeMessage_sameQueues (fun u => .refl u)
  case microUnknownCode => exact .ite (.refl s) (State.takeMessage_sameQueues (fun u => .refl u))
  case readStatus | readFrameState | readServoState => exact State.hostCommand_sameQueues (fun _ => .refl s)
  case setEventMask => exact State.hostCommand_sameQueues (fun _ => ⟨rfl, rfl⟩)
  case readTracking => exact axis (fun _ => .refl s)
  case enableAxis | disableAxis | ackFault | releaseAxis | axisRestart =>
    exact axis (fun a => axisBlocks_sameQueues s a _ (by simp [axisBlocks]))
  case datumNow => exact State.hostCommand_sameQueues (datumNowBlock_sameQueues s)
  case setDatumPreset => exact datum (fun _ _ => ⟨rfl, rfl⟩)
  case datumAtMark => exact datum (datumAtMarkAt_sameQueues s)
  case readConditions | readCaptureState | readAlertState =>
    exact State.hostCommand_sameQueues (clearCommand_keeps (.refl s) (fun _ => .ite ⟨rfl, rfl⟩ (.refl s)))
  case setLayout =>
    have taken : ∀ {n body}, s.SameQueues (s.hostCommand 0x20 n body setLayoutBlock) :=
      listed (by simp [blocksOfSettings])
    split
    · exact .ite (.refl s) (.ite (s.answer_sameQueues _ _) taken)
    · exact taken
  case setLink | readLinkCounters | setCorrection | setAmplitude | setDirection | setBridge | holdOutput | holdOutputRelease |
      setOptics | setConditions | setExpansion | setPlausibility | setProbe | setFrame | setSampleCheck | setNotify |
      setTrigger | queueContext | flushContexts | setCapture | readCaptures | setMicroLink | setMonitor | clearMonitor |
      setAlert | readPosition | clearEvents =>
    exact listed (by simp [blocksOfSettings])
  -- What is left are the events of the links, the timers and the pins: each branch is built of operations with frame lemmas.
  all_goals (repeat' split) <;> exact ⟨by simp, by simp⟩

/-! ## The step of a part with a command waiting -/

theorem step_of_pending {s : State} {c : Instr} {rest : List Instr} (h : s.pending = c :: rest) :
    step s = exec c (s.withPending rest) := by
  rw [step, h]

end Sys2Proof.Machine

namespace Sys2Proof.Proofs

open Sys2Proof.Machine

/-- Settles O1: the front command meets the state with the queue's rest. -/
theorem stepTakesTheFrontCommand : Obligations.StepTakesTheFrontCommand :=
  fun _ _ _ h => step_of_pending h

/-- Settles O3: every command answers a next state, and each leaves both queues. -/
theorem commandsLeaveTheQueue : Obligations.CommandsLeaveTheQueue := by
  intro c s
  obtain ⟨t, ht⟩ := exec_isNext c s
  obtain ⟨pending, lines⟩ := exec_sameQueues ht
  exact ⟨t, ht, pending, lines⟩

end Sys2Proof.Proofs
